-- ==== Sys2Proof/Word.lean ====
section
/-!
DEFINITION. The machine's words: registers are 32 bits wide and aligned to 4 bytes (R21); memory and message
bytes are 8 bits. Bits are numbered from 0 at the least significant bit (R14).
-/
namespace Sys2Proof

/-- A register word (R21). -/
abbrev Word := BitVec 32

/-- A byte. -/
abbrev Byte := BitVec 8

/-- A 16-byte unit of the crossing (R113), a 16-byte tile header, or a 16-byte part of a slot. -/
abbrev Unit128 := BitVec 128

/-- A line of 64 bytes. -/
abbrev Line := BitVec 512

end Sys2Proof
end

