-- ==== Sys2Proof/Messages.lean ====
section
/-!
DEFINITION. What travels between the halves and at the ports of the crossing: messages of classes M, C and K
(R113 to R117), link control frames (R99), stream frames (R120), and frames as the wires carry them (R84, R85).
The layouts of the fields are where they are read and written (Machine/Msg.lean).
-/
namespace Sys2Proof

/-- A message of class M, C or K: its header unit, with the type in bits [7:0], and its data units (R113). -/
structure XMsg where
  hdr : Unit128
  data : List Unit128
  deriving DecidableEq, Repr

/-- What a half hands to a group for sealing: a message with its class (R92, R113), a link control frame with
its type and its bytes from 2 upward (R99), one that must go on the groups of a tile and set index (R101), or a class S
stream frame (R120). -/
inductive XItem where
  | msg (cls : Nat) (m : XMsg)
  | ctrl (ty : Nat) (body : BitVec 1008)
  | ctrlOn (tile set ty : Nat) (body : BitVec 1008)
  | stream (payload : BitVec 1024)
  deriving DecidableEq, Repr

/-- A frame: payload bit 64b + i is data wire i in beat b (R84); control bits 0 NAKP, 1 NAKS, 2 CTRL, 3 RETRY
(R85). -/
structure Frame where
  payload : BitVec 1024
  nakp : Bool
  naks : Bool
  ctrl : Bool
  retry : Bool
  deriving DecidableEq, Repr

/-- A frame as it is received: the frame as sampled, its received CRC-12 (R86), the 16 beats sampled on
spare wires 0, 1, … during the frame (R96), and whether the strobe toggled (R82). -/
structure RxFrame where
  frame : Frame
  crc : BitVec 12
  spares : List (BitVec 16)
  strobe : Bool := true
  deriving DecidableEq, Repr

/-- A request on the client port (rq channel of R123): the fields of the header and the data. -/
structure ClientReq where
  op : Nat
  cid : Nat
  part : Nat
  laddr : Nat
  arg : Nat
  data : Line
  deriving DecidableEq, Repr

/-- A response on the client port (rs channel of R123). -/
structure ClientRsp where
  rsp : Nat
  cid : Nat
  cause : Nat
  data : Line
  deriving DecidableEq, Repr

/-- A tile of the end-to-end layer: its 128-bit port header and its payload bytes (R120, R220). -/
structure Tile where
  hdr : Unit128
  data : List Byte
  deriving DecidableEq, Repr

/-- A routed message (R200): its virtual channel, the fields of the route header, and the slots after the first. -/
structure RMsg where
  vc : Nat
  dst : Nat
  src : Nat
  flow : Nat
  part : Nat
  hops : Nat
  mtype : Nat
  sinc : Nat
  body : List Unit128
  deriving DecidableEq, Repr

end Sys2Proof
end

