-- ==== Sys2Proof/Inputs.lean ====
section
/-!
DEFINITION. What commands carry in from the surroundings besides messages: supply rails, the masters that reach
registers, beats of the tensor stream port, and the results of reading the flash.
-/
namespace Sys2Proof

/-- The supply rails of R69. -/
inductive Rail where
  | kt | kb | aon
  deriving DecidableEq, Repr

/-- The sources of register accesses (R406): Kalvon-B's own port, the tunnel from Kalvon-T, Kalvon-T's own port,
the side-band, and the test port of a half. -/
inductive Master where
  | bPort | tunnel | tPort | side | debug
  deriving DecidableEq, Repr

/-- Where a master reaches the registers from: Kalvon-B's port, Kalvon-T's port, the side-band controller by its EID, the
test port of a half (R406, R454). -/
inductive Port where
  | bPort | tPort | side (eid : Nat) | tap (atB : Bool)
  deriving DecidableEq, Repr

/-- An error that has come about in a stored word since the last command: the memory (0 routing table, 1 schedule memory,
2 program store, 3 Blend's store, 4 + n the replay buffer of link n), the word's place in it, and whether two bits differ
(assumption 2). -/
structure Upset where
  mem : Nat
  addr : Nat
  two : Bool
  deriving DecidableEq, Repr

/-- One beat of a tensor stream ingress channel (R52); the header is meaningful with `sop`, and a command gives the first beat's. -/
structure TsiBeat where
  sop : Bool
  eop : Bool
  data : BitVec 4096
  hdr : Unit128 := 0
  deriving DecidableEq, Repr

/-- One section of an image as its slot holds it: TYPE, OFFSET, LENGTH, and its words as (ADDR, VALUE) (R380). -/
structure ImgSection where
  ty : Nat
  offset : Nat
  length : Nat
  words : List (Nat × Nat)
  deriving DecidableEq, Repr

/-- What boot step 2 reads of a slot: whether the flash failed; the header's fields (R379); the sections; whether the
signature verifies (R382). -/
structure SlotRead where
  flashErr : Bool
  magic : Nat
  fmt : Nat
  hdrlen : Nat
  target : Nat
  build : Nat
  keyid : Nat
  seq : Nat
  totlen : Nat
  nsect : Nat
  sections : List ImgSection
  sigOk : Bool
  deriving DecidableEq, Repr

/-- What boot step 3 reads of the factory section (R386): header fields; whether CRC and signature are good; SERIAL,
CALCNT, CALTIME; tap targets by 69g + w that differ from 32; spare maps by group that differ from 0x7F7F7F7F; the
sensors' offsets. -/
structure FacRead where
  magic : Nat
  fmt : Nat
  build : Nat
  ngrp : Nat
  crcOk : Bool
  sigOk : Bool
  serial : Nat
  calcnt : Nat
  caltime : Nat
  taps : List (Nat × Nat)
  maps : List (Nat × Nat)
  cal : List Int
  deriving DecidableEq, Repr

/-- The retained tap copy (R395). -/
structure TapCopy where
  magic : Nat
  ngrp : Nat
  crcOk : Bool
  taps : List (Nat × Nat)
  maps : List (Nat × Nat)
  deriving DecidableEq, Repr

/-- The newest complete journal segment (R396, R397): its number, SSEQ, INC, the valid incarnation records in order and
how many are used, and its copy of Caddy: register words by key, the anchor as (FINC, size in MiB, base), SEQFLOOR,
DEFREQ. -/
structure JournalSeg where
  seg : Nat
  sseq : Nat
  inc : Nat
  recs : List Nat
  used : Nat
  words : List (Nat × Nat)
  anchor : Option (Nat × Nat × Nat)
  seqFloor : Nat
  defReq : Bool
  deriving DecidableEq, Repr

end Sys2Proof
end

