-- ==== Sys2Proof/Syntax.lean ====
section
/-!
DEFINITION. The commands of the block: one constructor per row of spec/opcode_table.json, in the table's order.
A row of the table gives no operand fields; the operands are what the rule of the row needs from outside the
block: which group, link, flow or program is meant, the fields or the words of a message received, the samples
on the pins, and the results that the surroundings return (assumption 2).
-/
namespace Sys2Proof

/-- The commands. The docstring of each is the table's summary, with the rule it names. -/
inductive Instr where
  /-- PORST_ASSERT: Both porst_n inputs fall, and the main domain of each half enters reset; an outstanding register access is lost. (R73) -/
  | porstAssert (b : Bool) (t : Bool)
  /-- PORST_RELEASE: porst_n is released through the level synchroniser, the main domain leaves reset and Kalvon-B begins boot. (R373) -/
  | porstRelease (b : Bool) (t : Bool) (bTest : Bool) (tTest : Bool)
  /-- VDD_AON_POWER_ON: A power-on of VDD_AON resets the always-on domain and clears Caddy, the trip latch and the fences. (R36) -/
  | vddAonPowerOn
  /-- SUPPLY_RESET_LEVEL: VDD_KT or VDD_KB stays below its reset level for longer than 5 ns; Kalvon-B holds all traffic, records the cause and drives b_rst_req_n_o. (R71) -/
  | supplyResetLevel (rail : Rail)
  /-- AON_RESET_LEVEL: VDD_AON falls below its reset level; the main domain holds all traffic and the always-on domain resets as at power-on. (R71) -/
  | aonResetLevel (mainUp : Bool)
  /-- SUPPLY_WARNING: A rail falls below its warning level; SAGW is set and, for VDD_KT or VDD_KB, the sag ceiling takes effect from the next tick. (R367) -/
  | supplyWarning (rail : Rail)
  /-- SAG_HOLD_EXPIRY: The rail has been above its warning clear level for HOLD µs, and C_sag returns to 255. (R367) -/
  | sagHoldExpiry (rail : Rail)
  /-- RST_REQ_PULSE_END: The b_rst_req_n_o pulse of at least 200 ACLK ends. (R74) -/
  | rstReqPulseEnd
  /-- RST_REQ_UNHONOURED: b_porst_n_i is not asserted within 20 µs of a reset request, so Kalvon-B resets its own main domain and records UNHON. (R74) -/
  | rstReqUnhonoured
  /-- THERMAL_TRIP: A sensor reads 115 °C or more; the trip latch sets, b_trip_n_o goes low and every permit is sent as 0 with NOW = 1. (R75) -/
  | thermalTrip (sensor : Nat) (reading : Int)
  /-- TRIP_CLEAR: A side-band write of KB_PAC_TRIPCLR.CLR releases the trip latch if every sensor reads below 100 °C, and refuses with TCLRREJ otherwise. (R366) -/
  | tripClear (src : Port)
  /-- EPOCH_MARKER: An epoch marker is taken; F takes the correction's F0 or its continuation, and off-schedule markers are counted. (R260) -/
  | epochMarker (bad : Bool)
  /-- EPOCH_MISS: No marker arrives in the expected KCLK; EPOCHMISS is set, and after three misses in a row the device enters HOLDOVER. (R259) -/
  | epochMiss
  /-- CORRECTION_SEND_POINT: Half an epoch before a marker, the leader or root runs the control law and floods TCORR_A and TCORR_B. (R268) -/
  | correctionSendPoint
  /-- CORRECTION_FREEZE: 50 µs before the marker, the time-base state for that marker is settled; later corrections are discarded. (R267) -/
  | correctionFreeze
  /-- TT_REQ_TIMER: Every TTPER µs, a leader sends TT_REQ on its parent link. (R264) -/
  | ttReqTimer
  /-- TT_RSP_TIMEOUT: No TT_RSP arrives within 20 µs, and the exchange is rejected with TTREJ. (R264) -/
  | ttRspTimeout (seq : Nat)
  /-- HOLDMAX_EXPIRY: The device has been in HOLDOVER for HOLDMAX ms, and its outputs become stale. (R269) -/
  | holdmaxExpiry
  /-- ROOT_START_TIMEOUT: A root with no accepted sample within 1 s starts at its next marker from KB_TIM_SET. (R272) -/
  | rootStartTimeout
  /-- PERIOD_CHANGE_GO: A write of GO in KB_TIM_PCYC_HI at the root accepts or refuses (PREJ) a period change. (R273) -/
  | periodChangeGo (src : Port) (v : Nat)
  /-- TIME_SEND_TIMER: Every 4,096 KCLK, Kalvon-B sends TIME to Kalvon-T. (R118) -/
  | timeSendTimer
  /-- ENERGY_SAMPLE: An energy sample for one channel is transferred on the telemetry input. (R64) -/
  | energySample (ch : Nat) (data : Nat)
  /-- ENERGY_CHANNEL_MISSING: A channel has had no sample for 1 ms; it keeps its last rate, is marked missing and CHMISS is set. (R361) -/
  | energyChannelMissing (ch : Nat)
  /-- IMAGE_STEP_DONE: Boot step 2 completes: discovery, slot choice, signature and content checks, with class I applied or the boot stopped with STOPC 1 or 2. (R383) -/
  | imageStepDone (flash : Option (Nat × Bool)) (caddyBad : Bool) (journal : Option Nat) (a : SlotRead) (b : SlotRead)
  /-- RESTORE_STEP_DONE: Boot step 3 completes: factory data, Caddy check, restore of class C, and the new incarnation number programmed. (R393) -/
  | restoreStepDone (fac : Option FacRead) (copy : Option TapCopy) (seg : Option JournalSeg) (caddyBad : Bool) (progOk : Bool) (newSeg : Nat)
  /-- TAP_STEP: Once per µs, each tap that differs from its target moves one step toward it. (R89) -/
  | tapStep
  /-- RATE_SWITCH: At the count named in RATE, both halves switch every group to full rate. (R101) -/
  | rateSwitch
  /-- ALIGN_DONE: Beat alignment and depth selection of a group completes, or the group fails alignment. (R90) -/
  | alignDone (g : Nat) (depth : Nat) (strobe : Bool)
  /-- CHECK_WINDOW_END: The 2,048 KCLK PRBS-15 wire check ends; failed wires are mapped to spares, and the width token is computed. (R101) -/
  | checkWindowEnd (seen : List (Nat × List (Nat × Nat)))
  /-- TOKEN_SILENCE_TIMEOUT: Kalvon-B receives no good T→B class-K frame for 4,096 KCLK, and declares a token mismatch. (R104) -/
  | tokenSilenceTimeout
  /-- CLASS_K_LOSS_TIMEOUT: Kalvon-T receives no good B→T class-K frame for 4,096 KCLK; it holds all traffic, sets LOSS and waits for WAKE. (R104) -/
  | classKLossTimeout
  /-- IDENT_TIMEOUT: No IDENT answer within 2,048 KCLK; Kalvon-B sends IDENT again, or after 8 attempts sets IDFAIL and requests a reset. (R136) -/
  | identTimeout
  /-- CAPS_ACK_TIMEOUT: No matching CAPS_ACK within 2,048 KCLK; CAPS_SET is sent again, up to the limit of 8 attempts. (R136) -/
  | capsAckTimeout
  /-- DISCOVERY_END: Every used link has trained or failed once, or DISCMAX ms have passed; boot reaches ready. (R373) -/
  | discoveryEnd (late : Bool)
  /-- FRAME_SEAL: In its sealing slot, a group seals a frame with the messages taken in the previous KCLK, or reseals a held frame. (R87) -/
  | frameSeal (g : Nat) (at_ : Nat)
  /-- FRAME_RECEIVE: A received frame is checked; a good frame is presented in original-seal order, and a bad one is kept and NAKed. (R94) -/
  | frameReceive (g : Nat) (sealed : Nat) (rx : RxFrame)
  /-- RETRY_WAIT_TIMEOUT: A receiver has waited 64 KCLK for a RETRY frame, and group recovery starts. (R95) -/
  | retryWaitTimeout (g : Nat)
  /-- GROUP_RECOVERY_DONE: Alignment and the wire check of a recovering group end; the group returns to service with its held frames resealed, or fails. (R98) -/
  | groupRecoveryDone (g : Nat) (depth : Nat) (strobe : Bool) (seen : List (Nat × Nat))
  /-- REPAIR_SPARE_DRIVE: At slot M, the transmitting half drives the wire's bits on the spare in place of the check-wire copy. (R97) -/
  | repairSpareDrive (g : Nat)
  /-- REPAIR_READY_CHECK: At S − 64, Kalvon-B sends REPAIR_CANCEL if the receiving half is not ready or reported disagreement. (R97) -/
  | repairReadyCheck (g : Nat)
  /-- REPAIR_SWITCH: At S, both halves switch the wire onto the spare, and Kalvon-B updates the width token and sends TOKEN_SET. (R97) -/
  | repairSwitch (g : Nat)
  /-- HEIR_RESEAL_START: From X, the sending half reseals the N frames of the failed group on its heir. (R470) -/
  | heirResealStart (g : Nat)
  /-- WAKE: Kalvon-T receives WAKE, aligns the group, sets its count and answers with WAKE_ACK. (R101) -/
  | wake (tile : Nat) (set : Nat) (count : Nat) (rev : Nat)
  /-- WAKE_ACK: Kalvon-B receives WAKE_ACK and aligns the T→B groups. (R101) -/
  | wakeAck (tile : Nat) (set : Nat) (count : Nat) (rev : Nat)
  /-- TAPS: Kalvon-T receives TAPS and sets the tap targets of one B→T group. (R101) -/
  | taps (g : Nat) (taps : List Nat)
  /-- RATE: Kalvon-T receives RATE, which names the count at which full rate starts. (R101) -/
  | rate (count : Nat)
  /-- TOKEN_REQ: Kalvon-T receives TOKEN_REQ and answers with TOKEN_RPT carrying its held incarnation and tokens. (R104) -/
  | tokenReq
  /-- TOKEN_RPT: Kalvon-B receives TOKEN_RPT; all zero leads to TOKEN_SET, anything else is a mismatch. (R104) -/
  | tokenRpt (inc : Nat) (wtok : Nat) (rtok : Nat)
  /-- TOKEN_SET: Kalvon-T receives TOKEN_SET, holds the values and answers with TOKEN_RPT. (R104) -/
  | tokenSet (inc : Nat) (wtok : Nat) (rtok : Nat)
  /-- ROLES: Kalvon-T receives ROLES and applies the role word of one tile. (R101) -/
  | roles (tile : Nat) (word : Nat)
  /-- REPAIR: Kalvon-T receives REPAIR (g, w, k, M, S) and prepares the spare switch. (R97) -/
  | repair (g : Nat) (w : Nat) (k : Nat) (m : Nat) (sw : Nat)
  /-- REPAIR_RDY: Kalvon-B receives REPAIR_RDY reporting agreement or disagreement on the spare. (R97) -/
  | repairRdy (g : Nat) (bad : Bool)
  /-- REPAIR_CANCEL: Kalvon-T receives REPAIR_CANCEL; the spare returns to check copying and goes out of use. (R97) -/
  | repairCancel (g : Nat)
  /-- WIRE_RPT: Kalvon-B receives Kalvon-T's localised wire errors and counts them toward repairs. (R97) -/
  | wireRpt (g : Nat) (mask : Nat)
  /-- GROUP_STATE: Kalvon-T receives GROUP_STATE (in service, recovery or failed), and answers a failed B→T group with GROUP_RPT. (R98) -/
  | groupState (g : Nat) (st : Nat) (cause : Nat)
  /-- HOLD: Kalvon-T receives HOLD and holds all traffic. (R104) -/
  | hold
  /-- CAL: Kalvon-T receives CAL with the sweep start, DWELL and HMIN, and answers with CAL_ACK. (R458) -/
  | cal (start : Nat) (dwell : Nat) (hmin : Nat)
  /-- CAL_ACK: Kalvon-B receives CAL_ACK echoing the calibration parameters. (R458) -/
  | calAck (start : Nat) (dwell : Nat) (hmin : Nat)
  /-- HEIR: Kalvon-T receives HEIR (g, h, R, X, N) naming the heir that will carry a failed group's frames. (R470) -/
  | heir (g : Nat) (h : Nat) (r : Nat) (x : Nat) (n : Nat)
  /-- GROUP_RPT: Kalvon-B receives GROUP_RPT with R for a failed B→T group, and sends HEIR unless R is none. (R470) -/
  | groupRpt (g : Nat) (none_ : Bool) (r : Nat)
  /-- IDENT: IDENT is received; Kalvon-T answers with its own, and Kalvon-B checks versions and forms the common capabilities. (R136) -/
  | ident (atB : Bool) (m : XMsg)
  /-- CAPS_SET: Kalvon-T receives CAPS_SET and returns it unchanged in CAPS_ACK. (R136) -/
  | capsSet (m : XMsg)
  /-- CAPS_ACK: Kalvon-B receives a matching CAPS_ACK, writes the negotiated values and ends boot step 5; step 6 applies roles. (R136) -/
  | capsAck (m : XMsg)
  /-- REG_RD: A register read carried across the crossing is applied in the receiving half and answered with REG_RSP. (R117) -/
  | regRd (atB : Bool) (m : XMsg)
  /-- REG_WR: A register write carried across the crossing, including a shared setting, is checked, applied and answered with REG_RSP. (R117) -/
  | regWr (atB : Bool) (m : XMsg)
  /-- REG_RSP: A register access completes with its STS, ending the tunnelled or side-band access. (R117) -/
  | regRsp (atB : Bool) (m : XMsg)
  /-- MSI: Kalvon-T receives MSI and raises or lowers the t_irq_o line that the source maps to. (R419) -/
  | msi (m : XMsg)
  /-- TRIG: Kalvon-T receives a trigger due at KCNT and holds it. (R118) -/
  | trig (m : XMsg)
  /-- PERMIT: Kalvon-T receives 16 domain permits due at KCNT, or to apply at once with NOW = 1. (R118) -/
  | permit (m : XMsg)
  /-- OPP: Kalvon-T receives an operating-point change due at KCNT. (R118) -/
  | opp (m : XMsg)
  /-- TIME: Kalvon-T's angle follower takes cycle, angle and STALE from a TIME message. (R118) -/
  | time (m : XMsg)
  /-- THERM: Kalvon-B receives Kalvon-T's four sensor readings. (R365) -/
  | therm (m : XMsg)
  /-- THERM_SEND_TIMER: Every 1,024 KCLK, or at a first reading of 115 °C, Kalvon-T sends THERM. (R119) -/
  | thermSendTimer (readings : List Int)
  /-- THERM_TIMEOUT: No THERM for 8,192 KCLK; Kalvon-T sensors are taken as WARNT and not valid, and TSENS is set. (R365) -/
  | thermTimeout
  /-- DBG_RD: Kalvon-T reads a remote line cache array word and answers with DBG_RSP. (R117) -/
  | dbgRd (m : XMsg)
  /-- DBG_RSP: Kalvon-B receives an array word from Kalvon-T. (R117) -/
  | dbgRsp (m : XMsg)
  /-- TRIG_RELEASE: At its KCNT, or late by the rule, Kalvon-T releases a held trigger on the launch port. (R118) -/
  | trigRelease
  /-- PERMIT_RELEASE: At its KCNT, the new permits appear on t_pac_permit_o. (R53) -/
  | permitRelease
  /-- OPP_RELEASE: At its KCNT, t_pac_opp_o takes the new index and t_pac_opp_chg_o pulses. (R53) -/
  | oppRelease
  /-- RD_NC: Kalvon-B receives an uncached line read and sends it to the home. (R124) -/
  | rdNc (m : XMsg)
  /-- WR_LINE: Kalvon-B receives a full-line write and sends it to the home. (R124) -/
  | wrLine (m : XMsg)
  /-- WR_PART: Kalvon-B receives a partial write of named granules and sends it to the home. (R124) -/
  | wrPart (m : XMsg)
  /-- ATOMIC: Kalvon-B receives a 64-bit atomic and sends it to the home. (R124) -/
  | atomic (m : XMsg)
  /-- RSP_DATA: Kalvon-T receives read data for RD_NC and answers the client on rs. (R124) -/
  | rspData (m : XMsg)
  /-- RSP_ACK: Kalvon-T receives a write completion and answers the client ACK. (R124) -/
  | rspAck (m : XMsg)
  /-- RSP_ATOM: Kalvon-T receives an atomic's old value and answers the client ATOM. (R124) -/
  | rspAtom (m : XMsg)
  /-- RSP_ERR: Kalvon-T receives a failed memory request and answers the client ERR with its cause. (R133) -/
  | rspErr (m : XMsg)
  /-- RD_S: Kalvon-B receives a read for a shared copy, marks the line busy and requests it from the home. (R130) -/
  | rdS (m : XMsg)
  /-- RD_U: Kalvon-B receives a read for an exclusive copy, or refuses it for a remote window. (R130) -/
  | rdU (m : XMsg)
  /-- UPGRADE: Kalvon-B receives an upgrade from S to exclusive. (R130) -/
  | upgrade (m : XMsg)
  /-- WB: Kalvon-B receives a write-back, settling the race with an outstanding snoop. (R131) -/
  | wb (m : XMsg)
  /-- EVICT: Kalvon-B receives the drop of a clean line. (R131) -/
  | evict (m : XMsg)
  /-- GNT_S: Kalvon-T receives data in state S and answers the waiting client request. (R129) -/
  | gntS (m : XMsg)
  /-- GNT_E: Kalvon-T receives data in state E and answers the waiting client request. (R129) -/
  | gntE (m : XMsg)
  /-- GNT_UPG: Kalvon-T receives the grant of an upgrade. (R129) -/
  | gntUpg (m : XMsg)
  /-- WB_ACK: Kalvon-T receives completion of WB or EVICT and frees the way. (R129) -/
  | wbAck (m : XMsg)
  /-- GNT_ERR: Kalvon-T receives a failed coherent request, and the line stays I. (R129) -/
  | gntErr (m : XMsg)
  /-- SNP_INV: Kalvon-T receives an invalidating snoop, snoops the client if needed and answers SRSP or SRSP_DATA. (R129) -/
  | snpInv (m : XMsg)
  /-- SNP_SHR: Kalvon-T receives a downgrading snoop and answers SRSP or SRSP_DATA. (R129) -/
  | snpShr (m : XMsg)
  /-- SRSP: Kalvon-B receives a snoop response without data and answers the home agent. (R128) -/
  | srsp (m : XMsg)
  /-- SRSP_DATA: Kalvon-B receives a snoop response with dirty data and answers the home agent. (R128) -/
  | srspData (m : XMsg)
  /-- HOME_RESPONSE: A response or grant from the base die's home arrives on a memory channel and is forwarded across the crossing. (R126) -/
  | homeResponse (pair : Nat) (m : XMsg)
  /-- HOME_SNP_SHR: The home agent's SNP_SHR is resolved by the directory or sent across. (R128) -/
  | homeSnpShr (pair : Nat) (m : XMsg)
  /-- HOME_SNP_INV: The home agent's SNP_INV is resolved by the directory or sent across. (R128) -/
  | homeSnpInv (pair : Nat) (m : XMsg)
  /-- CLIENT_RD_SHARED: A client RD_SHARED is served from the cache or sent as RD_S. (R129) -/
  | clientRdShared (bank : Nat) (req : ClientReq)
  /-- CLIENT_RD_UNIQUE: A client RD_UNIQUE is served from the cache or sent as RD_U or UPGRADE. (R129) -/
  | clientRdUnique (bank : Nat) (req : ClientReq)
  /-- CLIENT_UPGRADE: A client UPGRADE is sent as UPGRADE and answered ACK. (R129) -/
  | clientUpgrade (bank : Nat) (req : ClientReq)
  /-- CLIENT_RD_NC: A client RD_NC is served from a cache hit or sent on class M without allocating. (R124) -/
  | clientRdNc (bank : Nat) (req : ClientReq)
  /-- CLIENT_WR_LINE: A client WR_LINE removes a cached line first and is sent on class M. (R124) -/
  | clientWrLine (bank : Nat) (req : ClientReq)
  /-- CLIENT_WR_PART: A client WR_PART removes a cached line first and is sent on class M. (R124) -/
  | clientWrPart (bank : Nat) (req : ClientReq)
  /-- CLIENT_ATOMIC: A client ATOMIC removes a cached line first and is sent on class M. (R124) -/
  | clientAtomic (bank : Nat) (req : ClientReq)
  /-- CLIENT_WB: A client write-back puts its data into the line, which becomes M. (R129) -/
  | clientWb (bank : Nat) (req : ClientReq)
  /-- CLIENT_EVICT: A client evict clears CP and CX. (R129) -/
  | clientEvict (bank : Nat) (req : ClientReq)
  /-- CLIENT_FLUSH: A client FLUSH removes the line as a capacity eviction does and is answered ACK. (R124) -/
  | clientFlush (bank : Nat) (req : ClientReq)
  /-- CLIENT_SNOOP_RSP: The client answers a snoop on sr, with or without data. (R129) -/
  | clientSnoopRsp (bank : Nat) (sid : Nat) (rsp : Nat) (data : Line)
  /-- RLC_FLUSH: A write of KT_XPR_CTL.FLUSH removes every line of the remote line cache. (R137) -/
  | rlcFlush (src : Port) (v : Nat)
  /-- DIR_FLUSH: A write of KB_BND_DIR_CTL.FLUSH sends SNP_INV for every valid directory entry. (R138) -/
  | dirFlush (src : Port)
  /-- RFLUSH: A write of RFLUSH sends SNP_INV for every remote directory entry, and RFLUSH clears when all are answered. (R132) -/
  | rflush (src : Port)
  /-- TSI_TILE: A tile is taken whole on a tensor stream ingress channel, or discarded on a stream error with TSIERR. (R52) -/
  | tsiTile (ch : Nat) (hdr : Unit128) (beats : List TsiBeat)
  /-- STREAM_FRAME: A class S frame is received; a complete tile is presented in TSEQ order and credits are returned. (R121) -/
  | streamFrame (atB : Bool) (payload : BitVec 1024)
  /-- LINK_EN: A write of KB_LNK_CTL.EN = 1 lets the link leave DOWN for HEALTH when USED = 1. (R151) -/
  | linkEn (src : Port) (n : Nat) (v : Nat)
  /-- LINK_DISABLE: A write of EN = 0 returns the link to DOWN and declares a held session down. (R154) -/
  | linkDisable (src : Port) (n : Nat) (v : Nat)
  /-- RETRAIN_WRITE: A write of KB_LNK_CTL.RETRAIN starts a retrain from ACTIVE, QUARANTINE or INCOMPAT. (R153) -/
  | retrainWrite (src : Port) (n : Nat) (v : Nat)
  /-- WMAX_WRITE: A change of WMAX narrows the transmit width by WIDTH_SW, or starts a widening. (R164) -/
  | wmaxWrite (src : Port) (n : Nat) (v : Nat)
  /-- HEALTH_WAIT_END: In the first attempt after reset, 1 ms has passed since _rst_n_o rose, and the engine reads begin. (R151) -/
  | healthWaitEnd (n : Nat)
  /-- OE_READ_DONE: An engine register read over Clause 45 completes, and its limits are checked. (R156) -/
  | oeReadDone (n : Nat) (addr : Nat) (v : Nat)
  /-- OE_POLL_TIMER: Every POLL ms in ACTIVE or QUARANTINE, the engine registers are read again. (R156) -/
  | oePollTimer (n : Nat)
  /-- LANE_RXLOCK_RISE: _rxlock_i rises on a lane; in DETECT the link enters LOCK. (R151) -/
  | laneRxlockRise (n : Nat) (q : Nat)
  /-- LANE_RXLOCK_FALL: _rxlock_i falls on a mapped lane, which is a lane fault, or on a spare, which goes out of use. (R161) -/
  | laneRxlockFall (n : Nat) (q : Nat)
  /-- TRAINING_BLOCK: A training or rejoin block is received and checked for block lock, CRC, PRBS errors and miswiring. (R150) -/
  | trainingBlock (n : Nat) (q : Nat) (bytes : List Nat) (skewed : Bool)
  /-- PRBS_WINDOW_END: A lane's PRBS window ends and the lane passes or fails; RXOK is updated. (R152) -/
  | prbsWindowEnd (n : Nat) (q : Nat)
  /-- FLIT_START: After SWCNT reaches 1, flits start with the chosen width and map, and the link enters EXCHANGE. The
  countdown is this side's (`tx`) or the partner's. (R152) -/
  | flitStart (n : Nat) (tx : Bool)
  /-- LINK_STATE_TIMEOUT: A training state exceeds its limit; the attempt fails, TFAIL is set and the link enters WAIT. (R154) -/
  | linkStateTimeout (n : Nat)
  /-- WAIT_EXPIRY: WAIT of 1 ms or 1 s ends, and the link starts again at HEALTH, or goes to DOWN with USED = 0. (R154) -/
  | waitExpiry (n : Nat)
  /-- INCOMPAT_RETRY_TIMER: Every 100 ms in INCOMPAT, the neighbour exchange is repeated. (R151) -/
  | incompatRetryTimer (n : Nat)
  /-- FLIT_PERIOD: In each flit period, the link layer sends a replayed, new DATA, CTRL or IDLE flit, choosing messages by deficit round robin. (R184) -/
  | flitPeriod (n : Nat) (ups : List Upset)
  /-- GEARBOX_FLIT_START: At a flit start on the LCLK side, the gearbox sends a waiting flit or the IDLE codeword. (R145) -/
  | gearboxFlitStart (n : Nat)
  /-- FLIT_RECEIVE: A codeword is decoded and checked; a DATA flit is accepted, discarded as a duplicate or ahead of a gap, or raises SEQERR. (R174) -/
  | flitReceive (n : Nat) (lanes : List (List Nat))
  /-- LANE_REPAIR_TIMEOUT: Neither swap nor width switch happens within 20 µs of a lane fault, and lock is lost. (R148) -/
  | laneRepairTimeout (n : Nat)
  /-- MIRROR_VERIFY_TIMEOUT: The mirror is not verified within 8 µs, and the width is narrowed instead. (R163) -/
  | mirrorVerifyTimeout (n : Nat)
  /-- MIRROR_CHOICE_TIMER: Every 1 ms, the receiver chooses the lane for the spare to mirror and sends MIRROR on a change. (R162) -/
  | mirrorChoiceTimer (n : Nat)
  /-- WIDTH_SWITCH_POINT: The WIDTH_SW countdown ends, and flits go at the new width and map. (R164) -/
  | widthSwitchPoint (n : Nat) (tx : Bool)
  /-- WIDEN_TIMER: Once per second while narrower than WMAX allows, the receiver starts a widening with WREQ READY = 0. (R165) -/
  | widenTimer (n : Nat)
  /-- NBR: An NBR command is received; with both SEEN, the common version is chosen and the link enters ACTIVE, QUARANTINE or INCOMPAT. (R159) -/
  | nbr (n : Nat) (seen : Bool) (quar : Bool) (link : Nat) (fna : Nat) (inc : Nat) (vendor : Nat) (part : Nat) (lo : Nat) (hi : Nat) (caps : Nat)
  /-- RETRAIN: A decoded RETRAIN command puts the partner into LOCK. (R153) -/
  | retrain (n : Nat)
  /-- MIRROR: The transmitter copies the named logical lane onto the named spare, or holds the copy when HOLD = 1. (R162) -/
  | mirror (n : Nat) (log : Nat) (spare : Nat) (hold : Bool)
  /-- WREQ: A width request: READY = 1 is answered with WIDTH_SW, READY = 0 starts rejoin blocks, an empty mask retrains. (R164) -/
  | wreq (n : Nat) (w : Nat) (mask : Nat) (ready : Bool)
  /-- WIDTH_SW: The receiver learns the new width, map and countdown of a width switch. (R164) -/
  | widthSw (n : Nat) (w : Nat) (map : Nat) (count : Nat)
  /-- LINK_JOIN: A JOIN command names the lanes that now send rejoin blocks. (R165) -/
  | linkJoin (n : Nat) (mask : Nat)
  /-- LSTATE: LSTATE of the link-up handshake is received; once both are known, the side resumes or starts a new session. (R190) -/
  | lstate (n : Nat) (held : Bool) (seenl : Bool) (enc : Bool) (done : Bool) (exp : Nat) (nxt : Nat) (base : List Nat)
  /-- REPLAY_TIMER_EXPIRY: The replay timer expires; RC increases, and a replay run starts or escalation follows. (R180) -/
  | replayTimerExpiry (n : Nat)
  /-- AGE_LIMIT_EXPIRY: The oldest unacknowledged flit has waited 800 µs, and the link is declared down. (R181) -/
  | ageLimitExpiry (n : Nat)
  /-- EL_DECAY: 100 ms pass without RC reaching RMAX, and EL returns to 0. (R181) -/
  | elDecay (n : Nat)
  /-- ACK_KEEPALIVE_TIMER: 64 KCLK since the current ACK was last sent; a CTRL flit or filler DATA flit carries it. (R175) -/
  | ackKeepaliveTimer (n : Nat)
  /-- CREDIT_RETURN_TIMER: A VC has been owed credit for 256 KCLK, and a filler DATA flit returns it. (R185) -/
  | creditReturnTimer (n : Nat)
  /-- GRACE_EXPIRY: Grace ends, and the link flushes its traffic back to the route stage. (R192) -/
  | graceExpiry (n : Nat)
  /-- CRSYNC_TIMER: Every 1 ms in resync mode, the credit giver sends CRSYNC_LO and CRSYNC_HI. (R187) -/
  | crsyncTimer (n : Nat)
  /-- CRSYNC_LO: Credit totals of VC0 to VC3 correct CRED, and CLEAK is set on a difference. (R187) -/
  | crsyncLo (n : Nat) (totals : List Nat)
  /-- CRSYNC_HI: Credit totals of VC4 to VC7 correct CRED, and CLEAK is set on a difference. (R187) -/
  | crsyncHi (n : Nat) (totals : List Nat)
  /-- KEY_LOAD: A write of KB_LNK_KLOAD.GO loads the staged key for one direction, or refuses it with KREJ. (R194) -/
  | keyLoad (src : Port) (n : Nat) (rx : Bool)
  /-- KEY_EPOCH: At the epoch time, the new key takes effect, KEP toggles and the invocation count restarts; KEPOCH is set. (R194) -/
  | keyEpoch (n : Nat) (rx : Bool)
  /-- HB_TIMER: Every HBPER µs on a link in ACTIVE or QUARANTINE, a heartbeat is sent. (R439) -/
  | hbTimer (n : Nat)
  /-- HB: A heartbeat is received; it restarts the silence timer, or sets HBFOREIGN for a foreign identity. (R440) -/
  | hb (n : Nat) (fna : Nat) (inc : Nat) (seq : Nat) (flags : Nat)
  /-- SILENCE_SUSPECT: The silence timer reaches the SUSPECT threshold, and the neighbour becomes SUSPECT. (R440) -/
  | silenceSuspect (n : Nat)
  /-- SILENCE_UNREACHABLE: The silence timer reaches the UNREACHABLE threshold, and the neighbour becomes UNREACHABLE. (R440) -/
  | silenceUnreachable (n : Nat)
  /-- TT_REQ: A time-transfer request is received, stamped t2 and answered with TT_RSP, and TT_CYC when FULL. (R263) -/
  | ttReq (n : Nat) (seq : Nat) (full : Bool)
  /-- TT_RSP: A time-transfer response is received, stamped t4, and its offset and RTT are accepted or rejected. (R264) -/
  | ttRsp (n : Nat) (seq : Nat) (stale : Bool) (pend : Bool) (t2 : Nat) (t3 : Nat)
  /-- TT_CYC: The full cycle of t3 and the period in force are received. (R262) -/
  | ttCyc (n : Nat) (seq : Nat) (cyc : Nat) (period : Nat)
  /-- TT_PCHG: A pending period change and its C_eff are received. (R273) -/
  | ttPchg (n : Nat) (period : Nat) (ceff : Nat)
  /-- TCORR_A: The first half of a correction is received. (R266) -/
  | tcorrA (n : Nat) (seq : Nat) (stale : Bool) (step : Bool) (f0 : Nat)
  /-- TCORR_B: The second half of a correction completes it; a new correction is relayed and held for the next marker, or discarded as late. (R266) -/
  | tcorrB (n : Nat) (seq : Nat) (inc : Nat) (period : Nat) (ceff : Nat)
  /-- ROUTE_MESSAGE: A message's first slot reaches the route stage and is fenced, delivered locally, discarded on the hop limit, or bound to a bundle. (R201) -/
  | routeMessage (n : Nat) (vc : Nat) (ups : List Upset)
  /-- NOROUTE_TIMEOUT: No bundle position becomes usable within NRWAIT, and the message is discarded with NOROUTE. (R205) -/
  | norouteTimeout (m : RMsg)
  /-- TABLE_WRITE: A write of a routing table entry changes the selection, recording marks and holding the moved flows. (R206) -/
  | tableWrite (src : Port) (ix : Nat) (v : Nat)
  /-- MESH_WRITE: A write of a mesh register changes the selection of its directions. (R206) -/
  | meshWrite (src : Port) (d : Nat) (hi : Bool) (v : Nat)
  /-- DRAIN_WRITE: A write of KB_RTE_DRAIN changes link usability and moves flows. (R206) -/
  | drainWrite (src : Port) (hi : Bool) (v : Nat)
  /-- FCMD_FENCE: A write of KB_RTE_FCMD_GO with OP = 0 applies a FENCE and floods it. (R214) -/
  | fcmdFence (src : Port)
  /-- FCMD_UNFENCE: A write of KB_RTE_FCMD_GO with OP = 1 applies an UNFENCE and floods it. (R214) -/
  | fcmdUnfence (src : Port)
  /-- FENCE: A FENCE bypass message is stored or ignored, relayed, and may set HOLDALL or SELFFENCE and break flows. (R215) -/
  | fence (n : Nat) (fna : Nat) (inc : Nat) (gen : Nat)
  /-- UNFENCE: An UNFENCE bypass message frees the entry and is relayed, or is ignored. (R215) -/
  | unfence (n : Nat) (fna : Nat) (inc : Nat) (gen : Nat)
  /-- NBR_ACCEPT: A write of KB_LNK_NBR.ACCEPT copies the observed identity into KB_LNK_EXP and clears QID. (R160) -/
  | nbrAccept (src : Port) (n : Nat)
  /-- TILE_SOURCE_TAKE: The tile source takes a tile, refuses it, or waits for FWIN or a free block, then assigns TSEQ and issues RWRITE. (R235) -/
  | tileSourceTake (src : Nat)
  /-- WDONE: A retention write completes; the tile is accepted in TSEQ order and sent as TILE, or the block is freed. (R235) -/
  | wdone (rid : Nat)
  /-- RDATA: A retention read returns data for a resend, rebuild, schedule entry or SEND, and its check is applied. (R239) -/
  | rdata (rid : Nat) (data : List Byte)
  /-- RERR: The base die refuses a retention request; RETERR is set and RET becomes unavailable where the request needs it. (R236) -/
  | rerr (rid : Nat)
  /-- RETENTION_RETRY_TIMER: Every 100 µs, a failed retention write or read is repeated. (R236) -/
  | retentionRetryTimer
  /-- TDELIV_DONE: The last beat of a TDELIV transfers, and the handover and the delivery log write complete. (R223) -/
  | tdelivDone (m : RMsg)
  /-- TILE: The tile destination handles a TILE: allocate, hand over, withhold, discard as duplicate or gap, or answer BRACK. (R237) -/
  | tile (m : RMsg)
  /-- TACK: The source frees the blocks of the flow up to SEQ and advances ACKED. (R238) -/
  | tack (m : RMsg)
  /-- TNAK: The source resends from SEQ, resends after ETO, or breaks the flow, by cause. (R239) -/
  | tnak (m : RMsg)
  /-- SYNC: The destination answers SYNC with SYNC_RSP, or with BRACK for a broken entry. (R246) -/
  | sync (m : RMsg)
  /-- SYNC_RSP: After a reset, the source rebuilds the flow's accepted run or breaks it. (R246) -/
  | syncRsp (m : RMsg)
  /-- BROKEN: The destination marks the flow broken and answers BRACK, or the source frees the flow's blocks. (R240) -/
  | broken (m : RMsg)
  /-- BRACK: The source breaks the flow if needed and records the boundary and UNCERTAIN. (R472) -/
  | brack (m : RMsg)
  /-- CLOSE: The destination frees its entry and answers CLOSE_ACK. (R228) -/
  | close (m : RMsg)
  /-- CLOSE_ACK: The source flow becomes closed. (R228) -/
  | closeAck (m : RMsg)
  /-- MREQ: The responder executes a remote request or answers it from its response cache. (R244) -/
  | mreq (m : RMsg)
  /-- MRSP: The requester completes a remote request, or discards a late response. (R243) -/
  | mrsp (m : RMsg)
  /-- FLOW_TIMER_EXPIRY: The flow's ETO timer expires; tiles are resent from ACKED + 1, or the flow breaks at the EMAX-th expiry. (R239) -/
  | flowTimerExpiry (f : Nat)
  /-- BROKEN_REPEAT_TIMER: BROKEN is repeated every ETO, then every 1 ms, until BRACK arrives. (R240) -/
  | brokenRepeatTimer (f : Nat)
  /-- TACK_TIMER: ACKT µs after the first uncovered delivery, the destination sends TACK. (R238) -/
  | tackTimer (src : Nat) (flow : Nat)
  /-- REQUEST_TIMER_EXPIRY: RTO passes without MRSP; the request is resent with RETRY = 1, or fails after RRMAX. (R243) -/
  | requestTimerExpiry (tag : Nat)
  /-- RESPONSE_HOLD_EXPIRY: A response cache entry is freed RHOLD after its response was sent. (R244) -/
  | responseHoldExpiry (src : Nat) (sinc : Nat) (tag : Nat)
  /-- RETENTION_REBUILD: After step 8, the tile source reads the region header and descriptors and sends SYNC for each open or closing flow. (R246) -/
  | retentionRebuild
  /-- SYNC_TIMEOUT: No SYNC_RSP arrives within EMAX × ETO, and the flow is broken. (R246) -/
  | syncTimeout (f : Nat)
  /-- SCMD_CLOSE: A write of KB_DLV_SCMD CLOSE puts the selected flow into closing. (R228) -/
  | scmdClose (src : Port)
  /-- SCMD_BREAK: A write of KB_DLV_SCMD BREAK declares the selected flow broken with cause 0x08. (R241) -/
  | scmdBreak (src : Port)
  /-- SCMD_FREE: A write of KB_DLV_SCMD FREE frees a closing or broken flow. (R228) -/
  | scmdFree (src : Port)
  /-- DCMD_FREE: A write of KB_DLV_DCMD.FREE frees the selected delivery log entry. (R227) -/
  | dcmdFree (src : Port)
  /-- POUR_ARM: A write of KB_POR_ACMD with OP = 0 reads and checks the entry and arms it, or refuses with a reason. (R282) -/
  | pourArm (src : Port) (entry : Nat)
  /-- POUR_DISARM: A write of KB_POR_ACMD with OP = 1 disarms the entry and frees its slot. (R282) -/
  | pourDisarm (src : Port) (entry : Nat)
  /-- POUR_DISABLE: A write of KB_POR_CTL.EN = 0 disarms every entry. (R282) -/
  | pourDisable (src : Port) (v : Nat)
  /-- PAGE_IN: An armed entry's window opens; it is paged into a slot, checked again and its triggers assigned release KCLKs, or it waits with SLOTFULL. (R284) -/
  | pageIn (n : Nat) (ups : List Upset)
  /-- TRIG_SEND_POINT: At k − LEAD, Pour sends TRIG, or reports a miss or a hold. (R286) -/
  | trigSendPoint (entry : Nat) (ix : Nat)
  /-- BARRIER_INSTANT: The base instant of a barrier entry is reached; KB_POR_BAR is written, BAR set and waiting programs woken. (R289) -/
  | barrierInstant (n : Nat)
  /-- HINT_TIME: HLEAD before the base instant, Pour gives Pace a phase hint. (R290) -/
  | hintTime (n : Nat)
  /-- PACE_TICK: At each tick boundary, Pace runs its control law, computes permits and sends PERMIT on a change. (R357) -/
  | paceTick (readings : List Int)
  /-- THERMAL_CEILING_UPDATE: Every 1,000 ticks, C_therm moves by TSTEP according to Tmax. (R365) -/
  | thermalCeilingUpdate
  /-- MISM_WINDOW: Every 100 µs, Pace compares P_meas and P_est and sets or clears MISM after 101 windows. (R362) -/
  | mismWindow
  /-- OPP_CHANGE_REQUEST: A write of KB_PAC_OPPNEW.GO accepts a pending operating-point change or refuses it with OPPREJ. (R359) -/
  | oppChangeRequest (src : Port) (opp : Nat)
  /-- OPP_INSTANT: The instant of a change is reached; KB_PAC_STATUS.OPP takes the new index and OPPCHG is set. (R359) -/
  | oppInstant
  /-- DESCRIPTOR_CONFIG_WRITE: A write to a descriptor's configuration applies if the descriptor is FREE, and sets DREJ otherwise. (R306) -/
  | descriptorConfigWrite (src : Port) (rd : Nat) (w : Nat) (v : Nat)
  /-- BLD_ARM: KB_BLD_DCMD ARM checks the descriptor and enters INIT, or refuses with a reason. (R307) -/
  | bldArm (src : Port) (rd : Nat)
  /-- BLD_CLEAR: KB_BLD_DCMD CLEAR resets the positions through INIT and sets RECV = 0. (R308) -/
  | bldClear (src : Port) (rd : Nat)
  /-- BLD_FREE: KB_BLD_DCMD FREE returns the descriptor to FREE. (R308) -/
  | bldFree (src : Port) (rd : Nat)
  /-- INIT_DONE: The identity has been written to every position, and the descriptor enters ACCUM. (R307) -/
  | initDone (rd : Nat)
  /-- BLEND_TAKE: Blend takes the oldest ready tile into its lanes, or discards it, and updates RECV. (R311) -/
  | blendTake (ups : List Upset)
  /-- BLEND_TWAIT_EXPIRY: A tile has waited TWAIT µs for its descriptor, and is discarded with BADTILE. (R310) -/
  | blendTwaitExpiry (k : Nat)
  /-- EMISSION_DONE: The last position of an emission is read; the descriptor is freed, cleared, or returned to its previous state. (R312) -/
  | emissionDone (rd : Nat)
  /-- SHADOW_MISMATCH: A target lane and the shadowing spare disagree; lanes are held and the update is computed again. (R317) -/
  | shadowMismatch (g : Nat) (sig : Nat) (again : Bool)
  /-- KAT_VERDICT: The known-answer tests end; the target or the spare is retired, the held update is written and the lanes resume. (R317) -/
  | katVerdict (targetPass : Bool) (sparePass : Bool)
  /-- PROG_START: KB_BLD_PCMD START sets G0, the PC and READY, or refuses with PREJ. (R327) -/
  | progStart (src : Port) (p : Nat)
  /-- PROG_STOP: KB_BLD_PCMD STOP lets a started command complete, then puts the program in STOPPED. (R327) -/
  | progStop (src : Port) (p : Nat)
  /-- PROG_TABLE_WRITE: A write to a program table entry applies when the program is not running, and sets PREJ otherwise. (R325) -/
  | progTableWrite (src : Port) (p : Nat) (b : Bool) (v : Nat)
  /-- PRG_COMMIT: A write of KB_PRG_HI commits the whole 64-bit store word in one KCLK. (R324) -/
  | prgCommit (src : Port) (w : Nat) (v : Nat)
  /-- CONTEXT_LOAD: A free context is allocated to a due or READY program and its state is loaded. (R341) -/
  | contextLoad (ups : List Upset)
  /-- QUANTUM_EXPIRY: A running program has issued QNT × 16 instructions while another waits, and it gives up its context. (R341) -/
  | quantumExpiry (p : Nat)
  /-- PROGRAM_WAKE: The instant of a WAITA is reached, and the program continues after its wait. (R339) -/
  | programWake (p : Nat)
  /-- DEADLINE_MISS: A deadline is reached during RECV; DLMISS and a lapse are recorded, and the program may realign. (R343) -/
  | deadlineMiss (p : Nat)
  /-- NOP: The instruction does nothing. (R331) -/
  | nop (p : Nat)
  /-- END: The program enters DONE, sets PDONE and releases its context. (R327) -/
  | endProg (p : Nat)
  /-- JMP: The PC is set to T. (R331) -/
  | jmp (p : Nat)
  /-- BNZ: The PC is set to T if G[A] is not 0. (R331) -/
  | bnz (p : Nat)
  /-- LOOP: G[A] decreases by 1, and the PC is set to T if it is not 0. (R331) -/
  | loop (p : Nat)
  /-- LDI: G[D] is loaded with the sign-extended immediate. (R331) -/
  | ldi (p : Nat)
  /-- ADDI: G[D] becomes G[A] plus the sign-extended immediate. (R331) -/
  | addi (p : Nat)
  /-- ALU: G[D] becomes G[A] FN G[B], or the program faults on a reserved FN. (R331) -/
  | alu (p : Nat)
  /-- GETT: G[D] takes the current fabric time. (R331) -/
  | gett (p : Nat)
  /-- WAITA: The program waits until an instant, keeping or releasing its context by PRE. (R331) -/
  | waita (p : Nat)
  /-- JOIN: The program waits for the next barrier instant of BARID and releases its context. (R331) -/
  | join (p : Nat)
  /-- DLN: The program's deadline is set. (R343) -/
  | dln (p : Nat)
  /-- NODL: The program's deadline is cleared. (R331) -/
  | nodl (p : Nat)
  /-- RALN: The realign point is set, or cleared when CLR = 1. (R331) -/
  | raln (p : Nat)
  /-- RDCFG: A descriptor configuration field is written from G[A], applying only to a FREE descriptor. (R338) -/
  | rdcfg (p : Nat)
  /-- RDCMD: A Blend command ARM, CLEAR or FREE is issued, and G[D] takes 0 or the refusal reason. (R308) -/
  | rdcmd (p : Nat)
  /-- RECV: The program waits until the descriptor is FULL, ERROR or FREE, under its deadline. (R343) -/
  | recv (p : Nat)
  /-- RDST: G[D] takes the descriptor's RECV, STATE, ERRC and PARTIAL. (R331) -/
  | rdst (p : Nat)
  /-- EMIT: A descriptor is emitted as tiles of a template, and G[D] takes the result code. (R333) -/
  | emit (p : Nat)
  /-- CVT: A descriptor is emitted straight into another descriptor of this device. (R334) -/
  | cvt (p : Nat)
  /-- SEND: A payload is read from base-die memory and handed to the tile source as one tile. (R335) -/
  | send (p : Nat)
  /-- WTAC: The program waits until every tile it sent is accepted or refused. (R335) -/
  | wtac (p : Nat)
  /-- PTRG: A Pour entry is armed, optionally at G[A], and G[D] takes the refusal reason. (R336) -/
  | ptrg (p : Nat)
  /-- HINT: Pace is given a phase hint for the instant in G[A]. (R336) -/
  | hint (p : Nat)
  /-- SIG: PSIG is set, and the value and the program number are stored in KB_BLD_PSIGV. (R331) -/
  | sig (p : Nat)
  /-- CADDY_SCRUB: Every 1,024 KCLK, one Caddy word is scrubbed; an uncorrectable word is reloaded from the journal. (R391) -/
  | caddyScrub (found : Nat) (words : List (Nat × Nat))
  /-- JOURNAL_PERIOD_TIMER: JPER s after the previous snapshot, or after a settings change past JMIN, a journal snapshot starts. (R398) -/
  | journalPeriodTimer
  /-- SNAPSHOT_DONE: A snapshot is programmed and verified, COMPLETE is written and SNAP set, or JFAIL is set. (R398) -/
  | snapshotDone (seg : Nat) (ok : Bool)
  /-- CDY_SNAP: A write of KB_CDY_CMD.SNAP requests a snapshot. (R398) -/
  | cdySnap (src : Port)
  /-- CDY_DEFAULT: A write of KB_CDY_CMD.DEFAULT sets DEFREQ for the next boot. (R393) -/
  | cdyDefault (src : Port)
  /-- SEQFLOOR_WRITE: A side-band write raises KB_IMG_SEQFLOOR; a lower value is ignored. (R383) -/
  | seqfloorWrite (src : Port) (v : Nat)
  /-- FLASH_READ_WORD: The flash window reads one word, or refuses a protected address. (R400) -/
  | flashReadWord (src : Port)
  /-- FLASH_PROGRAM_WORD: The flash window programs one word, or refuses a protected address. (R400) -/
  | flashProgramWord (src : Port)
  /-- FLASH_ERASE: The flash window erases a 4 KiB unit, or refuses a protected address. (R400) -/
  | flashErase (src : Port)
  /-- FLASH_CMD_DONE: A flash window command completes, BUSY falls and RES records the result. (R400) -/
  | flashCmdDone (data : Nat) (ok : Bool)
  /-- ENTDAA: The I3C target takes a dynamic address in ENTDAA. (R412) -/
  | entdaa (da : Nat)
  /-- RSTDAA: The I3C target drops its dynamic address. (R412) -/
  | rstdaa
  /-- SETNEWDA: The I3C target takes a new dynamic address. (R412) -/
  | setnewda (da : Nat)
  /-- ENEC: IBIs or Hot-Join are enabled. (R412) -/
  | enec (ibi : Bool) (hj : Bool)
  /-- DISEC: IBIs or Hot-Join are disabled. (R412) -/
  | disec (ibi : Bool) (hj : Bool)
  /-- GETPID: The target returns its provisional ID. (R412) -/
  | getpid
  /-- GETBCR: The target returns BCR 0x06. (R412) -/
  | getbcr
  /-- GETDCR: The target returns DCR 0x00. (R412) -/
  | getdcr
  /-- GETSTATUS: The target returns its status. (R412) -/
  | getstatus
  /-- GETMWL: The target returns a maximum write length of 69 bytes. (R412) -/
  | getmwl
  /-- GETMRL: The target returns a maximum read length of 69 bytes. (R412) -/
  | getmrl
  /-- SETMWL: The maximum write length is set; values below 69 are ignored. (R412) -/
  | setmwl (v : Nat)
  /-- SETMRL: The maximum read length is set; values below 69 are ignored. (R412) -/
  | setmrl (v : Nat)
  /-- HOT_JOIN_TIMER: 1 ms after VDD_AON power-on without a dynamic address, the target raises Hot-Join. (R412) -/
  | hotJoinTimer
  /-- SET_ENDPOINT_ID: The MCTP endpoint takes its EID and records the controller for notes. (R413) -/
  | setEndpointId (from_ : Nat) (op : Nat) (eid : Nat)
  /-- GET_ENDPOINT_ID: The MCTP endpoint returns its EID. (R413) -/
  | getEndpointId (from_ : Nat)
  /-- GET_ENDPOINT_UUID: The MCTP endpoint returns a UUID formed from SERIAL and the provisional ID. (R413) -/
  | getEndpointUuid (from_ : Nat)
  /-- GET_MCTP_VERSION_SUPPORT: The MCTP endpoint reports base version 1.3. (R413) -/
  | getMctpVersionSupport (from_ : Nat)
  /-- GET_MESSAGE_TYPE_SUPPORT: The MCTP endpoint reports types 0x00 and 0x7F. (R413) -/
  | getMessageTypeSupport (from_ : Nat)
  /-- REG_READ: A side-band register read returns the word, or code 0x03 while unavailable. (R414) -/
  | regRead (from_ : Nat) (bs : List Nat)
  /-- REG_WRITE: A side-band register write is checked against ownership and locks and applied. (R411) -/
  | regWrite (from_ : Nat) (bs : List Nat)
  /-- SB_FENCE: The side-band FENCE command sets the HOST and TRAFFIC fence bits. (R416) -/
  | sbFence (from_ : Nat) (bs : List Nat)
  /-- SB_UNFENCE: The side-band UNFENCE command releases fence bits. (R416) -/
  | sbUnfence (from_ : Nat) (bs : List Nat)
  /-- RESET: A RESET with a valid key is answered 0x00, and a full reset is requested. (R417) -/
  | reset (from_ : Nat) (bs : List Nat)
  /-- SB_RESET_DELAY: The RESET response is read or 10 ms pass, and b_rst_req_n_o is driven. (R417) -/
  | sbResetDelay
  /-- STATUS: The side-band STATUS command returns boot state, reset cause, fences, pending alarms and INC. (R414) -/
  | status (from_ : Nat) (bs : List Nat)
  /-- ALARM_READ: The side-band reads one alarm entry and its PEND bit. (R414) -/
  | alarmRead (from_ : Nat) (bs : List Nat)
  /-- ALARM_ACK: The side-band clears the PEND bit of an alarm entry. (R422) -/
  | alarmAck (from_ : Nat) (bs : List Nat)
  /-- LOG_READ: The side-band reads one log record by SEQ, or gets code 0x06. (R414) -/
  | logRead (from_ : Nat) (bs : List Nat)
  /-- ALARM_NOTE_TIMER: NMIN ms after the last note, a note is sent for alarms that became pending in between. (R414) -/
  | alarmNoteTimer
  /-- LOG_BUCKET_REFILL: Every 100 µs, the log bucket gains LRATE tokens. (R423) -/
  | logBucketRefill
  /-- OWN_LOCK: A write of 1 to KB_OWN_LOCK or KB_OWN_TLOCK locks pages until the next full reset. (R410) -/
  | ownLock (src : Port) (ix : Nat) (v : Nat)
  /-- REGISTER_WRITE: A write to a register with no row of its own is checked against ownership, fence and locks and applied, including W1C clears and source deassertion. (R411) -/
  | registerWrite (src : Port) (key : Nat) (v : Nat)
  /-- TRACKER_RESIDENCE_TICK: Every 10 ms, the residence bin of each entry's current band increases. (R435) -/
  | trackerResidenceTick
  /-- TRACKER_AGE_EXPIRY: An entry reaches MWIN seconds of age without a verdict, and is freed. (R435) -/
  | trackerAgeExpiry (e : Nat)
  /-- BANK_COPY_DONE: The last word is copied, and the spare bank serves the bank's addresses; BANKRET is set. (R437) -/
  | bankCopyDone (mem : Nat) (bank : Nat)
  /-- MARGINAL_CLEAR: A write of KB_TEL_MCLR frees a marginal list entry, effective at the next training. (R442) -/
  | marginalClear (src : Port) (e : Nat)
  /-- BOND_LOOPBACK: A write of LPCTL.GO in test mode runs ALIGN and CHECK through the pad loopback. (R451) -/
  | bondLoopback (src : Port) (atB : Bool) (v : Nat)
  /-- BOND_LOOPBACK_DONE: The loopback test ends, its results are recorded and the loopback is deselected. (R451) -/
  | bondLoopbackDone (atB : Bool) (res : List (Nat × Nat × List Nat))
  /-- CALIBRATION_GO: A write of KB_TST_CCTL.GO starts factory deskew calibration with WAKE and CAL. (R458) -/
  | calibrationGo (src : Port) (v : Nat)
  /-- CAL_RETRY_TIMEOUT: No CAL_ACK within 2,048 KCLK; CAL is sent again with a new S, or calibration enters FAILED after 8 attempts. (R458) -/
  | calRetryTimeout
  /-- CAL_SWEEP_START: At count S, the sweep begins and bins are counted, stepping taps once per bin. (R458) -/
  | calSweepStart
  /-- CAL_SWEEP_END: The last bin ends; the field returns to half rate, targets are computed and APPLY begins. (R458) -/
  | calSweepEnd (hits : List (Nat × Nat × List Nat))
  /-- CAL_VERIFY_DONE: VERIFY ends, and calibration enters DONE or FAILED. (R458) -/
  | calVerifyDone (errs : List (Nat × List Nat))
  /-- MBIST_GO: A write of MBCTL.GO in test mode runs March C− on every memory of the half. (R455) -/
  | mbistGo (src : Port) (atB : Bool) (v : Nat)
  /-- MBIST_DONE: Memory self-test completes and MBRES records the results. (R455) -/
  | mbistDone (atB : Bool) (fails : List (Nat × List Nat))
  /-- LANE_LOOPBACK_GO: A write of KB_LNK_TST.GO runs near-end loopback on the chosen lanes, or sets REJ when the link is not DOWN. (R456) -/
  | laneLoopbackGo (src : Port) (n : Nat) (v : Nat)
  /-- LANE_LOOPBACK_DONE: Loopback ends on the lanes, PASS is recorded and the lanes are switched off. (R456) -/
  | laneLoopbackDone (n : Nat) (res : List (Nat × Bool × Nat × Bool))
  /-- TAP_RESET: trst_n or five TCK cycles with TMS high reset the TAP. (R452) -/
  | tapReset (atB : Bool) (trst : Bool)
  /-- SCONFIG: Update-DR of the die configuration register enables or disables the secondary TAP. (R453) -/
  | sconfig (atB : Bool) (v : Nat)
  /-- REGACC: Update-DR of REGACC starts a register access from the test port, with its status captured later. (R454) -/
  | regacc (atB : Bool) (key : Nat) (wr : Bool) (data : Nat)
  /-- MBIST: Update-DR of 1 in the MBIST register starts memory self-test in test mode. (R453) -/
  | mbist (atB : Bool) (v : Nat)
  /-- EXTEST: EXTEST drives the die wrapper register in test mode, and acts as BYPASS in working mode. (R453) -/
  | extest (atB : Bool) (v : Nat)
  /-- SAMPLE_PRELOAD: SAMPLE/PRELOAD captures or loads the die wrapper register. (R453) -/
  | samplePreload (atB : Bool) (seen : Nat) (v : Nat)
  /-- BOND_WAKE_TIMEOUT: The WAKE state of bond training reaches its limit with a class-K set unanswered; the set is replaced, or with none left in a direction the boot stops with cause bond wake and a full reset is requested. (R101) -/
  | bondWakeTimeout
  /-- LSTATE_HANDSHAKE_TIMEOUT: The LSTATE handshake has not completed 50 µs after the link entered ACTIVE or QUARANTINE, and the attempt fails with cause 4, exchange. (R189) -/
  | lstateHandshakeTimeout (n : Nat)
  /-- SUPPLY_WARNING_CLEAR: A rail rises 10 mV above its warning level; the warning and its KB_PAC_SAG bit clear, and the HOLD period before C_sag returns to 255 begins. (R69) -/
  | supplyWarningClear (rail : Rail)
  /-- OPP_SEND_POINT: 128 KCLK before the instant of an accepted operating-point change, Kalvon-B hands the OPP message with the instant's KCNT to the crossing. (R359) -/
  | oppSendPoint
  /-- REGISTER_READ: A host read at either register port or through the test port completes within R54's bounds, is tunnelled as REG_RD when addressed to Kalvon-B, is refused with t_reg_err_o when the address or state forbids it, and a _LO or KB_PRG_LO read latches its partner word. (R467) -/
  | registerRead (src : Port) (key : Nat)
  deriving DecidableEq, Repr

end Sys2Proof
end

