-- ==== Sys2Proof/Decode.lean ====
section
/-!
DEFINITION. Words that spell commands. No row of spec/opcode_table.json gives bits: the commands of this block are
register accesses, messages and events, and none of them is a word of the table.
-/
namespace Sys2Proof

/-- The command that a word of the opcode table spells: the table gives no row any bits, so none. -/
def decodeTableWord (_nbits _w : Nat) : Option Instr := none

end Sys2Proof
end

