-- ==== Sys2Proof/Config.lean ====
section
/-!
DEFINITION. What the spec leaves open, as constants without a body: nothing in Lean can evaluate them, and no
proof can rest on a value of theirs. Each use applies one to a plain number, so that a claim about the machine
holds whatever the value is.
-/
namespace Sys2Proof

/-- A fresh number that the spec does not fix, by the count of such numbers drawn so far
(State.draws); for example the random part of the provisional ID of R412. -/
opaque Config.freeValue : Nat → Nat

/-- The UUID that R413 forms from SERIAL and the provisional ID; the spec does not give the form. -/
opaque Config.uuid : Nat → Nat → Nat

/-- Which of the 16 channel pairs of the base fabric port the image assigns to memory traffic, bit c for pair c (R29, R56, R126): it is
fixed by the image, and no register shows it. The others carry retention traffic. -/
opaque Config.memMask : Nat

/-- The surroundings hold _ready of an output channel at 1 in a KCLK (R47): the port (0 rs, 1 sn, 2 tso, 3 base fabric port), the channel,
and the KCLK count. -/
opaque Config.portReady : Nat → Nat → Nat → Bool

end Sys2Proof
end

