-- ==== Sys2Proof/Machine/Bits.lean ====
section
/-!
DEFINITION. Bit fields, packing, signed reading, and the cyclic checks the spec names. A range of bits is given
by its lowest bit and its width (R14 writes the same range [lo + w - 1 : lo]).
-/
namespace Sys2Proof.Machine

/-- The field of `w` bits from bit `lo` of `x`. -/
def bits (x lo w : Nat) : Nat := (x >>> lo) % 2 ^ w

/-- One bit of `x`. -/
def bitAt (x i : Nat) : Bool := x.testBit i

/-- `x` with the field of `w` bits from bit `lo` set to `v` (truncated to the field). -/
def setBits (x lo w v : Nat) : Nat :=
  (x >>> (lo + w)) <<< (lo + w) + ((v % 2 ^ w) <<< lo) + x % 2 ^ lo

/-- A number made of fields: each is (lowest bit, width, value). -/
def pack : List (Nat × Nat × Nat) → Nat
  | [] => 0
  | (lo, w, v) :: fs => ((v % 2 ^ w) <<< lo) ||| pack fs

/-- A flag as a number. -/
def b2n (b : Bool) : Nat := if b then 1 else 0

/-- `x`, a number of `w` bits, read as two's complement. -/
def sgn (w x : Nat) : Int := if x % 2 ^ w < 2 ^ (w - 1) then (x % 2 ^ w : Nat) else (x % 2 ^ w : Nat) - (2 ^ w : Nat)

/-- An integer narrowed to two's complement of `w` bits. -/
def unsgn (w : Nat) (x : Int) : Nat := (x % (2 ^ w : Nat)).toNat

/-- The least of a bound and a value. -/
def clampTop (top x : Nat) : Nat := if x ≤ top then x else top

/-- The bytes of `x`, least significant first, `n` of them (R15). -/
def bytesOf : Nat → Nat → List Nat
  | 0, _ => []
  | n + 1, x => x % 256 :: bytesOf n (x / 256)

/-- The number whose bytes, least significant first, are given (R15). -/
def ofBytes : List Nat → Nat
  | [] => 0
  | b :: bs => b % 256 + 256 * ofBytes bs

/-- One step of a cyclic check that shifts left: register of `w` bits, generator below its top term. -/
def crcBit (w poly reg : Nat) (m : Bool) : Nat :=
  let fb := xor m (reg.testBit (w - 1))
  let sh := (reg * 2) % 2 ^ w
  if fb then sh ^^^ poly else sh

/-- A cyclic check over the `n` bits of `x` from bit 0 upward. -/
def crcUp (w poly : Nat) : Nat → Nat → Nat → Nat
  | 0, _, reg => reg
  | n + 1, x, reg => crcUp w poly n (x / 2) (crcBit w poly reg (x % 2 == 1))

/-- One byte, most significant bit first. -/
def crcByte (w poly reg b : Nat) : Nat :=
  [7, 6, 5, 4, 3, 2, 1, 0].foldl (fun r i => crcBit w poly r (b.testBit i)) reg

/-- A cyclic check over bytes, each most significant bit first. -/
def crcBytes (w poly seed : Nat) (bs : List Nat) : Nat := bs.foldl (crcByte w poly) seed

/-- The CRC-16 of the tokens and of the hash of flows: polynomial 0x1021, seed 0xFFFF (R103). -/
def crc16 (bs : List Nat) : Nat := crcBytes 16 0x1021 0xFFFF bs

/-- The first position at which a test holds, counting up from `i`, over `n` positions. -/
def findUp (p : Nat → Bool) : Nat → Nat → Option Nat
  | 0, _ => none
  | n + 1, i => if p i then some i else findUp p n (i + 1)

/-- How many of the `n` positions from 0 satisfy a test. -/
def countUp (p : Nat → Bool) (n : Nat) : Nat := ((List.range n).filter p).length

end Sys2Proof.Machine
end

