-- ==== Sys2Proof/Machine/Sparse.lean ====
section
/-!
DEFINITION. Sparse data by key, in one canonical form: keys strictly rising, and no entry equal to what an
unlisted key reads as. Equal contents are then equal lists.
-/
namespace Sys2Proof.Machine

/-- Sparse data: (key, value) pairs. -/
abbrev Sparse (α : Type) := List (Nat × α)

/-- What a key holds; `d` is what an unlisted key reads as. -/
def Sparse.get {α : Type} (d : Nat → α) : Sparse α → Nat → α
  | [], k => d k
  | (k', v) :: m, k => if k' = k then v else Sparse.get d m k

/-- Put an entry at its place in the order of keys, dropping an older entry of the key. -/
def Sparse.put {α : Type} (k : Nat) (v : α) : Sparse α → Sparse α
  | [] => [(k, v)]
  | (k', v') :: m =>
    if k < k' then (k, v) :: (k', v') :: m
    else if k = k' then (k, v) :: m
    else (k', v') :: Sparse.put k v m

/-- Take a key's entry away. -/
def Sparse.drop {α : Type} (k : Nat) : Sparse α → Sparse α
  | [] => []
  | (k', v') :: m => if k' = k then Sparse.drop k m else (k', v') :: Sparse.drop k m

/-- Write a key: an entry that equals what the unlisted key reads as is not listed. -/
def Sparse.set {α : Type} [DecidableEq α] (d : Nat → α) (m : Sparse α) (k : Nat) (v : α) : Sparse α :=
  if v = d k then Sparse.drop k m else Sparse.put k v (Sparse.drop k m)

/-- Every key after `lo` rises strictly. -/
def Sparse.rising {α : Type} : Option Nat → Sparse α → Bool
  | _, [] => true
  | none, (k, _) :: m => Sparse.rising (some k) m
  | some lo, (k, _) :: m => decide (lo < k) && Sparse.rising (some k) m

/-- The canonical form. -/
def Sparse.wf {α : Type} [DecidableEq α] (d : Nat → α) (m : Sparse α) : Bool :=
  Sparse.rising none m && m.all fun e => decide (e.2 ≠ d e.1)

/-- The keys listed. -/
def Sparse.keys {α : Type} (m : Sparse α) : List Nat := m.map (·.1)

end Sys2Proof.Machine
end

