-- ==== Sys2Proof/Machine/RouteTypes.lean ====
section
/-!
DEFINITION. The state of the route stage and of tile delivery that no register shows (chapters 07 and 08 of
spec/).
-/
namespace Sys2Proof.Machine

/-- A message in the route stage that waits for an output link: the link it came from, if any, and the message. -/
structure PoolMsg where
  from_ : Option Nat
  m : RMsg
  deriving DecidableEq, Repr

/-- A change of selection with its order hold (R206): what was in force before it (the usable links as a mask,
and the word of the table or mesh register that it changed), and the marks not yet cleared, as link and the
number of the link's next flit at that moment. -/
structure Hold where
  usable : Nat
  key : Nat
  old : BitVec 32
  marks : List (Nat × Nat)
  deriving DecidableEq, Repr

/-- The route stage: messages that wait for an output link, in order; holds open, oldest first; changes that wait
for a hold to close; messages handed to local functions, with the link they came from; messages held because this
device is fenced (R216); messages reported as held by HOLDALL, with their link. -/
structure RouteSt where
  pool : List PoolMsg
  holds : List Hold
  queued : List Hold
  local_ : List (Option Nat × RMsg)
  own : List RMsg
  stalled : List (Nat × RMsg)
  deriving DecidableEq, Repr

def RouteSt.reset : RouteSt := { pool := [], holds := [], queued := [], local_ := [], own := [], stalled := [] }

/-- A tile in the tile source: its ingress header fields (R220) and payload, with TSEQ and TCHK once assigned. -/
structure SrcTile where
  dst : Nat
  flow : Nat
  part : Nat
  len : Nat
  use : Nat
  usearg : Nat
  user : Nat
  data : List Byte
  tseq : Nat
  tchk : Nat
  deriving DecidableEq, Repr

/-- Who is told what became of a tile of Kalvon-B's own (Collective programs). -/
inductive TileFrom where
  /-- a stream channel (R121) -/
  | stream (ch : Nat)
  /-- an instruction of a program: EMIT, CVT or SEND -/
  | prog (p : Nat)
  deriving DecidableEq, Repr

/-- The states of a retention block. -/
inductive BlockSt where
  /-- RWRITE issued, WDONE awaited -/
  | writing
  /-- written; a lower TSEQ of the flow is not accepted yet -/
  | written
  /-- accepted (R235) -/
  | accepted
  /-- the freeing write is issued (R233) -/
  | freeing
  deriving DecidableEq, Repr

/-- A retention block in use: its state, its flow and TSEQ, and its tile while the source still needs it. -/
structure Block where
  st : BlockSt
  flow : Nat
  tseq : Nat
  tile : Option SrcTile
  from_ : Option TileFrom
  deriving DecidableEq, Repr

/-- What an outstanding request on the retention channels is for (R234). -/
inductive RetUse where
  /-- write of a tile into a block -/
  | tile (block : Nat)
  /-- write that frees a block -/
  | free (block : Nat)
  /-- read of a block for a resend of a flow -/
  | resend (flow block : Nat)
  /-- read and write of the region header (R246) -/
  | header
  | format
  /-- read of a block descriptor (R246) -/
  | descriptor (block : Nat)
  /-- schedule entry read to arm it, and to page it in (R282, R284) -/
  | armEntry (entry : Nat)
  | pageEntry (entry : Nat)
  /-- payload read of SEND (R335) -/
  | send (prog : Nat)
  /-- log or trace record (R423) -/
  | log (seq : Nat)
  /-- log record read for LOG_READ (R414) -/
  | logRead (eid seq : Nat)
  deriving DecidableEq, Repr

/-- A retention request: its RID, its purpose, its address, and its bytes (RWRITE data, or how many RREAD asks). -/
structure RetReq where
  rid : Nat
  use : RetUse
  write : Bool
  addr : Nat
  bytes : Nat
  data : List Byte
  deriving DecidableEq, Repr

/-- A transfer that a retention channel has still to make: its channel, _hdr and data (R56, R234), and for a TDELIV the tile's
message. -/
structure RetOut where
  chan : Nat
  hdr : Unit128
  data : List Byte
  tile : Option RMsg
  deriving DecidableEq, Repr

/-- What the tile source keeps of a flow besides its registers: timer expiries in a row, tiles still to read and send in a resend (TSEQ), whether SYNC waits for its answer, BROKEN repeats made,
whether BROKEN awaits BRACK, whether CLOSE has been sent, whether the break was found by a source not yet synced. -/
structure SrcFlow where
  expiries : Nat
  resend : List Nat
  syncing : Bool
  brokenTries : Nat
  awaitBrack : Bool
  closeSent : Bool
  cause : Nat
  deriving DecidableEq, Repr

def SrcFlow.reset : SrcFlow :=
  { expiries := 0, resend := [], syncing := false, brokenTries := 0, awaitBrack := false, closeSent := false, cause := 0 }

/-- What the tile destination keeps of a log entry outside Caddy (R472, R237, R238): the PART of the flow's latest
message, the journal mark, deliveries since the last TACK, the KCLK of the last TNAK with cause 1, and lapses owed
as (cause, boundary, flags). -/
structure DstFlow where
  part : Option Nat
  mark : Bool
  sinceTack : Nat
  gapAt : Option Nat
  owed : List (Nat × Nat × Nat)
  deriving DecidableEq, Repr

def DstFlow.reset : DstFlow := { part := none, mark := false, sinceTack := 0, gapAt := none, owed := [] }

/-- An entry of the response cache (R244): SRC, SINC, TAG, and the response once ready. -/
structure RespEntry where
  src : Nat
  sinc : Nat
  tag : Nat
  part : Nat
  rsp : Option XMsg
  deriving DecidableEq, Repr

/-- Tile delivery: tiles of programs that the source has not taken; tiles taken, by origin, that wait for a block or for the
flow's window (R235 step 2); retention blocks in use, and how many blocks are known to be free or in use (R246); requests outstanding on the
retention channels, those that wait for an RID, the transfers still to make with the beats gone of each channel's first, the next RID, requests
to repeat (R236); whether ACKED of the flows is asked for or known since the reset (R240, R246); flows; log entries; the response cache; MREQs held because the cache is full; the next TAG and the tags used, with the KCLK of
their last use (R242); TDELIVs towards the base die; whether retention was lost. -/
structure DlvSt where
  waiting : List (TileFrom × SrcTile)
  taken : List (TileFrom × SrcTile)
  blocks : Sparse Block
  scan : Nat
  ret : List RetReq
  retWait : List RetReq
  out : List RetOut
  outAt : Sparse Nat
  rid : Nat
  redo : List RetReq
  synced : Bool
  src : Sparse SrcFlow
  dst : Sparse DstFlow
  cache : List RespEntry
  held : List RMsg
  nextTag : Nat
  tags : List (Nat × Nat)
  tdeliv : List RMsg
  lost : Bool
  deriving DecidableEq, Repr

def DlvSt.reset : DlvSt :=
  { waiting := [], taken := [], blocks := [], scan := 0, ret := [], retWait := [], out := [], outAt := [], rid := 0, redo := [], synced := false, src := [], dst := [], cache := [], held := [], nextTag := 0,
    tags := [], tdeliv := [], lost := false }

end Sys2Proof.Machine
end

