-- ==== Sys2Proof/Machine/BlendTypes.lean ====
section
/-!
DEFINITION. The state of Blend and of collective programs that no register shows (chapters 11 and 12 of spec/).
-/
namespace Sys2Proof.Machine

/-- An accumulator (R298, R299): the flags, and V as the integer that its two's complement bits spell. -/
structure BAcc where
  nan : Bool
  pinf : Bool
  ninf : Bool
  v : Int
  deriving DecidableEq, Repr

/-- A Blend command that waits or runs (R308, R312, R334): 1 ARM, 2 CLEAR, 3 FREE, 4 EMIT, 5 CVT; the program that asked
for it; the offset, the count, the template or RDD, and the flags of an emission. -/
structure BCmd where
  op : Nat
  rd : Nat
  prog : Option Nat
  k0 : Nat
  n : Nat
  to_ : Nat
  clear : Bool
  free : Bool
  force : Bool
  deriving DecidableEq, Repr

/-- An emission in progress (R312): its command, the state before it, and whether a tile of it was refused. -/
structure BEmit where
  cmd : BCmd
  prev : Nat
  bad : Bool
  deriving DecidableEq, Repr

/-- A tile at the Blend input: from the network, or from CVT (R334) with its target, element offset, PART and bytes. -/
inductive BOffer where
  | net (m : RMsg)
  | cvt (rd rdd eoff part : Nat) (data : List Byte)
  deriving DecidableEq, Repr

/-- Blend. Accumulators that differ from the identity of the descriptor that covers them (R304), wide and narrow, by
position; commands that wait for INIT or EMIT to end, in order; emissions in progress; tiles offered, oldest first; the
lane group and lane held by a shadow mismatch, and whether a marginal verdict has ordered the lane's retirement (R317). -/
structure BlendSt where
  wide : Sparse BAcc
  narrow : Sparse BAcc
  cmds : List BCmd
  emits : List BEmit
  offered : List BOffer
  held : Option (Nat × Nat × Bool)
  deriving DecidableEq, Repr

def BlendSt.reset : BlendSt := { wide := [], narrow := [], cmds := [], emits := [], offered := [], held := none }

/-- What a program keeps besides its registers: whether it has been started since the reset; the context it holds; of its wait, the destination register, the
descriptor or barrier, and the instant; the instant at which its wait ended without a context, with its KCLK
(R342); the instant of its last wake, as KCLK; the KCLK in which it became READY; instructions issued since it was loaded;
tiles refused since the previous WTAC; a SEND as template, offset and length; STOP that waits for a command. -/
structure ProgX where
  live : Bool
  ctx : Option Nat
  d : Nat
  obj : Nat
  inst : Nat
  woke : Option (Nat × Nat)
  wakeK : Option Nat
  since : Nat
  issued : Nat
  refused : Nat
  send : Nat × Nat × Nat
  stopping : Bool
  deriving DecidableEq, Repr

def ProgX.reset : ProgX :=
  { live := false, ctx := none, d := 0, obj := 0, inst := 0, woke := none, wakeK := none, since := 0, issued := 0, refused := 0, send := (0, 0, 0), stopping := false }

end Sys2Proof.Machine
end

