-- ==== Sys2Proof/Machine/BondTypes.lean ====
section
/-!
DEFINITION. The state of the bond field and of the crossing that no register shows: frames held for retry, the
receiver's place in a replay, repairs under way, heirs, queues of items to seal, messages presented, the remote
line cache, the snoop directory, outstanding transactions, and held triggers (chapters 03 and 04 of spec/).
-/
namespace Sys2Proof.Machine

/-- A frame the sender still holds: KCLK counts of its original and of its latest seal, the frame, its r (R94 step 5: the
replay runs in which it was resealed, with the retries of the frames that carried their NAKs), the KCLK in which its
messages are presented with r = 0 (R88, R471; none from a recovery until its reseal, which counts as the take), and for a frame of a failed group that this one carries, that group and the
frame's original seal in it (R470). -/
structure HeldFrame where
  orig : Nat
  last : Nat
  frame : Frame
  r : Nat
  due : Option Nat
  src : Option (Nat × Nat)
  deriving DecidableEq, Repr

/-- A repair of wire `w` onto spare `k` (R97): M, S, whether the spare is driven, agreeing frames so far, and
what the receiving half has reported. -/
structure Repair where
  w : Nat
  k : Nat
  m : Nat
  s : Nat
  driven : Bool
  agree : Nat
  ready : Bool
  bad : Bool
  deriving DecidableEq, Repr

/-- A frame that an heir is to carry (R470): the group and the original seal whose place its messages take, and the frame,
none where it has left the hold (R470 step 5). -/
structure CarryItem where
  g : Nat
  orig : Nat
  frame : Option Frame
  deriving DecidableEq, Repr

/-- A failed group carried by an heir (R470): the failed group, the KCLK X from which the heir carries its frames, and the
frames that are left, oldest first: to reseal in the sending half, to present in the receiving half. -/
structure HeirJob where
  g : Nat
  x : Nat
  items : List CarryItem
  deriving DecidableEq, Repr

/-- One wire group. The sending half: the frames it holds, the seals still to
be resealed in a replay run, whether the next heads the run and what the run adds to r (R94 step 5), the failed groups it carries as an heir in the order of their appointment, and
whether sealing into it has stopped. As a carrier: the NAKs it must set in its next frame, and its substitute
client (R93). The receiving half: the copy of a failed frame with its original seal and whether it headed a run, the original seals of
discarded frames still to be replayed, the least seal not yet presented, and the failed groups whose frames it
takes from this one. Kalvon-B: recent errors as (wire, KCLK), the KCLKs of recent recoveries, the repair under
way, wires that wait for one, and whether alignment has ended. Kalvon-T: the repair it was told of as (wire, spare, M,
S), its own spare map, the group's state as Kalvon-B last told it, and the good frames in a row that it has seen since its
reset, up to the 8 that align the group (R101). -/
structure Group where
  held : List HeldFrame
  run : List Nat
  runHead : Bool
  runAdd : Nat
  heir : List HeirJob
  stopped : Bool
  nakp : Bool
  naks : Bool
  subst : Option Nat
  kept : Option (Nat × RxFrame × Bool)
  missed : List Nat
  next : Nat
  heirRx : List HeirJob
  errs : List (Nat × Nat)
  recs : List Nat
  repair : Option Repair
  todo : List Nat
  aligned : Bool
  tRepair : Option (Nat × Nat × Nat × Nat)
  tMap : Nat
  tState : Nat
  tGood : Nat
  deriving DecidableEq, Repr

/-- A group as it is at the release of porst_n. -/
def Group.reset : Group :=
  { held := [], run := [], runHead := false, runAdd := 0, heir := [], stopped := false, nakp := false, naks := false,
    subst := none, kept := none, missed := [], next := 0, heirRx := [], errs := [], recs := [], repair := none, todo := [],
    aligned := false, tRepair := none, tMap := 0x7F7F7F7F, tState := 0, tGood := 0 }

/-- An item that Kalvon-B sent with a KCNT, kept until its lateness is known (R471): message type, KCNT, trigger
word, Pour entry, and its instant. -/
structure SentItem where
  ty : Nat
  kcnt : Nat
  word : Nat
  entry : Nat
  cyc : Nat
  ang : Nat
  deriving DecidableEq, Repr

/-- A message that passed its check and waits for an earlier message of its ordering stream (R122): original
seal, group, class and message. -/
structure WaitMsg where
  orig : Nat
  g : Nat
  cls : Nat
  m : XMsg
  deriving DecidableEq, Repr

/-- A line of the remote line cache (R127): state 0 I, 1 S, 2 E, 3 M; the client bits CP and CX. -/
structure CacheLine where
  tag : Nat
  st : Nat
  cp : Bool
  cx : Bool
  data : Line
  deriving DecidableEq, Repr

def CacheLine.empty : CacheLine := { tag := 0, st := 0, cp := false, cx := false, data := 0 }

/-- What a request in Kalvon-T waits for. -/
inductive TPhase where
  /-- an answer across the crossing to RD_S, RD_U or UPGRADE -/
  | grant
  /-- WB_ACK of the removal of a line (R129) -/
  | removal
  /-- the client's answer to a snoop that Kalvon-T sent it -/
  | client
  /-- an answer to RD_NC, WR_LINE, WR_PART or ATOMIC on class M -/
  | memory
  /-- the removal of the line in the way it will take, or a free XID -/
  | room
  /-- an earlier transaction on the same line -/
  | line
  deriving DecidableEq, Repr

/-- A request outstanding in Kalvon-T: bank, the request, its phase, the XID it uses, and the line it uses, as
16·set + way. OP 16 marks the removal of a line, and OP 17 one that FLUSH waits to begin; they have no client. -/
structure TReq where
  bank : Nat
  req : ClientReq
  phase : TPhase
  xid : Nat
  way : Nat
  deriving DecidableEq, Repr

/-- Why Kalvon-T snoops the client. -/
inductive SnoopFor where
  /-- Kalvon-B's snoop with this XID; true for SNP_INV -/
  | home (xid : Nat) (inv : Bool)
  /-- removal of the line: capacity eviction, FLUSH or a write (R129) -/
  | remove
  /-- a read that hits a line that the client holds exclusively -/
  | share
  deriving DecidableEq, Repr

/-- A snoop to the client: bank, SID (16 for one that waits for a SID, R124), line address, kind, and purpose. -/
structure TSnoop where
  bank : Nat
  sid : Nat
  laddr : Nat
  inv : Bool
  why : SnoopFor
  deriving DecidableEq, Repr

/-- A directory entry of Kalvon-B (R128): tag and state 0 I, 1 S, 2 X. -/
structure DirEntry where
  tag : Nat
  st : Nat
  deriving DecidableEq, Repr

def DirEntry.empty : DirEntry := { tag := 0, st := 0 }

/-- Who asked Kalvon-B for a request that is at a home: Kalvon-T with its XID and way; a fabric requester, with
its FNA, partition, TAG and incarnation number (R126, R242); or Kalvon-B itself, for data that a flush returned. -/
inductive Asker where
  | client (xid way : Nat)
  | fabric (src part tag sinc : Nat)
  | none_
  deriving DecidableEq, Repr

/-- A request of Kalvon-B at a home: the memory pair and RID at the base die's home, or a remote home with its
FNA and the TAG (R242) with the resends made so far; the asker; the message sent. -/
structure HomeReq where
  remote : Option Nat
  pair : Nat
  rid : Nat
  tries : Nat
  who : Asker
  m : XMsg
  deriving DecidableEq, Repr

/-- A snoop of Kalvon-B across the crossing (R130, R131): the line, its directory entry, XID, kind, the home pair
and RID to answer (none for a flush), and the WB or EVICT that overtook the answer, as XID and WB data. -/
structure BSnoop where
  laddr : Nat
  entry : Nat
  xid : Nat
  inv : Bool
  home : Option (Nat × Nat)
  overtaken : Option (Nat × Option (List Unit128))
  deriving DecidableEq, Repr

/-- A trigger Kalvon-T holds for its KCNT (R118): KCNT and the trigger word. -/
structure HeldTrig where
  kcnt : Nat
  word : Nat
  deriving DecidableEq, Repr

/-- A tile under assembly on a stream channel (R120, R121): TSEQ, stream bytes by frame index, the index of the
last frame once it has come, and whether a stream error has discarded it. -/
structure StreamTile where
  tseq : Nat
  parts : List (Nat × List Byte)
  last : Option Nat
  dead : Bool
  deriving DecidableEq, Repr

/-- One direction of one tensor stream channel: sender's credits, next TSEQ to send, and tiles that wait for a
credit; receiver's next TSEQ to present and the tiles under assembly. -/
structure StreamCh where
  credits : Nat
  txSeq : Nat
  queue : List Tile
  rxSeq : Nat
  asm : List StreamTile
  deriving DecidableEq, Repr

/-- Credits are 8 at every full reset (R121). -/
def StreamCh.reset : StreamCh := { credits := 8, txSeq := 0, queue := [], rxSeq := 0, asm := [] }

/-- The bond field: groups; whether Kalvon-B and Kalvon-T drive their groups; sequence numbers of link control frames; items waiting to be sealed in each
direction; frames driven on the wires, as (group, KCLK of seal, frame); link control frames, messages and stream
frames presented in each half and not yet acted on; messages held back by order (R122); items with a KCNT whose
lateness is not yet known (R471); class-K sets that have answered WAKE (R101); the role words that Kalvon-T has
received; how far the token exchange is: 0 not begun, 1 TOKEN_REQ sent, 2 TOKEN_SET sent, 3 done (R104); the
count named by RATE (R101); IDENT and CAPS_SET sent so far (R136); by 2·class + direction (0 T→B, 1 B→T) the count in which
messages were last taken and the group that took them (R113); the KCLK of the last late TRIG's release as Kalvon-B computes it
(R118, R471). -/
structure BondSt where
  groups : Sparse Group
  driveB : Bool
  driveT : Bool
  seqB : Nat
  seqT : Nat
  xBT : List XItem
  xTB : List XItem
  wires : List (Nat × Nat × Frame)
  ctlB : List (Nat × BitVec 1008)
  ctlT : List (Nat × BitVec 1008)
  inB : List XMsg
  inT : List XMsg
  strB : List (BitVec 1024)
  strT : List (BitVec 1024)
  waitB : List WaitMsg
  waitT : List WaitMsg
  items : List SentItem
  acked : List (Nat × Nat)
  tRoles : Sparse Nat
  tokens : Nat
  rateAt : Option Nat
  identTries : Nat
  capsTries : Nat
  takes : Sparse (Nat × Nat)
  lateRel : Nat
  deriving DecidableEq, Repr

def BondSt.reset : BondSt :=
  { groups := [], driveB := false, driveT := false, seqB := 0, seqT := 0, xBT := [], xTB := [], wires := [], ctlB := [], ctlT := [], inB := [], inT := [],
    strB := [], strT := [], waitB := [], waitT := [], items := [], acked := [], tRoles := [], tokens := 0, rateAt := none, identTries := 0, capsTries := 0, takes := [], lateRel := 0 }

/-- A request or response on the base fabric port's memory channels (R126): memory pair and message. -/
structure MemMsg where
  pair : Nat
  m : XMsg
  deriving DecidableEq, Repr

/-- An access that crosses and waits for REG_RSP: whether Kalvon-B sent it, SRC, and write or read (R117); from Kalvon-T also whether
its offset is one of Kalvon-T, a shared setting (R25), and, where Kalvon-T has refused it, why (R411, assumption 35). -/
structure RegTunnel where
  fromB : Bool
  src : Nat
  write : Bool
  kt : Bool := false
  why : Nat := 0
  deriving DecidableEq, Repr

/-- A tensor stream ingress channel (R52): no tile begun; the beats of a tile so far, the last first; or beats discarded up to the next
with _sop = 1. -/
inductive TsiCh where
  | idle
  | tile (hdr : Unit128) (beats : List (BitVec 4096))
  | discard
  deriving DecidableEq, Repr

/-- The transaction layer in both halves. Kalvon-T: remote line cache by 16·set + way, replacement tree bits by
set, outstanding requests and client snoops, responses that wait on rs and snoops that wait on sn as (bank, SID), snoops of Kalvon-B that wait for a client snoop, held triggers, late
triggers as (KCLK of presentation, word) in order of presentation, the KCLK in which a trigger was last released (R118), pending permits and operating points, the angle follower (cycle, angle, KCNT,
STALE), its sensors' last readings, whether THERM has been sent at 115 °C. Kalvon-B: directory, busy lines,
requests at homes, waiting home snoops, requests that wait for a free RID, snoops across, messages sent to the base die. Both: register accesses
outstanding; Kalvon-T's working copies of settings of Kalvon-B, by key (R25, R407); tensor stream channels (8·direction + channel, direction 0 towards Kalvon-B), tiles that wait on the egress
port and the beats that each channel has transferred of its first, the ingress channels, tiles presented to the tile source, and the array word last read (R117). -/
structure XingSt where
  cache : Sparse CacheLine
  plru : Sparse Nat
  reqs : List TReq
  snoops : List TSnoop
  rs : List (Nat × ClientRsp)
  sn : List (Nat × Nat)
  snpWait : List XMsg
  trigs : List HeldTrig
  late : List (Nat × Nat)
  lastTrig : Option Nat
  permits : List (Nat × Nat)
  opps : List (Nat × Nat)
  folCycle : Nat
  folAngle : Nat
  folKcnt : Nat
  folStale : Bool
  dir : Sparse DirEntry
  busy : List Nat
  homes : List HomeReq
  homeWait : List MemMsg
  reqWait : List (Asker × XMsg)
  acrossB : List BSnoop
  memOut : List MemMsg
  tunnel : List RegTunnel
  copies : Sparse Word
  streams : Sparse StreamCh
  tso : List (Nat × Tile)
  tsoAt : Sparse Nat
  tsi : Sparse TsiCh
  fromT : List (Nat × Tile)
  dbg : Option XMsg
  deriving DecidableEq, Repr

def XingSt.reset : XingSt :=
  { cache := [], plru := [], reqs := [], snoops := [], rs := [], sn := [], snpWait := [], trigs := [], late := [], lastTrig := none, permits := [], opps := [],
    folCycle := 0, folAngle := 0, folKcnt := 0, folStale := true, dir := [], busy := [], homes := [], homeWait := [], reqWait := [],
    acrossB := [], memOut := [], tunnel := [], copies := [], streams := [], tso := [], tsoAt := [], tsi := [], fromT := [], dbg := none }

end Sys2Proof.Machine
end

