-- ==== Sys2Proof/Machine/EccTypes.lean ====
section
/-!
DEFINITION. The state of memory check bits and of bank retirement that no register shows (R203, R319, R324, R437, R438).
-/
namespace Sys2Proof.Machine

/-- Stored words whose check bits do not fit: 1 for a single-bit error, 2 for an uncorrectable one, 3 for one that a copy marked, by 2^24 × memory +
place (Upset gives the memories; a spare bank follows its memory's 16 banks). Corrected errors as memory, bank and
KCLK; the banks that have had an uncorrectable error. Retirements that run: the bank + 1 of memories 0 to 2, and for
the replay buffer of link n (memory 4 + n) the first flit that goes to the spare + 1. -/
structure EccSt where
  words : Sparse Nat
  corr : List (Nat × Nat × Nat)
  failed : List (Nat × Nat)
  copying : Sparse Nat
  deriving DecidableEq, Repr

def EccSt.reset : EccSt := { words := [], corr := [], failed := [], copying := [] }

end Sys2Proof.Machine
end

