-- ==== Sys2Proof/Machine/Fields.lean ====
section
/-!
DEFINITION. Every field of every register of both halves, as a place in the one register store: the key of the
register, the lowest bit, the width, and whether Caddy retains the field (restore class C, R20).
Names are the spec's, without the prefix KB_ for Kalvon-B. A register that holds one field of 32 bits carries
the register's own name. The keys: Kalvon-B registers sit at their byte offset (R21); Kalvon-T registers at
2^20 + offset; what a selector register addresses (R466) has one home for each selected group, flow, log
entry, schedule entry, program, tracker entry or histogram; each source has its own copy of a selector.
The layout of these homes above 2^21 is the model's own (assumption 4).
-/
namespace Sys2Proof.Machine

/-- A field of a register: key of the register, lowest bit, width, and whether it is of restore class C (R20). -/
structure Fld where
  key : Nat
  lo : Nat
  w : Nat
  ret : Bool
  deriving DecidableEq, Repr

/-- The key of Kalvon-T offset 0. -/
def tBase : Nat := 0x100000
/-- A selector's copy for one source of R406 (R466). -/
def selKey (src off : Nat) : Nat := 0x800000 + src * 0x200000 + off
/-- The Kalvon-B registers of wire group g (R109, R110). -/
def groupKeyB (g : Nat) : Nat := 0x2000000 + g * 0x1000
/-- The Kalvon-T registers of wire group g (R112). -/
def groupKeyT (g : Nat) : Nat := 0x4000000 + g * 0x1000
/-- The source registers of flow f (R253). -/
def flowKey (f : Nat) : Nat := 0x10000000 + f * 0x20
/-- The delivery log registers of entry e (R253). -/
def dlogKey (e : Nat) : Nat := 0x10100000 + e * 0x20
/-- The registers of Pour schedule entry e (R292). -/
def pourKey (e : Nat) : Nat := 0x20000000 + e * 0x10
/-- The registers of program p (R346). -/
def progKey (p : Nat) : Nat := 0x40000000 + p * 0x200
/-- The registers of tracker entry e (R444). -/
def trackKey (e : Nat) : Nat := 0x80000000 + e * 0x80
/-- The calibration histogram of a wire of a group in one half (R458, R460). -/
def histKey (half g w : Nat) : Nat := 0x100000000 + ((half * 2048 + g) * 128 + w) * 0x100


/-! Registers defined by spec/00_scope.md. -/

/-- KB_ID_BUILD LINKS [3:2], R9. -/
def ID_BUILD_LINKS : Fld := ⟨4, 2, 2, false⟩

/-- KB_ID_BUILD TILES [1:0], R9. -/
def ID_BUILD_TILES : Fld := ⟨4, 0, 2, false⟩

/-- KB_ID_VERSION MAJOR [31:16], R10. -/
def ID_VERSION_MAJOR : Fld := ⟨0, 16, 16, false⟩

/-- KB_ID_VERSION MINOR [15:0], R10. -/
def ID_VERSION_MINOR : Fld := ⟨0, 0, 16, false⟩


/-! Registers defined by spec/03_bond_field.md. -/

/-- KB_BND_STATUS USABLE [27:16], R105. -/
def BND_STATUS_USABLE : Fld := ⟨0x8000, 16, 12, false⟩

/-- KB_BND_STATUS TAPSRC [6:5], R105. -/
def BND_STATUS_TAPSRC : Fld := ⟨0x8000, 5, 2, false⟩

/-- KB_BND_STATUS RATE [4:4], R105. -/
def BND_STATUS_RATE : Fld := ⟨0x8000, 4, 1, false⟩

/-- KB_BND_STATUS STATE [3:0], R105. -/
def BND_STATUS_STATE : Fld := ⟨0x8000, 0, 4, false⟩

/-- KB_BND_CTL GREC_MAX [23:16], R106. -/
def BND_CTL_GREC_MAX : Fld := ⟨0x8004, 16, 8, false⟩

/-- KB_BND_CTL WFAIL [9:4], R106. -/
def BND_CTL_WFAIL : Fld := ⟨0x8004, 4, 6, false⟩

/-- KB_BND_CTL CHAIN_MAX [2:0], R106. -/
def BND_CTL_CHAIN_MAX : Fld := ⟨0x8004, 0, 3, false⟩

/-- KB_BND_WTOKEN [31:0], R107. -/
def BND_WTOKEN : Fld := ⟨0x8008, 0, 32, false⟩

/-- KB_BND_RTOKEN [31:0], R107. -/
def BND_RTOKEN : Fld := ⟨0x800c, 0, 32, false⟩

/-- KB_BND_EVT HALF [6:6], R107. -/
def BND_EVT_HALF : Fld := ⟨0x8010, 6, 1, false⟩

/-- KB_BND_EVT SPLOW [5:5], R107. -/
def BND_EVT_SPLOW : Fld := ⟨0x8010, 5, 1, false⟩

/-- KB_BND_EVT MISMATCH [4:4], R107. -/
def BND_EVT_MISMATCH : Fld := ⟨0x8010, 4, 1, false⟩

/-- KB_BND_EVT GFAIL [3:3], R107. -/
def BND_EVT_GFAIL : Fld := ⟨0x8010, 3, 1, false⟩

/-- KB_BND_EVT REPAIR [2:2], R107. -/
def BND_EVT_REPAIR : Fld := ⟨0x8010, 2, 1, false⟩

/-- KB_BND_EVT GREC [1:1], R107. -/
def BND_EVT_GREC : Fld := ⟨0x8010, 1, 1, false⟩

/-- KB_BND_EVT RETRY [0:0], R107. -/
def BND_EVT_RETRY : Fld := ⟨0x8010, 0, 1, false⟩

/-- KB_BND_IEN IEN [6:0], R107. -/
def BND_IEN_IEN : Fld := ⟨0x8014, 0, 7, true⟩

/-- KB_BND_SEL GROUP [10:0], R109. -/
def BND_SEL_GROUP (src : Nat) : Fld := ⟨selKey src (0x8040), 0, 11, false⟩

/-- KB_BND_GSTAT CAUSE [19:17], R109. -/
def BND_GSTAT_CAUSE (g : Nat) : Fld := ⟨groupKeyB g + 0x44, 17, 3, false⟩

/-- KB_BND_GSTAT SPFREE [16:14], R109. -/
def BND_GSTAT_SPFREE (g : Nat) : Fld := ⟨groupKeyB g + 0x44, 14, 3, false⟩

/-- KB_BND_GSTAT SPUSED [13:11], R109. -/
def BND_GSTAT_SPUSED (g : Nat) : Fld := ⟨groupKeyB g + 0x44, 11, 3, false⟩

/-- KB_BND_GSTAT DEPTH [10:8], R109. -/
def BND_GSTAT_DEPTH (g : Nat) : Fld := ⟨groupKeyB g + 0x44, 8, 3, false⟩

/-- KB_BND_GSTAT STATE [7:6], R109. -/
def BND_GSTAT_STATE (g : Nat) : Fld := ⟨groupKeyB g + 0x44, 6, 2, false⟩

/-- KB_BND_GSTAT PHASE [5:3], R109. -/
def BND_GSTAT_PHASE (g : Nat) : Fld := ⟨groupKeyB g + 0x44, 3, 3, false⟩

/-- KB_BND_GSTAT DIR [2:2], R109. -/
def BND_GSTAT_DIR (g : Nat) : Fld := ⟨groupKeyB g + 0x44, 2, 1, false⟩

/-- KB_BND_GSTAT ROLE [1:0], R109. -/
def BND_GSTAT_ROLE (g : Nat) : Fld := ⟨groupKeyB g + 0x44, 0, 2, false⟩

/-- KB_BND_GRETRY [31:0], R110. -/
def BND_GRETRY (g : Nat) : Fld := ⟨groupKeyB g + 0x48, 0, 32, false⟩

/-- KB_BND_SPMAP [31:0], R110. -/
def BND_SPMAP (g : Nat) : Fld := ⟨groupKeyB g + 0x4c, 0, 32, false⟩

/-- KB_BND_TAP TARGET [13:8], R110. -/
def BND_TAP_TARGET (g w : Nat) : Fld := ⟨groupKeyB g + 0x100 + 4 * w, 8, 6, false⟩

/-- KB_BND_TAP TAP [5:0], R110. -/
def BND_TAP_TAP (g w : Nat) : Fld := ⟨groupKeyB g + 0x100 + 4 * w, 0, 6, false⟩

/-- KB_BND_WERR [31:0], R110. -/
def BND_WERR (g w : Nat) : Fld := ⟨groupKeyB g + 0x300 + 4 * w, 0, 32, false⟩

/-- KB_BND_ROLE BT [31:16], R111. -/
def BND_ROLE_BT (i : Nat) : Fld := ⟨0x8400 + 4 * i, 16, 16, false⟩

/-- KB_BND_ROLE TB [15:0], R111. -/
def BND_ROLE_TB (i : Nat) : Fld := ⟨0x8400 + 4 * i, 0, 16, false⟩

/-- KB_BND_KTILE MASK [15:0], R111. -/
def BND_KTILE_MASK : Fld := ⟨0x8440, 0, 16, false⟩

/-- KT_BND_STATUS RATE [4:4], R112. -/
def KT_BND_STATUS_RATE : Fld := ⟨tBase + 0x2000, 4, 1, false⟩

/-- KT_BND_STATUS STATE [3:0], R112. -/
def KT_BND_STATUS_STATE : Fld := ⟨tBase + 0x2000, 0, 4, false⟩

/-- KT_BND_HELD INC [15:0], R112. -/
def KT_BND_HELD_INC : Fld := ⟨tBase + 0x2004, 0, 16, false⟩

/-- KT_BND_WTOKEN [31:0], R112. -/
def KT_BND_WTOKEN : Fld := ⟨tBase + 0x2008, 0, 32, false⟩

/-- KT_BND_RTOKEN [31:0], R112. -/
def KT_BND_RTOKEN : Fld := ⟨tBase + 0x200c, 0, 32, false⟩

/-- KT_BND_EVT LOSS [1:1], R112. -/
def KT_BND_EVT_LOSS : Fld := ⟨tBase + 0x2010, 1, 1, false⟩

/-- KT_BND_EVT RETRY [0:0], R112. -/
def KT_BND_EVT_RETRY : Fld := ⟨tBase + 0x2010, 0, 1, false⟩

/-- KT_BND_IEN IEN [1:0], R112. -/
def KT_BND_IEN_IEN : Fld := ⟨tBase + 0x2014, 0, 2, false⟩

/-- KT_BND_RETRY_CNT [31:0], R112. -/
def KT_BND_RETRY_CNT : Fld := ⟨tBase + 0x2020, 0, 32, false⟩

/-- KT_BND_LOSS_CNT [31:0], R112. -/
def KT_BND_LOSS_CNT : Fld := ⟨tBase + 0x2024, 0, 32, false⟩


/-! Registers defined by spec/04_crossing_protocol.md. -/

/-- KT_XPR_STATUS PAIRED [16:16], R137. -/
def KT_XPR_STATUS_PAIRED : Fld := ⟨tBase + 0x4000, 16, 1, false⟩

/-- KT_XPR_STATUS HLPS_MAJ [15:8], R137. -/
def KT_XPR_STATUS_HLPS_MAJ : Fld := ⟨tBase + 0x4000, 8, 8, false⟩

/-- KT_XPR_STATUS HLPS_MIN [7:0], R137. -/
def KT_XPR_STATUS_HLPS_MIN : Fld := ⟨tBase + 0x4000, 0, 8, false⟩

/-- KT_XPR_CAPS [31:0], R137. -/
def KT_XPR_CAPS : Fld := ⟨tBase + 0x4004, 0, 32, false⟩

/-- KT_XPR_CTL FLUSH [1:1], R137. -/
def KT_XPR_CTL_FLUSH : Fld := ⟨tBase + 0x4008, 1, 1, false⟩

/-- KT_XPR_CTL RLC_EN [0:0], R137. -/
def KT_XPR_CTL_RLC_EN : Fld := ⟨tBase + 0x4008, 0, 1, false⟩

/-- KT_XPR_EVT STRM [2:2], R137. -/
def KT_XPR_EVT_STRM : Fld := ⟨tBase + 0x4010, 2, 1, false⟩

/-- KT_XPR_EVT CERR [1:1], R137. -/
def KT_XPR_EVT_CERR : Fld := ⟨tBase + 0x4010, 1, 1, false⟩

/-- KT_XPR_EVT PROTO [0:0], R137. -/
def KT_XPR_EVT_PROTO : Fld := ⟨tBase + 0x4010, 0, 1, false⟩

/-- KT_XPR_IEN IEN [2:0], R137. -/
def KT_XPR_IEN_IEN : Fld := ⟨tBase + 0x4014, 0, 3, false⟩

/-- KT_XPR_PROTO_CNT [31:0], R137. -/
def KT_XPR_PROTO_CNT : Fld := ⟨tBase + 0x4020, 0, 32, false⟩

/-- KT_XPR_CERR_CNT [31:0], R137. -/
def KT_XPR_CERR_CNT : Fld := ⟨tBase + 0x4024, 0, 32, false⟩

/-- KT_XPR_STRM_CNT [31:0], R137. -/
def KT_XPR_STRM_CNT : Fld := ⟨tBase + 0x4028, 0, 32, false⟩

/-- KT_XPR_HIT_CNT [31:0], R137. -/
def KT_XPR_HIT_CNT : Fld := ⟨tBase + 0x4030, 0, 32, false⟩

/-- KT_XPR_MISS_CNT [31:0], R137. -/
def KT_XPR_MISS_CNT : Fld := ⟨tBase + 0x4034, 0, 32, false⟩

/-- KT_XPR_EVICT_CNT [31:0], R137. -/
def KT_XPR_EVICT_CNT : Fld := ⟨tBase + 0x4038, 0, 32, false⟩

/-- KT_XPR_SNP_CNT [31:0], R137. -/
def KT_XPR_SNP_CNT : Fld := ⟨tBase + 0x403c, 0, 32, false⟩

/-- KT_XPR_OCC LINES [15:0], R137. -/
def KT_XPR_OCC_LINES : Fld := ⟨tBase + 0x4040, 0, 16, false⟩

/-- KB_BND_PEER_ID VENDOR [31:16], R138. -/
def BND_PEER_ID_VENDOR : Fld := ⟨0x8800, 16, 16, false⟩

/-- KB_BND_PEER_ID PART [15:0], R138. -/
def BND_PEER_ID_PART : Fld := ⟨0x8800, 0, 16, false⟩

/-- KB_BND_PEER_VER [31:0], R138. -/
def BND_PEER_VER : Fld := ⟨0x8804, 0, 32, false⟩

/-- KB_BND_HLPS FLOOR [31:24], R138. -/
def BND_HLPS_FLOOR : Fld := ⟨0x8808, 24, 8, false⟩

/-- KB_BND_HLPS PEER_MIN [23:16], R138. -/
def BND_HLPS_PEER_MIN : Fld := ⟨0x8808, 16, 8, false⟩

/-- KB_BND_HLPS PEER_MAJ [15:8], R138. -/
def BND_HLPS_PEER_MAJ : Fld := ⟨0x8808, 8, 8, false⟩

/-- KB_BND_HLPS NEG_MIN [7:0], R138. -/
def BND_HLPS_NEG_MIN : Fld := ⟨0x8808, 0, 8, false⟩

/-- KB_BND_PEER_CAPS [31:0], R138. -/
def BND_PEER_CAPS : Fld := ⟨0x880c, 0, 32, false⟩

/-- KB_BND_CAPS [31:0], R138. -/
def BND_CAPS : Fld := ⟨0x8810, 0, 32, false⟩

/-- KB_BND_DIR_CTL FLUSH [1:1], R138. -/
def BND_DIR_CTL_FLUSH : Fld := ⟨0x8820, 1, 1, false⟩

/-- KB_BND_DIR_CTL RFLUSH [0:0], R138. -/
def BND_DIR_CTL_RFLUSH : Fld := ⟨0x8820, 0, 1, false⟩

/-- KB_BND_DIR_OCC RLINES [31:16], R138. -/
def BND_DIR_OCC_RLINES : Fld := ⟨0x8824, 16, 16, false⟩

/-- KB_BND_DIR_OCC LINES [15:0], R138. -/
def BND_DIR_OCC_LINES : Fld := ⟨0x8824, 0, 16, false⟩

/-- KB_BND_XEVT IDFAIL [2:2], R138. -/
def BND_XEVT_IDFAIL : Fld := ⟨0x8830, 2, 1, false⟩

/-- KB_BND_XEVT HOMEERR [1:1], R138. -/
def BND_XEVT_HOMEERR : Fld := ⟨0x8830, 1, 1, false⟩

/-- KB_BND_XEVT PROTO [0:0], R138. -/
def BND_XEVT_PROTO : Fld := ⟨0x8830, 0, 1, false⟩

/-- KB_BND_XIEN IEN [2:0], R138. -/
def BND_XIEN_IEN : Fld := ⟨0x8834, 0, 3, true⟩

/-- KB_BND_PROTO_CNT [31:0], R138. -/
def BND_PROTO_CNT : Fld := ⟨0x8840, 0, 32, true⟩

/-- KB_BND_HOMEERR_CNT [31:0], R138. -/
def BND_HOMEERR_CNT : Fld := ⟨0x8844, 0, 32, true⟩

/-- KB_BND_IDFAIL_CNT [31:0], R138. -/
def BND_IDFAIL_CNT : Fld := ⟨0x8848, 0, 32, true⟩

/-- KB_BND_HMAP_BASE [31:0], R138. -/
def BND_HMAP_BASE (i : Nat) : Fld := ⟨0x8a00 + 0x10 * i, 0, 32, false⟩

/-- KB_BND_HMAP_LIMIT [31:0], R138. -/
def BND_HMAP_LIMIT (i : Nat) : Fld := ⟨0x8a04 + 0x10 * i, 0, 32, false⟩

/-- KB_BND_HMAP_TGT VALID [31:31], R138. -/
def BND_HMAP_TGT_VALID (i : Nat) : Fld := ⟨0x8a08 + 0x10 * i, 31, 1, false⟩

/-- KB_BND_HMAP_TGT CACHE [30:29], R138. -/
def BND_HMAP_TGT_CACHE (i : Nat) : Fld := ⟨0x8a08 + 0x10 * i, 29, 2, false⟩

/-- KB_BND_HMAP_TGT REMOTE [28:28], R138. -/
def BND_HMAP_TGT_REMOTE (i : Nat) : Fld := ⟨0x8a08 + 0x10 * i, 28, 1, false⟩

/-- KB_BND_HMAP_TGT FNA [23:0], R138. -/
def BND_HMAP_TGT_FNA (i : Nat) : Fld := ⟨0x8a08 + 0x10 * i, 0, 24, false⟩


/-! Registers defined by spec/05_lanes_and_fec.md. -/

/-- KB_LNK_STATUS CAUSE [19:16], R167. -/
def LNK_STATUS_CAUSE (n : Nat) : Fld := ⟨0x10000 + 0x400 * n, 16, 4, false⟩

/-- KB_LNK_STATUS MIRL [11:9], R167. -/
def LNK_STATUS_MIRL (n : Nat) : Fld := ⟨0x10000 + 0x400 * n, 9, 3, false⟩

/-- KB_LNK_STATUS SPUSE [8:8], R167. -/
def LNK_STATUS_SPUSE (n : Nat) : Fld := ⟨0x10000 + 0x400 * n, 8, 1, false⟩

/-- KB_LNK_STATUS RXW [7:6], R167. -/
def LNK_STATUS_RXW (n : Nat) : Fld := ⟨0x10000 + 0x400 * n, 6, 2, false⟩

/-- KB_LNK_STATUS TXW [5:4], R167. -/
def LNK_STATUS_TXW (n : Nat) : Fld := ⟨0x10000 + 0x400 * n, 4, 2, false⟩

/-- KB_LNK_STATUS STATE [3:0], R167. -/
def LNK_STATUS_STATE (n : Nat) : Fld := ⟨0x10000 + 0x400 * n, 0, 4, false⟩

/-- KB_LNK_CTL PRBSMAX [31:20], R167. -/
def LNK_CTL_PRBSMAX (n : Nat) : Fld := ⟨0x10004 + 0x400 * n, 20, 12, false⟩

/-- KB_LNK_CTL LFAIL [19:12], R167. -/
def LNK_CTL_LFAIL (n : Nat) : Fld := ⟨0x10004 + 0x400 * n, 12, 8, false⟩

/-- KB_LNK_CTL TRAIN_MAX [11:8], R167. -/
def LNK_CTL_TRAIN_MAX (n : Nat) : Fld := ⟨0x10004 + 0x400 * n, 8, 4, false⟩

/-- KB_LNK_CTL RETRAIN [4:4], R167. -/
def LNK_CTL_RETRAIN (n : Nat) : Fld := ⟨0x10004 + 0x400 * n, 4, 1, false⟩

/-- KB_LNK_CTL PARK [3:3], R167. -/
def LNK_CTL_PARK (n : Nat) : Fld := ⟨0x10004 + 0x400 * n, 3, 1, true⟩

/-- KB_LNK_CTL WMAX [2:1], R167. -/
def LNK_CTL_WMAX (n : Nat) : Fld := ⟨0x10004 + 0x400 * n, 1, 2, true⟩

/-- KB_LNK_CTL EN [0:0], R167. -/
def LNK_CTL_EN (n : Nat) : Fld := ⟨0x10004 + 0x400 * n, 0, 1, true⟩

/-- KB_LNK_MAP RXMAP [27:16], R167. -/
def LNK_MAP_RXMAP (n : Nat) : Fld := ⟨0x10008 + 0x400 * n, 16, 12, false⟩

/-- KB_LNK_MAP TXMAP [11:0], R167. -/
def LNK_MAP_TXMAP (n : Nat) : Fld := ⟨0x10008 + 0x400 * n, 0, 12, false⟩

/-- KB_LNK_LANES OEBAD [28:24], R167. -/
def LNK_LANES_OEBAD (n : Nat) : Fld := ⟨0x1000c + 0x400 * n, 24, 5, false⟩

/-- KB_LNK_LANES RXOK [20:16], R167. -/
def LNK_LANES_RXOK (n : Nat) : Fld := ⟨0x1000c + 0x400 * n, 16, 5, false⟩

/-- KB_LNK_LANES TXOK [12:8], R167. -/
def LNK_LANES_TXOK (n : Nat) : Fld := ⟨0x1000c + 0x400 * n, 8, 5, false⟩

/-- KB_LNK_LANES RETIRED [4:0], R167. -/
def LNK_LANES_RETIRED (n : Nat) : Fld := ⟨0x1000c + 0x400 * n, 0, 5, true⟩

/-- KB_LNK_HLPL FLOOR [31:24], R167. -/
def LNK_HLPL_FLOOR (n : Nat) : Fld := ⟨0x10010 + 0x400 * n, 24, 8, false⟩

/-- KB_LNK_HLPL PEER_LO [23:16], R167. -/
def LNK_HLPL_PEER_LO (n : Nat) : Fld := ⟨0x10010 + 0x400 * n, 16, 8, false⟩

/-- KB_LNK_HLPL PEER_HI [15:8], R167. -/
def LNK_HLPL_PEER_HI (n : Nat) : Fld := ⟨0x10010 + 0x400 * n, 8, 8, false⟩

/-- KB_LNK_HLPL NEG [7:0], R167. -/
def LNK_HLPL_NEG (n : Nat) : Fld := ⟨0x10010 + 0x400 * n, 0, 8, false⟩

/-- KB_LNK_PEER_CAPS [31:0], R167. -/
def LNK_PEER_CAPS (n : Nat) : Fld := ⟨0x10014 + 0x400 * n, 0, 32, false⟩

/-- KB_LNK_CAPS [31:0], R167. -/
def LNK_CAPS (n : Nat) : Fld := ⟨0x10018 + 0x400 * n, 0, 32, false⟩

/-- KB_LNK_LAT RXD [25:24], R167. -/
def LNK_LAT_RXD (n : Nat) : Fld := ⟨0x10030 + 0x400 * n, 24, 2, false⟩

/-- KB_LNK_LAT RXK [23:16], R167. -/
def LNK_LAT_RXK (n : Nat) : Fld := ⟨0x10030 + 0x400 * n, 16, 8, false⟩

/-- KB_LNK_LAT TXD [9:8], R167. -/
def LNK_LAT_TXD (n : Nat) : Fld := ⟨0x10030 + 0x400 * n, 8, 2, false⟩

/-- KB_LNK_LAT TXK [7:0], R167. -/
def LNK_LAT_TXK (n : Nat) : Fld := ⟨0x10030 + 0x400 * n, 0, 8, false⟩

/-- KB_LNK_EXP USED [31:31], R168. -/
def LNK_EXP_USED (n : Nat) : Fld := ⟨0x1001c + 0x400 * n, 31, 1, true⟩

/-- KB_LNK_EXP LINK [29:24], R168. -/
def LNK_EXP_LINK (n : Nat) : Fld := ⟨0x1001c + 0x400 * n, 24, 6, true⟩

/-- KB_LNK_EXP FNA [23:0], R168. -/
def LNK_EXP_FNA (n : Nat) : Fld := ⟨0x1001c + 0x400 * n, 0, 24, true⟩

/-- KB_LNK_OBS LINK [29:24], R168. -/
def LNK_OBS_LINK (n : Nat) : Fld := ⟨0x10020 + 0x400 * n, 24, 6, false⟩

/-- KB_LNK_OBS FNA [23:0], R168. -/
def LNK_OBS_FNA (n : Nat) : Fld := ⟨0x10020 + 0x400 * n, 0, 24, false⟩

/-- KB_LNK_OBS_ID VENDOR [31:16], R168. -/
def LNK_OBS_ID_VENDOR (n : Nat) : Fld := ⟨0x10024 + 0x400 * n, 16, 16, false⟩

/-- KB_LNK_OBS_ID PART [15:0], R168. -/
def LNK_OBS_ID_PART (n : Nat) : Fld := ⟨0x10024 + 0x400 * n, 0, 16, false⟩

/-- KB_LNK_OBS_INC INC [15:0], R168. -/
def LNK_OBS_INC_INC (n : Nat) : Fld := ⟨0x10028 + 0x400 * n, 0, 16, false⟩

/-- KB_LNK_NBR INCOMPAT [4:4], R168. -/
def LNK_NBR_INCOMPAT (n : Nat) : Fld := ⟨0x1002c + 0x400 * n, 4, 1, false⟩

/-- KB_LNK_NBR QPEER [3:3], R168. -/
def LNK_NBR_QPEER (n : Nat) : Fld := ⟨0x1002c + 0x400 * n, 3, 1, false⟩

/-- KB_LNK_NBR QVER [2:2], R168. -/
def LNK_NBR_QVER (n : Nat) : Fld := ⟨0x1002c + 0x400 * n, 2, 1, false⟩

/-- KB_LNK_NBR QID [1:1], R168. -/
def LNK_NBR_QID (n : Nat) : Fld := ⟨0x1002c + 0x400 * n, 1, 1, false⟩

/-- KB_LNK_NBR ACCEPT [0:0], R168. -/
def LNK_NBR_ACCEPT (n : Nat) : Fld := ⟨0x1002c + 0x400 * n, 0, 1, false⟩

/-- KB_LNK_PEVT MISWIRE [9:9], R169. -/
def LNK_PEVT_MISWIRE (n : Nat) : Fld := ⟨0x10040 + 0x400 * n, 9, 1, false⟩

/-- KB_LNK_PEVT OEHLTH [8:8], R169. -/
def LNK_PEVT_OEHLTH (n : Nat) : Fld := ⟨0x10040 + 0x400 * n, 8, 1, false⟩

/-- KB_LNK_PEVT LOCKLOSS [7:7], R169. -/
def LNK_PEVT_LOCKLOSS (n : Nat) : Fld := ⟨0x10040 + 0x400 * n, 7, 1, false⟩

/-- KB_LNK_PEVT WIDTH [6:6], R169. -/
def LNK_PEVT_WIDTH (n : Nat) : Fld := ⟨0x10040 + 0x400 * n, 6, 1, false⟩

/-- KB_LNK_PEVT SPFAIL [5:5], R169. -/
def LNK_PEVT_SPFAIL (n : Nat) : Fld := ⟨0x10040 + 0x400 * n, 5, 1, false⟩

/-- KB_LNK_PEVT SPARE [4:4], R169. -/
def LNK_PEVT_SPARE (n : Nat) : Fld := ⟨0x10040 + 0x400 * n, 4, 1, false⟩

/-- KB_LNK_PEVT INCOMPAT [3:3], R169. -/
def LNK_PEVT_INCOMPAT (n : Nat) : Fld := ⟨0x10040 + 0x400 * n, 3, 1, false⟩

/-- KB_LNK_PEVT VERLOW [2:2], R169. -/
def LNK_PEVT_VERLOW (n : Nat) : Fld := ⟨0x10040 + 0x400 * n, 2, 1, false⟩

/-- KB_LNK_PEVT NBRMIS [1:1], R169. -/
def LNK_PEVT_NBRMIS (n : Nat) : Fld := ⟨0x10040 + 0x400 * n, 1, 1, false⟩

/-- KB_LNK_PEVT TFAIL [0:0], R169. -/
def LNK_PEVT_TFAIL (n : Nat) : Fld := ⟨0x10040 + 0x400 * n, 0, 1, false⟩

/-- KB_LNK_PIEN IEN [9:0], R169. -/
def LNK_PIEN_IEN (n : Nat) : Fld := ⟨0x10044 + 0x400 * n, 0, 10, true⟩

/-- KB_LNK_FEC_CORR [31:0], R170. -/
def LNK_FEC_CORR (n j : Nat) : Fld := ⟨0x10080 + 0x400 * n + 4 * j, 0, 32, false⟩

/-- KB_LNK_FEC_UNC [31:0], R170. -/
def LNK_FEC_UNC (n : Nat) : Fld := ⟨0x10094 + 0x400 * n, 0, 32, false⟩

/-- KB_LNK_CRC_ERR [31:0], R170. -/
def LNK_CRC_ERR (n : Nat) : Fld := ⟨0x10098 + 0x400 * n, 0, 32, false⟩

/-- KB_LNK_PRBS_ERR [31:0], R170. -/
def LNK_PRBS_ERR (n j : Nat) : Fld := ⟨0x100a0 + 0x400 * n + 4 * j, 0, 32, false⟩

/-- KB_LNK_OE_TEMP TEMP [15:0], R170. -/
def LNK_OE_TEMP_TEMP (n : Nat) : Fld := ⟨0x100c0 + 0x400 * n, 0, 16, false⟩

/-- KB_LNK_OE_BIAS BIAS [15:0], R170. -/
def LNK_OE_BIAS_BIAS (n j : Nat) : Fld := ⟨0x100c4 + 0x400 * n + 4 * j, 0, 16, false⟩

/-- KB_LNK_OE_RXP RXP [15:0], R170. -/
def LNK_OE_RXP_RXP (n j : Nat) : Fld := ⟨0x100d8 + 0x400 * n + 4 * j, 0, 16, false⟩

/-- KB_LNK_OE_LIM1 BIAS_MAX [31:16], R170. -/
def LNK_OE_LIM1_BIAS_MAX (n : Nat) : Fld := ⟨0x100f0 + 0x400 * n, 16, 16, false⟩

/-- KB_LNK_OE_LIM1 RXP_MIN [15:0], R170. -/
def LNK_OE_LIM1_RXP_MIN (n : Nat) : Fld := ⟨0x100f0 + 0x400 * n, 0, 16, false⟩

/-- KB_LNK_OE_LIM2 POLL [15:8], R170. -/
def LNK_OE_LIM2_POLL (n : Nat) : Fld := ⟨0x100f4 + 0x400 * n, 8, 8, false⟩

/-- KB_LNK_OE_LIM2 TEMP_MAX [7:0], R170. -/
def LNK_OE_LIM2_TEMP_MAX (n : Nat) : Fld := ⟨0x100f4 + 0x400 * n, 0, 8, false⟩

/-- KB_LNK_OE_ADDR DEVAD [12:8], R170. -/
def LNK_OE_ADDR_DEVAD (n : Nat) : Fld := ⟨0x100f8 + 0x400 * n, 8, 5, false⟩

/-- KB_LNK_OE_ADDR PRTAD [4:0], R170. -/
def LNK_OE_ADDR_PRTAD (n : Nat) : Fld := ⟨0x100f8 + 0x400 * n, 0, 5, false⟩


/-! Registers defined by spec/06_reliable_link.md. -/

/-- KB_LNK_RCTL CMODE [21:21], R195. -/
def LNK_RCTL_CMODE (n : Nat) : Fld := ⟨0x10100 + 0x400 * n, 21, 1, true⟩

/-- KB_LNK_RCTL RMAX [19:16], R195. -/
def LNK_RCTL_RMAX (n : Nat) : Fld := ⟨0x10100 + 0x400 * n, 16, 4, false⟩

/-- KB_LNK_RCTL TO [15:0], R195. -/
def LNK_RCTL_TO (n : Nat) : Fld := ⟨0x10100 + 0x400 * n, 0, 16, false⟩

/-- KB_LNK_GRACE GRACE [13:0], R195. -/
def LNK_GRACE_GRACE (n : Nat) : Fld := ⟨0x10104 + 0x400 * n, 0, 14, true⟩

/-- KB_LNK_SEQ RXEXP [27:16], R195. -/
def LNK_SEQ_RXEXP (n : Nat) : Fld := ⟨0x10108 + 0x400 * n, 16, 12, false⟩

/-- KB_LNK_SEQ TXNEXT [11:0], R195. -/
def LNK_SEQ_TXNEXT (n : Nat) : Fld := ⟨0x10108 + 0x400 * n, 0, 12, false⟩

/-- KB_LNK_RSTAT BUF [25:16], R195. -/
def LNK_RSTAT_BUF (n : Nat) : Fld := ⟨0x1010c + 0x400 * n, 16, 10, false⟩

/-- KB_LNK_RSTAT DSTATE [9:8], R195. -/
def LNK_RSTAT_DSTATE (n : Nat) : Fld := ⟨0x1010c + 0x400 * n, 8, 2, false⟩

/-- KB_LNK_RSTAT DCAUSE [7:6], R195. -/
def LNK_RSTAT_DCAUSE (n : Nat) : Fld := ⟨0x1010c + 0x400 * n, 6, 2, false⟩

/-- KB_LNK_RSTAT EL [5:5], R195. -/
def LNK_RSTAT_EL (n : Nat) : Fld := ⟨0x1010c + 0x400 * n, 5, 1, false⟩

/-- KB_LNK_RSTAT RC [3:0], R195. -/
def LNK_RSTAT_RC (n : Nat) : Fld := ⟨0x1010c + 0x400 * n, 0, 4, false⟩

/-- KB_LNK_VC CRED [29:16], R195. -/
def LNK_VC_CRED (n j : Nat) : Fld := ⟨0x10120 + 0x400 * n + 4 * j, 16, 14, false⟩

/-- KB_LNK_VC ALLOC [13:0], R195. -/
def LNK_VC_ALLOC (n j : Nat) : Fld := ⟨0x10120 + 0x400 * n + 4 * j, 0, 14, false⟩

/-- KB_LNK_VC_QNT QNT [10:0], R195. -/
def LNK_VC_QNT_QNT (n j : Nat) : Fld := ⟨0x10140 + 0x400 * n + 4 * j, 0, 11, false⟩

/-- KB_LNK_SEC RXKEY [3:3], R195. -/
def LNK_SEC_RXKEY (n : Nat) : Fld := ⟨0x10200 + 0x400 * n, 3, 1, false⟩

/-- KB_LNK_SEC TXKEY [2:2], R195. -/
def LNK_SEC_TXKEY (n : Nat) : Fld := ⟨0x10200 + 0x400 * n, 2, 1, false⟩

/-- KB_LNK_SEC KEP [1:1], R195. -/
def LNK_SEC_KEP (n : Nat) : Fld := ⟨0x10200 + 0x400 * n, 1, 1, false⟩

/-- KB_LNK_SEC EN [0:0], R195. -/
def LNK_SEC_EN (n : Nat) : Fld := ⟨0x10200 + 0x400 * n, 0, 1, true⟩

/-- KB_LNK_KEY [31:0], R195. -/
def LNK_KEY (n j : Nat) : Fld := ⟨0x10210 + 0x400 * n + 4 * j, 0, 32, false⟩

/-- KB_LNK_KSALT [31:0], R195. -/
def LNK_KSALT (n : Nat) : Fld := ⟨0x10230 + 0x400 * n, 0, 32, false⟩

/-- KB_LNK_KCYC_LO [31:0], R195. -/
def LNK_KCYC_LO (n : Nat) : Fld := ⟨0x10234 + 0x400 * n, 0, 32, false⟩

/-- KB_LNK_KCYC_HI ANGLE [31:16], R195. -/
def LNK_KCYC_HI_ANGLE (n : Nat) : Fld := ⟨0x10238 + 0x400 * n, 16, 16, false⟩

/-- KB_LNK_KCYC_HI CYCLE [15:0], R195. -/
def LNK_KCYC_HI_CYCLE (n : Nat) : Fld := ⟨0x10238 + 0x400 * n, 0, 16, false⟩

/-- KB_LNK_KLOAD DIR [1:1], R195. -/
def LNK_KLOAD_DIR (n : Nat) : Fld := ⟨0x1023c + 0x400 * n, 1, 1, false⟩

/-- KB_LNK_KLOAD GO [0:0], R195. -/
def LNK_KLOAD_GO (n : Nat) : Fld := ⟨0x1023c + 0x400 * n, 0, 1, false⟩

/-- KB_LNK_KSTAT RXPEND [1:1], R195. -/
def LNK_KSTAT_RXPEND (n : Nat) : Fld := ⟨0x10240 + 0x400 * n, 1, 1, false⟩

/-- KB_LNK_KSTAT TXPEND [0:0], R195. -/
def LNK_KSTAT_TXPEND (n : Nat) : Fld := ⟨0x10240 + 0x400 * n, 0, 1, false⟩

/-- KB_LNK_REVT WSTALL [10:10], R196. -/
def LNK_REVT_WSTALL (n : Nat) : Fld := ⟨0x10160 + 0x400 * n, 10, 1, false⟩

/-- KB_LNK_REVT SECFAIL [9:9], R196. -/
def LNK_REVT_SECFAIL (n : Nat) : Fld := ⟨0x10160 + 0x400 * n, 9, 1, false⟩

/-- KB_LNK_REVT KREJ [8:8], R196. -/
def LNK_REVT_KREJ (n : Nat) : Fld := ⟨0x10160 + 0x400 * n, 8, 1, false⟩

/-- KB_LNK_REVT KEPOCH [7:7], R196. -/
def LNK_REVT_KEPOCH (n : Nat) : Fld := ⟨0x10160 + 0x400 * n, 7, 1, false⟩

/-- KB_LNK_REVT TAGERR [6:6], R196. -/
def LNK_REVT_TAGERR (n : Nat) : Fld := ⟨0x10160 + 0x400 * n, 6, 1, false⟩

/-- KB_LNK_REVT CLEAK [5:5], R196. -/
def LNK_REVT_CLEAK (n : Nat) : Fld := ⟨0x10160 + 0x400 * n, 5, 1, false⟩

/-- KB_LNK_REVT SEQERR [4:4], R196. -/
def LNK_REVT_SEQERR (n : Nat) : Fld := ⟨0x10160 + 0x400 * n, 4, 1, false⟩

/-- KB_LNK_REVT FLUSH [3:3], R196. -/
def LNK_REVT_FLUSH (n : Nat) : Fld := ⟨0x10160 + 0x400 * n, 3, 1, false⟩

/-- KB_LNK_REVT LDOWN [2:2], R196. -/
def LNK_REVT_LDOWN (n : Nat) : Fld := ⟨0x10160 + 0x400 * n, 2, 1, false⟩

/-- KB_LNK_REVT ESCRT [1:1], R196. -/
def LNK_REVT_ESCRT (n : Nat) : Fld := ⟨0x10160 + 0x400 * n, 1, 1, false⟩

/-- KB_LNK_REVT REPLAY [0:0], R196. -/
def LNK_REVT_REPLAY (n : Nat) : Fld := ⟨0x10160 + 0x400 * n, 0, 1, false⟩

/-- KB_LNK_RIEN IEN [10:0], R196. -/
def LNK_RIEN_IEN (n : Nat) : Fld := ⟨0x10164 + 0x400 * n, 0, 11, true⟩

/-- KB_LNK_WSTALL_CNT [31:0], R196. -/
def LNK_WSTALL_CNT (n : Nat) : Fld := ⟨0x101a8 + 0x400 * n, 0, 32, true⟩

/-- KB_LNK_SECFAIL_CNT [31:0], R196. -/
def LNK_SECFAIL_CNT (n : Nat) : Fld := ⟨0x101a4 + 0x400 * n, 0, 32, true⟩

/-- KB_LNK_KREJ_CNT [31:0], R196. -/
def LNK_KREJ_CNT (n : Nat) : Fld := ⟨0x101a0 + 0x400 * n, 0, 32, true⟩

/-- KB_LNK_KEPOCH_CNT [31:0], R196. -/
def LNK_KEPOCH_CNT (n : Nat) : Fld := ⟨0x1019c + 0x400 * n, 0, 32, true⟩

/-- KB_LNK_TAGERR_CNT [31:0], R196. -/
def LNK_TAGERR_CNT (n : Nat) : Fld := ⟨0x10198 + 0x400 * n, 0, 32, true⟩

/-- KB_LNK_CLEAK_CNT [31:0], R196. -/
def LNK_CLEAK_CNT (n : Nat) : Fld := ⟨0x10194 + 0x400 * n, 0, 32, true⟩

/-- KB_LNK_SEQERR_CNT [31:0], R196. -/
def LNK_SEQERR_CNT (n : Nat) : Fld := ⟨0x10190 + 0x400 * n, 0, 32, true⟩

/-- KB_LNK_FLUSH_CNT [31:0], R196. -/
def LNK_FLUSH_CNT (n : Nat) : Fld := ⟨0x1018c + 0x400 * n, 0, 32, true⟩

/-- KB_LNK_LDOWN_CNT [31:0], R196. -/
def LNK_LDOWN_CNT (n : Nat) : Fld := ⟨0x10188 + 0x400 * n, 0, 32, true⟩

/-- KB_LNK_ESCRT_CNT [31:0], R196. -/
def LNK_ESCRT_CNT (n : Nat) : Fld := ⟨0x10184 + 0x400 * n, 0, 32, true⟩

/-- KB_LNK_REPLAY_CNT [31:0], R196. -/
def LNK_REPLAY_CNT (n : Nat) : Fld := ⟨0x10180 + 0x400 * n, 0, 32, true⟩


/-! Registers defined by spec/07_addressing_and_routing.md. -/

/-- KB_RTE_SELF FNA [19:0], R217. -/
def RTE_SELF_FNA : Fld := ⟨0x20000, 0, 20, true⟩

/-- KB_RTE_CTL NRWAIT [23:16], R217. -/
def RTE_CTL_NRWAIT : Fld := ⟨0x20004, 16, 8, true⟩

/-- KB_RTE_CTL HOPS [13:8], R217. -/
def RTE_CTL_HOPS : Fld := ⟨0x20004, 8, 6, false⟩

/-- KB_RTE_CTL HSALT [7:0], R217. -/
def RTE_CTL_HSALT : Fld := ⟨0x20004, 0, 8, true⟩

/-- KB_RTE_STAT HOLDALL [29:29], R217. -/
def RTE_STAT_HOLDALL : Fld := ⟨0x20008, 29, 1, false⟩

/-- KB_RTE_STAT SELF [28:28], R217. -/
def RTE_STAT_SELF : Fld := ⟨0x20008, 28, 1, false⟩

/-- KB_RTE_STAT FENCES [25:16], R217. -/
def RTE_STAT_FENCES : Fld := ⟨0x20008, 16, 10, false⟩

/-- KB_RTE_STAT HOLDS [6:0], R217. -/
def RTE_STAT_HOLDS : Fld := ⟨0x20008, 0, 7, false⟩

/-- KB_RTE_MESH_LO [31:0], R217. -/
def RTE_MESH_LO (i : Nat) : Fld := ⟨0x20010 + 8 * i, 0, 32, false⟩

/-- KB_RTE_MESH_HI [31:0], R217. -/
def RTE_MESH_HI (i : Nat) : Fld := ⟨0x20014 + 8 * i, 0, 32, false⟩

/-- KB_RTE_DRAIN_LO [31:0], R217. -/
def RTE_DRAIN_LO : Fld := ⟨0x20030, 0, 32, false⟩

/-- KB_RTE_DRAIN_HI [31:0], R217. -/
def RTE_DRAIN_HI : Fld := ⟨0x20034, 0, 32, false⟩

/-- KB_RTE_FCMD_FNA FNA [19:0], R217. -/
def RTE_FCMD_FNA_FNA : Fld := ⟨0x20060, 0, 20, false⟩

/-- KB_RTE_FCMD_ARG GEN [31:16], R217. -/
def RTE_FCMD_ARG_GEN : Fld := ⟨0x20064, 16, 16, false⟩

/-- KB_RTE_FCMD_ARG INC [15:0], R217. -/
def RTE_FCMD_ARG_INC : Fld := ⟨0x20064, 0, 16, false⟩

/-- KB_RTE_FCMD_GO OP [1:1], R217. -/
def RTE_FCMD_GO_OP : Fld := ⟨0x20068, 1, 1, false⟩

/-- KB_RTE_FCMD_GO GO [0:0], R217. -/
def RTE_FCMD_GO_GO : Fld := ⟨0x20068, 0, 1, false⟩

/-- KB_RTE_EVT TBLERR [9:9], R218. -/
def RTE_EVT_TBLERR : Fld := ⟨0x20040, 9, 1, false⟩

/-- KB_RTE_EVT NBRUP [8:8], R218. -/
def RTE_EVT_NBRUP : Fld := ⟨0x20040, 8, 1, false⟩

/-- KB_RTE_EVT SELFFENCE [7:7], R218. -/
def RTE_EVT_SELFFENCE : Fld := ⟨0x20040, 7, 1, false⟩

/-- KB_RTE_EVT FENCEFULL [6:6], R218. -/
def RTE_EVT_FENCEFULL : Fld := ⟨0x20040, 6, 1, false⟩

/-- KB_RTE_EVT FENCEUP [5:5], R218. -/
def RTE_EVT_FENCEUP : Fld := ⟨0x20040, 5, 1, false⟩

/-- KB_RTE_EVT FENCED [4:4], R218. -/
def RTE_EVT_FENCED : Fld := ⟨0x20040, 4, 1, false⟩

/-- KB_RTE_EVT DENYDST [3:3], R218. -/
def RTE_EVT_DENYDST : Fld := ⟨0x20040, 3, 1, false⟩

/-- KB_RTE_EVT DENYSRC [2:2], R218. -/
def RTE_EVT_DENYSRC : Fld := ⟨0x20040, 2, 1, false⟩

/-- KB_RTE_EVT HOPX [1:1], R218. -/
def RTE_EVT_HOPX : Fld := ⟨0x20040, 1, 1, false⟩

/-- KB_RTE_EVT NOROUTE [0:0], R218. -/
def RTE_EVT_NOROUTE : Fld := ⟨0x20040, 0, 1, false⟩

/-- KB_RTE_IEN IEN [9:0], R218. -/
def RTE_IEN_IEN : Fld := ⟨0x20044, 0, 10, true⟩

/-- KB_RTE_TBLERR_CNT [31:0], R218. -/
def RTE_TBLERR_CNT : Fld := ⟨0x200a4, 0, 32, true⟩

/-- KB_RTE_NBRUP_CNT [31:0], R218. -/
def RTE_NBRUP_CNT : Fld := ⟨0x200a0, 0, 32, true⟩

/-- KB_RTE_SELFFENCE_CNT [31:0], R218. -/
def RTE_SELFFENCE_CNT : Fld := ⟨0x2009c, 0, 32, true⟩

/-- KB_RTE_FENCEFULL_CNT [31:0], R218. -/
def RTE_FENCEFULL_CNT : Fld := ⟨0x20098, 0, 32, true⟩

/-- KB_RTE_FENCEUP_CNT [31:0], R218. -/
def RTE_FENCEUP_CNT : Fld := ⟨0x20094, 0, 32, true⟩

/-- KB_RTE_FENCED_CNT [31:0], R218. -/
def RTE_FENCED_CNT : Fld := ⟨0x20090, 0, 32, true⟩

/-- KB_RTE_DENYDST_CNT [31:0], R218. -/
def RTE_DENYDST_CNT : Fld := ⟨0x2008c, 0, 32, true⟩

/-- KB_RTE_DENYSRC_CNT [31:0], R218. -/
def RTE_DENYSRC_CNT : Fld := ⟨0x20088, 0, 32, true⟩

/-- KB_RTE_HOPX_CNT [31:0], R218. -/
def RTE_HOPX_CNT : Fld := ⟨0x20084, 0, 32, true⟩

/-- KB_RTE_NOROUTE_CNT [31:0], R218. -/
def RTE_NOROUTE_CNT : Fld := ⟨0x20080, 0, 32, true⟩

/-- KB_RTE_PDENY [31:0], R219. -/
def RTE_PDENY (i : Nat) : Fld := ⟨0x20400 + 4 * i, 0, 32, false⟩

/-- KB_RTE_RULE_A VALID [31:31], R219. -/
def RTE_RULE_A_VALID (i : Nat) : Fld := ⟨0x28000 + 8 * i, 31, 1, false⟩

/-- KB_RTE_RULE_A PART [27:20], R219. -/
def RTE_RULE_A_PART (i : Nat) : Fld := ⟨0x28000 + 8 * i, 20, 8, false⟩

/-- KB_RTE_RULE_A BASE [19:0], R219. -/
def RTE_RULE_A_BASE (i : Nat) : Fld := ⟨0x28000 + 8 * i, 0, 20, false⟩

/-- KB_RTE_RULE_B MASK [19:0], R219. -/
def RTE_RULE_B_MASK (i : Nat) : Fld := ⟨0x28004 + 8 * i, 0, 20, false⟩

/-- KB_RTE_FENCE_A VALID [31:31], R219. -/
def RTE_FENCE_A_VALID (i : Nat) : Fld := ⟨0x30000 + 8 * i, 31, 1, true⟩

/-- KB_RTE_FENCE_A FNA [19:0], R219. -/
def RTE_FENCE_A_FNA (i : Nat) : Fld := ⟨0x30000 + 8 * i, 0, 20, true⟩

/-- KB_RTE_FENCE_B GEN [31:16], R219. -/
def RTE_FENCE_B_GEN (i : Nat) : Fld := ⟨0x30004 + 8 * i, 16, 16, true⟩

/-- KB_RTE_FENCE_B INC [15:0], R219. -/
def RTE_FENCE_B_INC (i : Nat) : Fld := ⟨0x30004 + 8 * i, 0, 16, true⟩

/-- KB_RTE_TBL VALID [31:31], R219. -/
def RTE_TBL_VALID (i : Nat) : Fld := ⟨0x40000 + 4 * i, 31, 1, false⟩

/-- KB_RTE_TBL CNT [29:28], R219. -/
def RTE_TBL_CNT (i : Nat) : Fld := ⟨0x40000 + 4 * i, 28, 2, false⟩

/-- KB_RTE_TBL LINKS [23:0], R219. -/
def RTE_TBL_LINKS (i : Nat) : Fld := ⟨0x40000 + 4 * i, 0, 24, false⟩


/-! Registers defined by spec/08_tile_delivery.md. -/

/-- KB_DLV_STATUS RET [31:30], R251. -/
def DLV_STATUS_RET : Fld := ⟨0x80000, 30, 2, false⟩

/-- KB_DLV_STATUS STALE [29:29], R251. -/
def DLV_STATUS_STALE : Fld := ⟨0x80000, 29, 1, false⟩

/-- KB_DLV_STATUS DFLOWS [28:16], R251. -/
def DLV_STATUS_DFLOWS : Fld := ⟨0x80000, 16, 13, false⟩

/-- KB_DLV_STATUS SFLOWS [12:0], R251. -/
def DLV_STATUS_SFLOWS : Fld := ⟨0x80000, 0, 13, false⟩

/-- KB_DLV_CTL ETO [31:24], R251. -/
def DLV_CTL_ETO : Fld := ⟨0x80004, 24, 8, false⟩

/-- KB_DLV_CTL EMAX [23:20], R251. -/
def DLV_CTL_EMAX : Fld := ⟨0x80004, 20, 4, false⟩

/-- KB_DLV_CTL FWIN [14:0], R251. -/
def DLV_CTL_FWIN : Fld := ⟨0x80004, 0, 15, false⟩

/-- KB_DLV_RCTL RTO [31:24], R251. -/
def DLV_RCTL_RTO : Fld := ⟨0x80008, 24, 8, false⟩

/-- KB_DLV_RCTL RRMAX [23:20], R251. -/
def DLV_RCTL_RRMAX : Fld := ⟨0x80008, 20, 4, false⟩

/-- KB_DLV_RCTL RHOLD [15:8], R251. -/
def DLV_RCTL_RHOLD : Fld := ⟨0x80008, 8, 8, false⟩

/-- KB_DLV_RCTL ACKT [7:0], R251. -/
def DLV_RCTL_ACKT : Fld := ⟨0x80008, 0, 8, false⟩

/-- KB_DLV_RBASE_LO BASE [31:16], R251. -/
def DLV_RBASE_LO_BASE : Fld := ⟨0x80010, 16, 16, false⟩

/-- KB_DLV_RBASE_HI BASE [19:0], R251. -/
def DLV_RBASE_HI_BASE : Fld := ⟨0x80014, 0, 20, false⟩

/-- KB_DLV_RSIZE BLOCKS [31:16], R251. -/
def DLV_RSIZE_BLOCKS : Fld := ⟨0x80018, 16, 16, false⟩

/-- KB_DLV_RSIZE SIZE [8:0], R251. -/
def DLV_RSIZE_SIZE : Fld := ⟨0x80018, 0, 9, false⟩

/-- KB_DLV_RFREE FREE [15:0], R251. -/
def DLV_RFREE_FREE : Fld := ⟨0x8001c, 0, 16, false⟩

/-- KB_DLV_RINC FINC [15:0], R251. -/
def DLV_RINC_FINC : Fld := ⟨0x80020, 0, 16, false⟩

/-- KB_DLV_RSPC USED [10:0], R251. -/
def DLV_RSPC_USED : Fld := ⟨0x80030, 0, 11, false⟩

/-- KB_DLV_EVT LAPSE [10:10], R252. -/
def DLV_EVT_LAPSE : Fld := ⟨0x80040, 10, 1, false⟩

/-- KB_DLV_EVT RCFULL [9:9], R252. -/
def DLV_EVT_RCFULL : Fld := ⟨0x80040, 9, 1, false⟩

/-- KB_DLV_EVT REQFAIL [8:8], R252. -/
def DLV_EVT_REQFAIL : Fld := ⟨0x80040, 8, 1, false⟩

/-- KB_DLV_EVT DUP [7:7], R252. -/
def DLV_EVT_DUP : Fld := ⟨0x80040, 7, 1, false⟩

/-- KB_DLV_EVT LOGFULL [6:6], R252. -/
def DLV_EVT_LOGFULL : Fld := ⟨0x80040, 6, 1, false⟩

/-- KB_DLV_EVT RETLOST [5:5], R252. -/
def DLV_EVT_RETLOST : Fld := ⟨0x80040, 5, 1, false⟩

/-- KB_DLV_EVT BROKEN [4:4], R252. -/
def DLV_EVT_BROKEN : Fld := ⟨0x80040, 4, 1, false⟩

/-- KB_DLV_EVT RETERR [3:3], R252. -/
def DLV_EVT_RETERR : Fld := ⟨0x80040, 3, 1, false⟩

/-- KB_DLV_EVT CHKFAIL [2:2], R252. -/
def DLV_EVT_CHKFAIL : Fld := ⟨0x80040, 2, 1, false⟩

/-- KB_DLV_EVT RESEND [1:1], R252. -/
def DLV_EVT_RESEND : Fld := ⟨0x80040, 1, 1, false⟩

/-- KB_DLV_EVT REFUSE [0:0], R252. -/
def DLV_EVT_REFUSE : Fld := ⟨0x80040, 0, 1, false⟩

/-- KB_DLV_IEN IEN [10:0], R252. -/
def DLV_IEN_IEN : Fld := ⟨0x80044, 0, 11, true⟩

/-- KB_DLV_LAPSE_EVT_CNT [31:0], R252. -/
def DLV_LAPSE_EVT_CNT : Fld := ⟨0x800a8, 0, 32, true⟩

/-- KB_DLV_RCFULL_CNT [31:0], R252. -/
def DLV_RCFULL_CNT : Fld := ⟨0x800a4, 0, 32, true⟩

/-- KB_DLV_REQFAIL_CNT [31:0], R252. -/
def DLV_REQFAIL_CNT : Fld := ⟨0x800a0, 0, 32, true⟩

/-- KB_DLV_DUP_CNT [31:0], R252. -/
def DLV_DUP_CNT : Fld := ⟨0x8009c, 0, 32, true⟩

/-- KB_DLV_LOGFULL_CNT [31:0], R252. -/
def DLV_LOGFULL_CNT : Fld := ⟨0x80098, 0, 32, true⟩

/-- KB_DLV_RETLOST_CNT [31:0], R252. -/
def DLV_RETLOST_CNT : Fld := ⟨0x80094, 0, 32, true⟩

/-- KB_DLV_BROKEN_CNT [31:0], R252. -/
def DLV_BROKEN_CNT : Fld := ⟨0x80090, 0, 32, true⟩

/-- KB_DLV_RETERR_CNT [31:0], R252. -/
def DLV_RETERR_CNT : Fld := ⟨0x8008c, 0, 32, true⟩

/-- KB_DLV_CHKFAIL_CNT [31:0], R252. -/
def DLV_CHKFAIL_CNT : Fld := ⟨0x80088, 0, 32, true⟩

/-- KB_DLV_RESEND_CNT [31:0], R252. -/
def DLV_RESEND_CNT : Fld := ⟨0x80084, 0, 32, true⟩

/-- KB_DLV_REFUSE_CNT [31:0], R252. -/
def DLV_REFUSE_CNT : Fld := ⟨0x80080, 0, 32, true⟩

/-- KB_DLV_SSEL FLOW [11:0], R253. -/
def DLV_SSEL_FLOW (src : Nat) : Fld := ⟨selKey src (0x80100), 0, 12, false⟩

/-- KB_DLV_SFLOW STATE [31:30], R253. -/
def DLV_SFLOW_STATE (f : Nat) : Fld := ⟨flowKey f + 4, 30, 2, true⟩

/-- KB_DLV_SFLOW PART [27:20], R253. -/
def DLV_SFLOW_PART (f : Nat) : Fld := ⟨flowKey f + 4, 20, 8, true⟩

/-- KB_DLV_SFLOW DST [19:0], R253. -/
def DLV_SFLOW_DST (f : Nat) : Fld := ⟨flowKey f + 4, 0, 20, true⟩

/-- KB_DLV_SNEXT [31:0], R253. -/
def DLV_SNEXT (f : Nat) : Fld := ⟨flowKey f + 8, 0, 32, false⟩

/-- KB_DLV_SACKED [31:0], R253. -/
def DLV_SACKED (f : Nat) : Fld := ⟨flowKey f + 0xc, 0, 32, false⟩

/-- KB_DLV_SBOUND [31:0], R253. -/
def DLV_SBOUND (f : Nat) : Fld := ⟨flowKey f + 0x10, 0, 32, false⟩

/-- KB_DLV_SCMD EXACT [3:3], R253. -/
def DLV_SCMD_EXACT (f : Nat) : Fld := ⟨flowKey f + 0x14, 3, 1, false⟩

/-- KB_DLV_SCMD CMD [1:0], R253. -/
def DLV_SCMD_CMD (f : Nat) : Fld := ⟨flowKey f + 0x14, 0, 2, false⟩

/-- KB_DLV_DSEL ENTRY [11:0], R253. -/
def DLV_DSEL_ENTRY (src : Nat) : Fld := ⟨selKey src (0x80120), 0, 12, false⟩

/-- KB_DLV_DLOG_A FLOW [31:20], R253. -/
def DLV_DLOG_A_FLOW (e : Nat) : Fld := ⟨dlogKey e + 4, 20, 12, true⟩

/-- KB_DLV_DLOG_A SRC [19:0], R253. -/
def DLV_DLOG_A_SRC (e : Nat) : Fld := ⟨dlogKey e + 4, 0, 20, true⟩

/-- KB_DLV_DLOG_B BROKEN [31:31], R253. -/
def DLV_DLOG_B_BROKEN (e : Nat) : Fld := ⟨dlogKey e + 8, 31, 1, true⟩

/-- KB_DLV_DLOG_B LAST [30:0], R253. -/
def DLV_DLOG_B_LAST (e : Nat) : Fld := ⟨dlogKey e + 8, 0, 31, true⟩

/-- KB_DLV_DCMD FREE [0:0], R253. -/
def DLV_DCMD_FREE (e : Nat) : Fld := ⟨dlogKey e + 0xc, 0, 1, false⟩

/-- KB_DLV_LAPSE_PTR WPTR [26:16], R254. -/
def DLV_LAPSE_PTR_WPTR : Fld := ⟨0x80140, 16, 11, false⟩

/-- KB_DLV_LAPSE_PTR RPTR [10:0], R254. -/
def DLV_LAPSE_PTR_RPTR : Fld := ⟨0x80140, 0, 11, false⟩

/-- KB_DLV_LAPSE_OVF [31:0], R254. -/
def DLV_LAPSE_OVF : Fld := ⟨0x80144, 0, 32, false⟩

/-- KB_DLV_LAPSE_CNT [31:0], R254. -/
def DLV_LAPSE_CNT (i j : Nat) : Fld := ⟨0x81000 + 0x10 * i + 4 * j, 0, 32, false⟩

/-- KB_DLV_LAPSE_REC [31:0], R254. -/
def DLV_LAPSE_REC (i j : Nat) : Fld := ⟨0x88000 + 0x20 * i + 4 * j, 0, 32, false⟩


/-! Registers defined by spec/09_fabric_time.md. -/

/-- KB_TIM_STATUS SEQ [7:4], R275. -/
def TIM_STATUS_SEQ : Fld := ⟨0x90000, 4, 4, false⟩

/-- KB_TIM_STATUS STALE [3:3], R275. -/
def TIM_STATUS_STALE : Fld := ⟨0x90000, 3, 1, false⟩

/-- KB_TIM_STATUS STATE [2:0], R275. -/
def TIM_STATUS_STATE : Fld := ⟨0x90000, 0, 3, false⟩

/-- KB_TIM_CTL STEPOK [16:16], R275. -/
def TIM_CTL_STEPOK : Fld := ⟨0x90004, 16, 1, true⟩

/-- KB_TIM_CTL PEN [14:14], R275. -/
def TIM_CTL_PEN : Fld := ⟨0x90004, 14, 1, true⟩

/-- KB_TIM_CTL PARENT [13:8], R275. -/
def TIM_CTL_PARENT : Fld := ⟨0x90004, 8, 6, true⟩

/-- KB_TIM_CTL ROLE [1:0], R275. -/
def TIM_CTL_ROLE : Fld := ⟨0x90004, 0, 2, false⟩

/-- KB_TIM_PIMG P [20:0], R275. -/
def TIM_PIMG_P : Fld := ⟨0x90008, 0, 21, false⟩

/-- KB_TIM_PCUR P [20:0], R275. -/
def TIM_PCUR_P : Fld := ⟨0x9000c, 0, 21, false⟩

/-- KB_TIM_EPOCH EPER [19:0], R275. -/
def TIM_EPOCH_EPER : Fld := ⟨0x90010, 0, 20, false⟩

/-- KB_TIM_CYC_LO [31:0], R275. -/
def TIM_CYC_LO : Fld := ⟨0x90014, 0, 32, false⟩

/-- KB_TIM_CYC_HI CYCLE [15:0], R275. -/
def TIM_CYC_HI_CYCLE : Fld := ⟨0x90018, 0, 16, false⟩

/-- KB_TIM_ANGLE FRAC [31:16], R275. -/
def TIM_ANGLE_FRAC : Fld := ⟨0x9001c, 16, 16, false⟩

/-- KB_TIM_ANGLE ANGLE [15:0], R275. -/
def TIM_ANGLE_ANGLE : Fld := ⟨0x9001c, 0, 16, false⟩

/-- KB_TIM_INC_LO [31:0], R275. -/
def TIM_INC_LO : Fld := ⟨0x90020, 0, 32, false⟩

/-- KB_TIM_INC_HI INC [7:0], R275. -/
def TIM_INC_HI_INC : Fld := ⟨0x90024, 0, 8, false⟩

/-- KB_TIM_OFFSET [31:0], R275. -/
def TIM_OFFSET : Fld := ⟨0x90028, 0, 32, false⟩

/-- KB_TIM_FREQ [31:0], R275. -/
def TIM_FREQ : Fld := ⟨0x9002c, 0, 32, false⟩

/-- KB_TIM_RTT [31:0], R275. -/
def TIM_RTT : Fld := ⟨0x90030, 0, 32, false⟩

/-- KB_TIM_RTTMIN [31:0], R275. -/
def TIM_RTTMIN : Fld := ⟨0x90034, 0, 32, false⟩

/-- KB_TIM_HOLD HOLDMAX [15:0], R275. -/
def TIM_HOLD_HOLDMAX : Fld := ⟨0x90038, 0, 16, true⟩

/-- KB_TIM_LOOP STEPMAX [31:24], R275. -/
def TIM_LOOP_STEPMAX : Fld := ⟨0x9003c, 24, 8, false⟩

/-- KB_TIM_LOOP SLEW [23:16], R275. -/
def TIM_LOOP_SLEW : Fld := ⟨0x9003c, 16, 8, false⟩

/-- KB_TIM_LOOP KI [11:8], R275. -/
def TIM_LOOP_KI : Fld := ⟨0x9003c, 8, 4, false⟩

/-- KB_TIM_LOOP KP [3:0], R275. -/
def TIM_LOOP_KP : Fld := ⟨0x9003c, 0, 4, false⟩

/-- KB_TIM_TT TTPER [7:0], R275. -/
def TIM_TT_TTPER : Fld := ⟨0x90040, 0, 8, true⟩

/-- KB_TIM_SET_LO [31:0], R275. -/
def TIM_SET_LO : Fld := ⟨0x90044, 0, 32, false⟩

/-- KB_TIM_SET_HI CYCLE [15:0], R275. -/
def TIM_SET_HI_CYCLE : Fld := ⟨0x90048, 0, 16, false⟩

/-- KB_TIM_PNEW P [20:0], R275. -/
def TIM_PNEW_P : Fld := ⟨0x9004c, 0, 21, false⟩

/-- KB_TIM_PCYC_LO [31:0], R275. -/
def TIM_PCYC_LO : Fld := ⟨0x90050, 0, 32, false⟩

/-- KB_TIM_PCYC_HI GO [31:31], R275. -/
def TIM_PCYC_HI_GO : Fld := ⟨0x90054, 31, 1, false⟩

/-- KB_TIM_PCYC_HI CEFF [15:0], R275. -/
def TIM_PCYC_HI_CEFF : Fld := ⟨0x90054, 0, 16, false⟩

/-- KB_TIM_LADJ RXEXT [31:16], R275. -/
def TIM_LADJ_RXEXT (i : Nat) : Fld := ⟨0x90100 + 4 * i, 16, 16, false⟩

/-- KB_TIM_LADJ TXEXT [15:0], R275. -/
def TIM_LADJ_TXEXT (i : Nat) : Fld := ⟨0x90100 + 4 * i, 0, 16, false⟩

/-- KB_TIM_EVT DUPLEAD [12:12], R276. -/
def TIM_EVT_DUPLEAD : Fld := ⟨0x90060, 12, 1, false⟩

/-- KB_TIM_EVT INCOMPAT [11:11], R276. -/
def TIM_EVT_INCOMPAT : Fld := ⟨0x90060, 11, 1, false⟩

/-- KB_TIM_EVT PREJ [10:10], R276. -/
def TIM_EVT_PREJ : Fld := ⟨0x90060, 10, 1, false⟩

/-- KB_TIM_EVT PCHG [9:9], R276. -/
def TIM_EVT_PCHG : Fld := ⟨0x90060, 9, 1, false⟩

/-- KB_TIM_EVT TTREJ [8:8], R276. -/
def TIM_EVT_TTREJ : Fld := ⟨0x90060, 8, 1, false⟩

/-- KB_TIM_EVT LATECORR [7:7], R276. -/
def TIM_EVT_LATECORR : Fld := ⟨0x90060, 7, 1, false⟩

/-- KB_TIM_EVT EPOCHMISS [6:6], R276. -/
def TIM_EVT_EPOCHMISS : Fld := ⟨0x90060, 6, 1, false⟩

/-- KB_TIM_EVT EPOCHERR [5:5], R276. -/
def TIM_EVT_EPOCHERR : Fld := ⟨0x90060, 5, 1, false⟩

/-- KB_TIM_EVT STEPREQ [4:4], R276. -/
def TIM_EVT_STEPREQ : Fld := ⟨0x90060, 4, 1, false⟩

/-- KB_TIM_EVT STEP [3:3], R276. -/
def TIM_EVT_STEP : Fld := ⟨0x90060, 3, 1, false⟩

/-- KB_TIM_EVT STALE [2:2], R276. -/
def TIM_EVT_STALE : Fld := ⟨0x90060, 2, 1, false⟩

/-- KB_TIM_EVT HOLD [1:1], R276. -/
def TIM_EVT_HOLD : Fld := ⟨0x90060, 1, 1, false⟩

/-- KB_TIM_EVT LOCK [0:0], R276. -/
def TIM_EVT_LOCK : Fld := ⟨0x90060, 0, 1, false⟩

/-- KB_TIM_IEN IEN [12:0], R276. -/
def TIM_IEN_IEN : Fld := ⟨0x90064, 0, 13, true⟩

/-- KB_TIM_DUPLEAD_CNT [31:0], R276. -/
def TIM_DUPLEAD_CNT : Fld := ⟨0x900b0, 0, 32, true⟩

/-- KB_TIM_INCOMPAT_CNT [31:0], R276. -/
def TIM_INCOMPAT_CNT : Fld := ⟨0x900ac, 0, 32, true⟩

/-- KB_TIM_PREJ_CNT [31:0], R276. -/
def TIM_PREJ_CNT : Fld := ⟨0x900a8, 0, 32, true⟩

/-- KB_TIM_PCHG_CNT [31:0], R276. -/
def TIM_PCHG_CNT : Fld := ⟨0x900a4, 0, 32, true⟩

/-- KB_TIM_TTREJ_CNT [31:0], R276. -/
def TIM_TTREJ_CNT : Fld := ⟨0x900a0, 0, 32, true⟩

/-- KB_TIM_LATECORR_CNT [31:0], R276. -/
def TIM_LATECORR_CNT : Fld := ⟨0x9009c, 0, 32, true⟩

/-- KB_TIM_EPOCHMISS_CNT [31:0], R276. -/
def TIM_EPOCHMISS_CNT : Fld := ⟨0x90098, 0, 32, true⟩

/-- KB_TIM_EPOCHERR_CNT [31:0], R276. -/
def TIM_EPOCHERR_CNT : Fld := ⟨0x90094, 0, 32, true⟩

/-- KB_TIM_STEPREQ_CNT [31:0], R276. -/
def TIM_STEPREQ_CNT : Fld := ⟨0x90090, 0, 32, true⟩

/-- KB_TIM_STEP_CNT [31:0], R276. -/
def TIM_STEP_CNT : Fld := ⟨0x9008c, 0, 32, true⟩

/-- KB_TIM_STALE_CNT [31:0], R276. -/
def TIM_STALE_CNT : Fld := ⟨0x90088, 0, 32, true⟩

/-- KB_TIM_HOLD_CNT [31:0], R276. -/
def TIM_HOLD_CNT : Fld := ⟨0x90084, 0, 32, true⟩

/-- KB_TIM_LOCK_CNT [31:0], R276. -/
def TIM_LOCK_CNT : Fld := ⟨0x90080, 0, 32, true⟩


/-! Registers defined by spec/10_pour_scheduled_launch.md. -/

/-- KB_POR_STATUS SLOTS [26:16], R292. -/
def POR_STATUS_SLOTS : Fld := ⟨0xa0000, 16, 11, false⟩

/-- KB_POR_STATUS ARMED [14:0], R292. -/
def POR_STATUS_ARMED : Fld := ⟨0xa0000, 0, 15, false⟩

/-- KB_POR_CTL EN [31:31], R292. -/
def POR_CTL_EN : Fld := ⟨0xa0004, 31, 1, false⟩

/-- KB_POR_CTL LOOK [23:16], R292. -/
def POR_CTL_LOOK : Fld := ⟨0xa0004, 16, 8, false⟩

/-- KB_POR_CTL LEAD [8:0], R292. -/
def POR_CTL_LEAD : Fld := ⟨0xa0004, 0, 9, false⟩

/-- KB_POR_SBASE_LO BASE [31:12], R292. -/
def POR_SBASE_LO_BASE : Fld := ⟨0xa0008, 12, 20, false⟩

/-- KB_POR_SBASE_HI BASE [19:0], R292. -/
def POR_SBASE_HI_BASE : Fld := ⟨0xa000c, 0, 20, false⟩

/-- KB_POR_ACMD OP [17:17], R292. -/
def POR_ACMD_OP : Fld := ⟨0xa0010, 17, 1, false⟩

/-- KB_POR_ACMD GO [16:16], R292. -/
def POR_ACMD_GO : Fld := ⟨0xa0010, 16, 1, false⟩

/-- KB_POR_ACMD ENTRY [13:0], R292. -/
def POR_ACMD_ENTRY : Fld := ⟨0xa0010, 0, 14, false⟩

/-- KB_POR_ASTAT BUSY [31:31], R292. -/
def POR_ASTAT_BUSY : Fld := ⟨0xa0014, 31, 1, false⟩

/-- KB_POR_ASTAT REASON [19:16], R292. -/
def POR_ASTAT_REASON : Fld := ⟨0xa0014, 16, 4, false⟩

/-- KB_POR_ASTAT ENTRY [13:0], R292. -/
def POR_ASTAT_ENTRY : Fld := ⟨0xa0014, 0, 14, false⟩

/-- KB_POR_ESEL ENTRY [13:0], R292. -/
def POR_ESEL_ENTRY (src : Nat) : Fld := ⟨selKey src (0xa0020), 0, 14, false⟩

/-- KB_POR_ENEXT_LO [31:0], R292. -/
def POR_ENEXT_LO (e : Nat) : Fld := ⟨pourKey e + 4, 0, 32, false⟩

/-- KB_POR_ENEXT_HI ANGLE [31:16], R292. -/
def POR_ENEXT_HI_ANGLE (e : Nat) : Fld := ⟨pourKey e + 8, 16, 16, false⟩

/-- KB_POR_ENEXT_HI CYCLE [15:0], R292. -/
def POR_ENEXT_HI_CYCLE (e : Nat) : Fld := ⟨pourKey e + 8, 0, 16, false⟩

/-- KB_POR_EREM ARMED [31:31], R292. -/
def POR_EREM_ARMED (e : Nat) : Fld := ⟨pourKey e + 0xc, 31, 1, false⟩

/-- KB_POR_EREM SLOT [30:30], R292. -/
def POR_EREM_SLOT (e : Nat) : Fld := ⟨pourKey e + 0xc, 30, 1, false⟩

/-- KB_POR_EREM REM [15:0], R292. -/
def POR_EREM_REM (e : Nat) : Fld := ⟨pourKey e + 0xc, 0, 16, false⟩

/-- KB_POR_TRIG_CNT [31:0], R292. -/
def POR_TRIG_CNT : Fld := ⟨0xa0030, 0, 32, false⟩

/-- KB_POR_HINT_CNT [31:0], R292. -/
def POR_HINT_CNT : Fld := ⟨0xa0034, 0, 32, false⟩

/-- KB_POR_STALE_CNT [31:0], R292. -/
def POR_STALE_CNT : Fld := ⟨0xa0038, 0, 32, false⟩

/-- KB_POR_EVT BAR [7:7], R293. -/
def POR_EVT_BAR : Fld := ⟨0xa0040, 7, 1, false⟩

/-- KB_POR_EVT HELD [6:6], R293. -/
def POR_EVT_HELD : Fld := ⟨0xa0040, 6, 1, false⟩

/-- KB_POR_EVT PASSED [5:5], R293. -/
def POR_EVT_PASSED : Fld := ⟨0xa0040, 5, 1, false⟩

/-- KB_POR_EVT MISSED [4:4], R293. -/
def POR_EVT_MISSED : Fld := ⟨0xa0040, 4, 1, false⟩

/-- KB_POR_EVT DISPLACE [3:3], R293. -/
def POR_EVT_DISPLACE : Fld := ⟨0xa0040, 3, 1, false⟩

/-- KB_POR_EVT SLOTFULL [2:2], R293. -/
def POR_EVT_SLOTFULL : Fld := ⟨0xa0040, 2, 1, false⟩

/-- KB_POR_EVT SCHERR [1:1], R293. -/
def POR_EVT_SCHERR : Fld := ⟨0xa0040, 1, 1, false⟩

/-- KB_POR_EVT ARMREJ [0:0], R293. -/
def POR_EVT_ARMREJ : Fld := ⟨0xa0040, 0, 1, false⟩

/-- KB_POR_IEN IEN [7:0], R293. -/
def POR_IEN_IEN : Fld := ⟨0xa0044, 0, 8, true⟩

/-- KB_POR_BAR_CNT [31:0], R293. -/
def POR_BAR_CNT : Fld := ⟨0xa009c, 0, 32, true⟩

/-- KB_POR_HELD_CNT [31:0], R293. -/
def POR_HELD_CNT : Fld := ⟨0xa0098, 0, 32, true⟩

/-- KB_POR_PASSED_CNT [31:0], R293. -/
def POR_PASSED_CNT : Fld := ⟨0xa0094, 0, 32, true⟩

/-- KB_POR_MISSED_CNT [31:0], R293. -/
def POR_MISSED_CNT : Fld := ⟨0xa0090, 0, 32, true⟩

/-- KB_POR_DISPLACE_CNT [31:0], R293. -/
def POR_DISPLACE_CNT : Fld := ⟨0xa008c, 0, 32, true⟩

/-- KB_POR_SLOTFULL_CNT [31:0], R293. -/
def POR_SLOTFULL_CNT : Fld := ⟨0xa0088, 0, 32, true⟩

/-- KB_POR_SCHERR_CNT [31:0], R293. -/
def POR_SCHERR_CNT : Fld := ⟨0xa0084, 0, 32, true⟩

/-- KB_POR_ARMREJ_CNT [31:0], R293. -/
def POR_ARMREJ_CNT : Fld := ⟨0xa0080, 0, 32, true⟩

/-- KB_POR_GOWN VALID [31:31], R294. -/
def POR_GOWN_VALID (i : Nat) : Fld := ⟨0xa0400 + 4 * i, 31, 1, false⟩

/-- KB_POR_GOWN PART [7:0], R294. -/
def POR_GOWN_PART (i : Nat) : Fld := ⟨0xa0400 + 4 * i, 0, 8, false⟩

/-- KB_POR_BAR [31:0], R294. -/
def POR_BAR (i : Nat) : Fld := ⟨0xa0800 + 4 * i, 0, 32, false⟩

/-- KT_LNP_TRIG_CNT [31:0], R295. -/
def KT_LNP_TRIG_CNT : Fld := ⟨tBase + 0x6000, 0, 32, false⟩

/-- KT_LNP_LATE_CNT [31:0], R295. -/
def KT_LNP_LATE_CNT : Fld := ⟨tBase + 0x6004, 0, 32, false⟩

/-- KT_LNP_LDROP_CNT [31:0], R295. -/
def KT_LNP_LDROP_CNT : Fld := ⟨tBase + 0x6008, 0, 32, false⟩

/-- KT_LNP_PEND CNT [8:0], R295. -/
def KT_LNP_PEND_CNT : Fld := ⟨tBase + 0x600c, 0, 9, false⟩


/-! Registers defined by spec/11_blend_arithmetic.md. -/

/-- KB_BLD_STATUS DEGR [23:16], R320. -/
def BLD_STATUS_DEGR : Fld := ⟨0xb0000, 16, 8, false⟩

/-- KB_BLD_STATUS HOLD [9:9], R320. -/
def BLD_STATUS_HOLD : Fld := ⟨0xb0000, 9, 1, false⟩

/-- KB_BLD_STATUS ARMED [8:0], R320. -/
def BLD_STATUS_ARMED : Fld := ⟨0xb0000, 0, 9, false⟩

/-- KB_BLD_CTL SHROT [15:12], R320. -/
def BLD_CTL_SHROT : Fld := ⟨0xb0004, 12, 4, false⟩

/-- KB_BLD_CTL SHEN [8:8], R320. -/
def BLD_CTL_SHEN : Fld := ⟨0xb0004, 8, 1, false⟩

/-- KB_BLD_CTL TWAIT [7:0], R320. -/
def BLD_CTL_TWAIT : Fld := ⟨0xb0004, 0, 8, true⟩

/-- KB_BLD_DCMD CMD [10:8], R320. -/
def BLD_DCMD_CMD : Fld := ⟨0xb0010, 8, 3, false⟩

/-- KB_BLD_DCMD RD [7:0], R320. -/
def BLD_DCMD_RD : Fld := ⟨0xb0010, 0, 8, false⟩

/-- KB_BLD_DSTAT BUSY [31:31], R320. -/
def BLD_DSTAT_BUSY : Fld := ⟨0xb0014, 31, 1, false⟩

/-- KB_BLD_DSTAT REASON [11:8], R320. -/
def BLD_DSTAT_REASON : Fld := ⟨0xb0014, 8, 4, false⟩

/-- KB_BLD_DSTAT RD [7:0], R320. -/
def BLD_DSTAT_RD : Fld := ⟨0xb0014, 0, 8, false⟩

/-- KB_BLD_TILE_CNT [31:0], R320. -/
def BLD_TILE_CNT : Fld := ⟨0xb0020, 0, 32, false⟩

/-- KB_BLD_EMIT_CNT [31:0], R320. -/
def BLD_EMIT_CNT : Fld := ⟨0xb0024, 0, 32, false⟩

/-- KB_BLD_EVT STOREU [10:10], R321. -/
def BLD_EVT_STOREU : Fld := ⟨0xb0040, 10, 1, false⟩

/-- KB_BLD_EVT STOREC [9:9], R321. -/
def BLD_EVT_STOREC : Fld := ⟨0xb0040, 9, 1, false⟩

/-- KB_BLD_EVT LNOSPARE [8:8], R321. -/
def BLD_EVT_LNOSPARE : Fld := ⟨0xb0040, 8, 1, false⟩

/-- KB_BLD_EVT SPOUT [7:7], R321. -/
def BLD_EVT_SPOUT : Fld := ⟨0xb0040, 7, 1, false⟩

/-- KB_BLD_EVT LRETIRE [6:6], R321. -/
def BLD_EVT_LRETIRE : Fld := ⟨0xb0040, 6, 1, false⟩

/-- KB_BLD_EVT SHTRANS [5:5], R321. -/
def BLD_EVT_SHTRANS : Fld := ⟨0xb0040, 5, 1, false⟩

/-- KB_BLD_EVT INCLAMP [4:4], R321. -/
def BLD_EVT_INCLAMP : Fld := ⟨0xb0040, 4, 1, false⟩

/-- KB_BLD_EVT OUTRANGE [3:3], R321. -/
def BLD_EVT_OUTRANGE : Fld := ⟨0xb0040, 3, 1, false⟩

/-- KB_BLD_EVT FULL [2:2], R321. -/
def BLD_EVT_FULL : Fld := ⟨0xb0040, 2, 1, false⟩

/-- KB_BLD_EVT DREJ [1:1], R321. -/
def BLD_EVT_DREJ : Fld := ⟨0xb0040, 1, 1, false⟩

/-- KB_BLD_EVT BADTILE [0:0], R321. -/
def BLD_EVT_BADTILE : Fld := ⟨0xb0040, 0, 1, false⟩

/-- KB_BLD_IEN IEN [10:0], R321. -/
def BLD_IEN_IEN : Fld := ⟨0xb0044, 0, 11, true⟩

/-- KB_BLD_STOREU_CNT [31:0], R321. -/
def BLD_STOREU_CNT : Fld := ⟨0xb00a8, 0, 32, true⟩

/-- KB_BLD_STOREC_CNT [31:0], R321. -/
def BLD_STOREC_CNT : Fld := ⟨0xb00a4, 0, 32, true⟩

/-- KB_BLD_LNOSPARE_CNT [31:0], R321. -/
def BLD_LNOSPARE_CNT : Fld := ⟨0xb00a0, 0, 32, true⟩

/-- KB_BLD_SPOUT_CNT [31:0], R321. -/
def BLD_SPOUT_CNT : Fld := ⟨0xb009c, 0, 32, true⟩

/-- KB_BLD_LRETIRE_CNT [31:0], R321. -/
def BLD_LRETIRE_CNT : Fld := ⟨0xb0098, 0, 32, true⟩

/-- KB_BLD_SHTRANS_CNT [31:0], R321. -/
def BLD_SHTRANS_CNT : Fld := ⟨0xb0094, 0, 32, true⟩

/-- KB_BLD_INCLAMP_CNT [31:0], R321. -/
def BLD_INCLAMP_CNT : Fld := ⟨0xb0090, 0, 32, true⟩

/-- KB_BLD_OUTRANGE_CNT [31:0], R321. -/
def BLD_OUTRANGE_CNT : Fld := ⟨0xb008c, 0, 32, true⟩

/-- KB_BLD_FULL_CNT [31:0], R321. -/
def BLD_FULL_CNT : Fld := ⟨0xb0088, 0, 32, true⟩

/-- KB_BLD_DREJ_CNT [31:0], R321. -/
def BLD_DREJ_CNT : Fld := ⟨0xb0084, 0, 32, true⟩

/-- KB_BLD_BADTILE_CNT [31:0], R321. -/
def BLD_BADTILE_CNT : Fld := ⟨0xb0080, 0, 32, true⟩

/-- KB_BLD_RD_CFG STATE [30:28], R322. -/
def BLD_RD_CFG_STATE (i : Nat) : Fld := ⟨0xb1000 + 0x20 * i, 28, 3, false⟩

/-- KB_BLD_RD_CFG SAT [27:27], R322. -/
def BLD_RD_CFG_SAT (i : Nat) : Fld := ⟨0xb1000 + 0x20 * i, 27, 1, false⟩

/-- KB_BLD_RD_CFG ACC [26:26], R322. -/
def BLD_RD_CFG_ACC (i : Nat) : Fld := ⟨0xb1000 + 0x20 * i, 26, 1, false⟩

/-- KB_BLD_RD_CFG RND [25:24], R322. -/
def BLD_RD_CFG_RND (i : Nat) : Fld := ⟨0xb1000 + 0x20 * i, 24, 2, false⟩

/-- KB_BLD_RD_CFG OFMT [23:20], R322. -/
def BLD_RD_CFG_OFMT (i : Nat) : Fld := ⟨0xb1000 + 0x20 * i, 20, 4, false⟩

/-- KB_BLD_RD_CFG IFMT [19:16], R322. -/
def BLD_RD_CFG_IFMT (i : Nat) : Fld := ⟨0xb1000 + 0x20 * i, 16, 4, false⟩

/-- KB_BLD_RD_CFG OP [14:12], R322. -/
def BLD_RD_CFG_OP (i : Nat) : Fld := ⟨0xb1000 + 0x20 * i, 12, 3, false⟩

/-- KB_BLD_RD_CFG PART [7:0], R322. -/
def BLD_RD_CFG_PART (i : Nat) : Fld := ⟨0xb1000 + 0x20 * i, 0, 8, false⟩

/-- KB_BLD_RD_BASE BASE [17:0], R322. -/
def BLD_RD_BASE_BASE (i : Nat) : Fld := ⟨0xb1004 + 0x20 * i, 0, 18, false⟩

/-- KB_BLD_RD_COUNT COUNT [17:0], R322. -/
def BLD_RD_COUNT_COUNT (i : Nat) : Fld := ⟨0xb1008 + 0x20 * i, 0, 18, false⟩

/-- KB_BLD_RD_EXPECT [31:0], R322. -/
def BLD_RD_EXPECT (i : Nat) : Fld := ⟨0xb100c + 0x20 * i, 0, 32, false⟩

/-- KB_BLD_RD_RECV [31:0], R322. -/
def BLD_RD_RECV (i : Nat) : Fld := ⟨0xb1010 + 0x20 * i, 0, 32, false⟩

/-- KB_BLD_RD_SEED [31:0], R322. -/
def BLD_RD_SEED (i : Nat) : Fld := ⟨0xb1014 + 0x20 * i, 0, 32, false⟩

/-- KB_BLD_RD_SCYC_LO [31:0], R322. -/
def BLD_RD_SCYC_LO (i : Nat) : Fld := ⟨0xb1018 + 0x20 * i, 0, 32, false⟩

/-- KB_BLD_RD_SCYC_HI ERRC [29:28], R322. -/
def BLD_RD_SCYC_HI_ERRC (i : Nat) : Fld := ⟨0xb101c + 0x20 * i, 28, 2, false⟩

/-- KB_BLD_RD_SCYC_HI PARTIAL [27:27], R322. -/
def BLD_RD_SCYC_HI_PARTIAL (i : Nat) : Fld := ⟨0xb101c + 0x20 * i, 27, 1, false⟩

/-- KB_BLD_RD_SCYC_HI SCYC [15:0], R322. -/
def BLD_RD_SCYC_HI_SCYC (i : Nat) : Fld := ⟨0xb101c + 0x20 * i, 0, 16, false⟩

/-- KB_BLD_LRET [31:0], R323. -/
def BLD_LRET (i : Nat) : Fld := ⟨0xb0400 + 4 * i, 0, 32, true⟩

/-- KB_BLD_LSPR TGT [15:11], R323. -/
def BLD_LSPR_TGT (i : Nat) : Fld := ⟨0xb0500 + 4 * i, 11, 5, false⟩

/-- KB_BLD_LSPR SPOUT [9:9], R323. -/
def BLD_LSPR_SPOUT (i : Nat) : Fld := ⟨0xb0500 + 4 * i, 9, 1, true⟩

/-- KB_BLD_LSPR SPUSE [8:8], R323. -/
def BLD_LSPR_SPUSE (i : Nat) : Fld := ⟨0xb0500 + 4 * i, 8, 1, true⟩

/-- KB_BLD_LSPR SPL [4:0], R323. -/
def BLD_LSPR_SPL (i : Nat) : Fld := ⟨0xb0500 + 4 * i, 0, 5, true⟩


/-! Registers defined by spec/12_collective_programs.md. -/

/-- KB_BLD_CTX VALID [31:31], R346. -/
def BLD_CTX_VALID (i : Nat) : Fld := ⟨0xb3000 + 4 * i, 31, 1, false⟩

/-- KB_BLD_CTX PROG [11:0], R346. -/
def BLD_CTX_PROG (i : Nat) : Fld := ⟨0xb3000 + 4 * i, 0, 12, false⟩

/-- KB_BLD_PCTL QNT [15:8], R346. -/
def BLD_PCTL_QNT : Fld := ⟨0xb3800, 8, 8, false⟩

/-- KB_BLD_PCTL PRE [7:0], R346. -/
def BLD_PCTL_PRE : Fld := ⟨0xb3800, 0, 8, false⟩

/-- KB_BLD_PSTAT ACTIVE [28:16], R346. -/
def BLD_PSTAT_ACTIVE : Fld := ⟨0xb3804, 16, 13, false⟩

/-- KB_BLD_PSTAT CTX [8:0], R346. -/
def BLD_PSTAT_CTX : Fld := ⟨0xb3804, 0, 9, false⟩

/-- KB_BLD_PARG_LO [31:0], R346. -/
def BLD_PARG_LO : Fld := ⟨0xb3808, 0, 32, false⟩

/-- KB_BLD_PARG_HI [31:0], R346. -/
def BLD_PARG_HI : Fld := ⟨0xb380c, 0, 32, false⟩

/-- KB_BLD_PCMD CMD [17:16], R346. -/
def BLD_PCMD_CMD : Fld := ⟨0xb3810, 16, 2, false⟩

/-- KB_BLD_PCMD PROG [11:0], R346. -/
def BLD_PCMD_PROG : Fld := ⟨0xb3810, 0, 12, false⟩

/-- KB_BLD_PCSTAT REASON [19:16], R346. -/
def BLD_PCSTAT_REASON : Fld := ⟨0xb3814, 16, 4, false⟩

/-- KB_BLD_PCSTAT PROG [11:0], R346. -/
def BLD_PCSTAT_PROG : Fld := ⟨0xb3814, 0, 12, false⟩

/-- KB_BLD_PSEL PROG [11:0], R346. -/
def BLD_PSEL_PROG (src : Nat) : Fld := ⟨selKey src (0xb3820), 0, 12, false⟩

/-- KB_BLD_PINFO WAIT [31:28], R346. -/
def BLD_PINFO_WAIT (p : Nat) : Fld := ⟨progKey p + 4, 28, 4, false⟩

/-- KB_BLD_PINFO FAULT [27:24], R346. -/
def BLD_PINFO_FAULT (p : Nat) : Fld := ⟨progKey p + 4, 24, 4, false⟩

/-- KB_BLD_PINFO DLV [23:23], R346. -/
def BLD_PINFO_DLV (p : Nat) : Fld := ⟨progKey p + 4, 23, 1, false⟩

/-- KB_BLD_PINFO RLV [22:22], R346. -/
def BLD_PINFO_RLV (p : Nat) : Fld := ⟨progKey p + 4, 22, 1, false⟩

/-- KB_BLD_PINFO RBAR [21:14], R346. -/
def BLD_PINFO_RBAR (p : Nat) : Fld := ⟨progKey p + 4, 14, 8, false⟩

/-- KB_BLD_PINFO PC [13:0], R346. -/
def BLD_PINFO_PC (p : Nat) : Fld := ⟨progKey p + 4, 0, 14, false⟩

/-- KB_BLD_PDL_LO [31:0], R346. -/
def BLD_PDL_LO (p : Nat) : Fld := ⟨progKey p + 8, 0, 32, false⟩

/-- KB_BLD_PDL_HI [31:0], R346. -/
def BLD_PDL_HI (p : Nat) : Fld := ⟨progKey p + 0xc, 0, 32, false⟩

/-- KB_BLD_PRLN REG [17:14], R346. -/
def BLD_PRLN_REG (p : Nat) : Fld := ⟨progKey p + 0x10, 14, 4, false⟩

/-- KB_BLD_PRLN TARGET [13:0], R346. -/
def BLD_PRLN_TARGET (p : Nat) : Fld := ⟨progKey p + 0x10, 0, 14, false⟩

/-- KB_BLD_PSIGV PROG [27:16], R346. -/
def BLD_PSIGV_PROG : Fld := ⟨0xb3848, 16, 12, false⟩

/-- KB_BLD_PSIGV VALUE [15:0], R346. -/
def BLD_PSIGV_VALUE : Fld := ⟨0xb3848, 0, 16, false⟩

/-- KB_BLD_PHINT_CNT [31:0], R346. -/
def BLD_PHINT_CNT : Fld := ⟨0xb384c, 0, 32, false⟩

/-- KB_BLD_PG_LO [31:0], R346. -/
def BLD_PG_LO (p i : Nat) : Fld := ⟨progKey p + 0xe0 + 8 * i, 0, 32, false⟩

/-- KB_BLD_PG_HI [31:0], R346. -/
def BLD_PG_HI (p i : Nat) : Fld := ⟨progKey p + 0xe4 + 8 * i, 0, 32, false⟩

/-- KB_BLD_PEVT PSIG [5:5], R347. -/
def BLD_PEVT_PSIG : Fld := ⟨0xb3840, 5, 1, false⟩

/-- KB_BLD_PEVT CTXLATE [4:4], R347. -/
def BLD_PEVT_CTXLATE : Fld := ⟨0xb3840, 4, 1, false⟩

/-- KB_BLD_PEVT DLMISS [3:3], R347. -/
def BLD_PEVT_DLMISS : Fld := ⟨0xb3840, 3, 1, false⟩

/-- KB_BLD_PEVT PREJ [2:2], R347. -/
def BLD_PEVT_PREJ : Fld := ⟨0xb3840, 2, 1, false⟩

/-- KB_BLD_PEVT PFAULT [1:1], R347. -/
def BLD_PEVT_PFAULT : Fld := ⟨0xb3840, 1, 1, false⟩

/-- KB_BLD_PEVT PDONE [0:0], R347. -/
def BLD_PEVT_PDONE : Fld := ⟨0xb3840, 0, 1, false⟩

/-- KB_BLD_PIEN IEN [5:0], R347. -/
def BLD_PIEN_IEN : Fld := ⟨0xb3844, 0, 6, true⟩

/-- KB_BLD_PSIG_CNT [31:0], R347. -/
def BLD_PSIG_CNT : Fld := ⟨0xb3894, 0, 32, true⟩

/-- KB_BLD_CTXLATE_CNT [31:0], R347. -/
def BLD_CTXLATE_CNT : Fld := ⟨0xb3890, 0, 32, true⟩

/-- KB_BLD_DLMISS_CNT [31:0], R347. -/
def BLD_DLMISS_CNT : Fld := ⟨0xb388c, 0, 32, true⟩

/-- KB_BLD_PREJ_CNT [31:0], R347. -/
def BLD_PREJ_CNT : Fld := ⟨0xb3888, 0, 32, true⟩

/-- KB_BLD_PFAULT_CNT [31:0], R347. -/
def BLD_PFAULT_CNT : Fld := ⟨0xb3884, 0, 32, true⟩

/-- KB_BLD_PDONE_CNT [31:0], R347. -/
def BLD_PDONE_CNT : Fld := ⟨0xb3880, 0, 32, true⟩

/-- KB_BLD_TPL_A VALID [31:31], R348. -/
def BLD_TPL_A_VALID (i : Nat) : Fld := ⟨0xb4000 + 0x10 * i, 31, 1, false⟩

/-- KB_BLD_TPL_A DST [19:0], R348. -/
def BLD_TPL_A_DST (i : Nat) : Fld := ⟨0xb4000 + 0x10 * i, 0, 20, false⟩

/-- KB_BLD_TPL_B PART [31:24], R348. -/
def BLD_TPL_B_PART (i : Nat) : Fld := ⟨0xb4004 + 0x10 * i, 24, 8, false⟩

/-- KB_BLD_TPL_B USE [14:12], R348. -/
def BLD_TPL_B_USE (i : Nat) : Fld := ⟨0xb4004 + 0x10 * i, 12, 3, false⟩

/-- KB_BLD_TPL_B FLOW [11:0], R348. -/
def BLD_TPL_B_FLOW (i : Nat) : Fld := ⟨0xb4004 + 0x10 * i, 0, 12, false⟩

/-- KB_BLD_TPL_C USERH [31:16], R348. -/
def BLD_TPL_C_USERH (i : Nat) : Fld := ⟨0xb4008 + 0x10 * i, 16, 16, false⟩

/-- KB_BLD_TPL_C USEARG [15:0], R348. -/
def BLD_TPL_C_USEARG (i : Nat) : Fld := ⟨0xb4008 + 0x10 * i, 0, 16, false⟩

/-- KB_BLD_TPL_D [31:0], R348. -/
def BLD_TPL_D (i : Nat) : Fld := ⟨0xb400c + 0x10 * i, 0, 32, false⟩

/-- KB_BLD_PRG_A VALID [31:31], R348. -/
def BLD_PRG_A_VALID (i : Nat) : Fld := ⟨0xb8000 + 8 * i, 31, 1, false⟩

/-- KB_BLD_PRG_A PART [21:14], R348. -/
def BLD_PRG_A_PART (i : Nat) : Fld := ⟨0xb8000 + 8 * i, 14, 8, false⟩

/-- KB_BLD_PRG_A START [13:0], R348. -/
def BLD_PRG_A_START (i : Nat) : Fld := ⟨0xb8000 + 8 * i, 0, 14, false⟩

/-- KB_BLD_PRG_B STATE [31:28], R348. -/
def BLD_PRG_B_STATE (i : Nat) : Fld := ⟨0xb8004 + 8 * i, 28, 4, false⟩

/-- KB_BLD_PRG_B LEN [13:0], R348. -/
def BLD_PRG_B_LEN (i : Nat) : Fld := ⟨0xb8004 + 8 * i, 0, 14, false⟩

/-- KB_PRG_LO [31:0], R348. -/
def PRG_LO (i : Nat) : Fld := ⟨0xc0000 + 8 * i, 0, 32, false⟩

/-- KB_PRG_HI [31:0], R348. -/
def PRG_HI (i : Nat) : Fld := ⟨0xc0004 + 8 * i, 0, 32, false⟩


/-! Registers defined by spec/13_pace_power_and_thermal.md. -/

/-- KB_PAC_STATUS MISM [23:23], R368. -/
def PAC_STATUS_MISM : Fld := ⟨0xe0000, 23, 1, false⟩

/-- KB_PAC_STATUS TRIP [22:22], R368. -/
def PAC_STATUS_TRIP : Fld := ⟨0xe0000, 22, 1, false⟩

/-- KB_PAC_STATUS SAGW [21:21], R368. -/
def PAC_STATUS_SAGW : Fld := ⟨0xe0000, 21, 1, false⟩

/-- KB_PAC_STATUS THW [20:20], R368. -/
def PAC_STATUS_THW : Fld := ⟨0xe0000, 20, 1, false⟩

/-- KB_PAC_STATUS OPPNEXT [19:16], R368. -/
def PAC_STATUS_OPPNEXT : Fld := ⟨0xe0000, 16, 4, false⟩

/-- KB_PAC_STATUS OPPPEND [12:12], R368. -/
def PAC_STATUS_OPPPEND : Fld := ⟨0xe0000, 12, 1, false⟩

/-- KB_PAC_STATUS OPP [11:8], R368. -/
def PAC_STATUS_OPP : Fld := ⟨0xe0000, 8, 4, false⟩

/-- KB_PAC_STATUS CEIL [7:0], R368. -/
def PAC_STATUS_CEIL : Fld := ⟨0xe0000, 0, 8, false⟩

/-- KB_PAC_CTL SAGLVL [31:24], R368. -/
def PAC_CTL_SAGLVL : Fld := ⟨0xe0004, 24, 8, false⟩

/-- KB_PAC_CTL KBS [19:16], R368. -/
def PAC_CTL_KBS : Fld := ⟨0xe0004, 16, 4, false⟩

/-- KB_PAC_CTL FALL [15:8], R368. -/
def PAC_CTL_FALL : Fld := ⟨0xe0004, 8, 8, false⟩

/-- KB_PAC_CTL RISE [7:0], R368. -/
def PAC_CTL_RISE : Fld := ⟨0xe0004, 0, 8, false⟩

/-- KB_PAC_SHARE SHARE [15:0], R368. -/
def PAC_SHARE_SHARE : Fld := ⟨0xe0008, 0, 16, true⟩

/-- KB_PAC_PWR PMEAS [31:16], R368. -/
def PAC_PWR_PMEAS : Fld := ⟨0xe000c, 16, 16, false⟩

/-- KB_PAC_PWR PEST [15:0], R368. -/
def PAC_PWR_PEST : Fld := ⟨0xe000c, 0, 16, false⟩

/-- KB_PAC_OPPNEW GO [31:31], R368. -/
def PAC_OPPNEW_GO : Fld := ⟨0xe0010, 31, 1, false⟩

/-- KB_PAC_OPPNEW OPP [3:0], R368. -/
def PAC_OPPNEW_OPP : Fld := ⟨0xe0010, 0, 4, false⟩

/-- KB_PAC_OPP_CYC_LO [31:0], R368. -/
def PAC_OPP_CYC_LO : Fld := ⟨0xe0014, 0, 32, false⟩

/-- KB_PAC_OPP_CYC_HI ANGLE [31:16], R368. -/
def PAC_OPP_CYC_HI_ANGLE : Fld := ⟨0xe0018, 16, 16, false⟩

/-- KB_PAC_OPP_CYC_HI CYCLE [15:0], R368. -/
def PAC_OPP_CYC_HI_CYCLE : Fld := ⟨0xe0018, 0, 16, false⟩

/-- KB_PAC_OPPDEF OPP [3:0], R368. -/
def PAC_OPPDEF_OPP : Fld := ⟨0xe001c, 0, 4, false⟩

/-- KB_PAC_THCTL TSTEP [31:24], R368. -/
def PAC_THCTL_TSTEP : Fld := ⟨0xe0020, 24, 8, false⟩

/-- KB_PAC_THCTL THYST [23:16], R368. -/
def PAC_THCTL_THYST : Fld := ⟨0xe0020, 16, 8, false⟩

/-- KB_PAC_THCTL WARNT [11:0], R368. -/
def PAC_THCTL_WARNT : Fld := ⟨0xe0020, 0, 12, false⟩

/-- KB_PAC_TRIPCLR CLR [0:0], R368. -/
def PAC_TRIPCLR_CLR : Fld := ⟨0xe0024, 0, 1, false⟩

/-- KB_PAC_SAG AON [18:18], R368. -/
def PAC_SAG_AON : Fld := ⟨0xe0028, 18, 1, false⟩

/-- KB_PAC_SAG KB [17:17], R368. -/
def PAC_SAG_KB : Fld := ⟨0xe0028, 17, 1, false⟩

/-- KB_PAC_SAG KT [16:16], R368. -/
def PAC_SAG_KT : Fld := ⟨0xe0028, 16, 1, false⟩

/-- KB_PAC_SAG HOLD [15:0], R368. -/
def PAC_SAG_HOLD : Fld := ⟨0xe0028, 0, 16, false⟩

/-- KB_PAC_SAGRST KB [15:8], R368. -/
def PAC_SAGRST_KB : Fld := ⟨0xe002c, 8, 8, true⟩

/-- KB_PAC_SAGRST KT [7:0], R368. -/
def PAC_SAGRST_KT : Fld := ⟨0xe002c, 0, 8, true⟩

/-- KB_PAC_EVT TCLRREJ [10:10], R369. -/
def PAC_EVT_TCLRREJ : Fld := ⟨0xe0040, 10, 1, false⟩

/-- KB_PAC_EVT TSENS [9:9], R369. -/
def PAC_EVT_TSENS : Fld := ⟨0xe0040, 9, 1, false⟩

/-- KB_PAC_EVT HINTOVF [8:8], R369. -/
def PAC_EVT_HINTOVF : Fld := ⟨0xe0040, 8, 1, false⟩

/-- KB_PAC_EVT HINTCAP [7:7], R369. -/
def PAC_EVT_HINTCAP : Fld := ⟨0xe0040, 7, 1, false⟩

/-- KB_PAC_EVT OPPREJ [6:6], R369. -/
def PAC_EVT_OPPREJ : Fld := ⟨0xe0040, 6, 1, false⟩

/-- KB_PAC_EVT OPPCHG [5:5], R369. -/
def PAC_EVT_OPPCHG : Fld := ⟨0xe0040, 5, 1, false⟩

/-- KB_PAC_EVT CHMISS [4:4], R369. -/
def PAC_EVT_CHMISS : Fld := ⟨0xe0040, 4, 1, false⟩

/-- KB_PAC_EVT MISM [3:3], R369. -/
def PAC_EVT_MISM : Fld := ⟨0xe0040, 3, 1, false⟩

/-- KB_PAC_EVT SAGW [2:2], R369. -/
def PAC_EVT_SAGW : Fld := ⟨0xe0040, 2, 1, false⟩

/-- KB_PAC_EVT TRIP [1:1], R369. -/
def PAC_EVT_TRIP : Fld := ⟨0xe0040, 1, 1, false⟩

/-- KB_PAC_EVT THWARN [0:0], R369. -/
def PAC_EVT_THWARN : Fld := ⟨0xe0040, 0, 1, false⟩

/-- KB_PAC_IEN IEN [10:0], R369. -/
def PAC_IEN_IEN : Fld := ⟨0xe0044, 0, 11, true⟩

/-- KB_PAC_TCLRREJ_CNT [31:0], R369. -/
def PAC_TCLRREJ_CNT : Fld := ⟨0xe00a8, 0, 32, true⟩

/-- KB_PAC_TSENS_CNT [31:0], R369. -/
def PAC_TSENS_CNT : Fld := ⟨0xe00a4, 0, 32, true⟩

/-- KB_PAC_HINTOVF_CNT [31:0], R369. -/
def PAC_HINTOVF_CNT : Fld := ⟨0xe00a0, 0, 32, true⟩

/-- KB_PAC_HINTCAP_CNT [31:0], R369. -/
def PAC_HINTCAP_CNT : Fld := ⟨0xe009c, 0, 32, true⟩

/-- KB_PAC_OPPREJ_CNT [31:0], R369. -/
def PAC_OPPREJ_CNT : Fld := ⟨0xe0098, 0, 32, true⟩

/-- KB_PAC_OPPCHG_CNT [31:0], R369. -/
def PAC_OPPCHG_CNT : Fld := ⟨0xe0094, 0, 32, true⟩

/-- KB_PAC_CHMISS_CNT [31:0], R369. -/
def PAC_CHMISS_CNT : Fld := ⟨0xe0090, 0, 32, true⟩

/-- KB_PAC_MISM_CNT [31:0], R369. -/
def PAC_MISM_CNT : Fld := ⟨0xe008c, 0, 32, true⟩

/-- KB_PAC_SAGW_CNT [31:0], R369. -/
def PAC_SAGW_CNT : Fld := ⟨0xe0088, 0, 32, true⟩

/-- KB_PAC_TRIP_CNT [31:0], R369. -/
def PAC_TRIP_CNT : Fld := ⟨0xe0084, 0, 32, true⟩

/-- KB_PAC_THWARN_CNT [31:0], R369. -/
def PAC_THWARN_CNT : Fld := ⟨0xe0080, 0, 32, true⟩

/-- KB_PAC_TEMP VALID [31:31], R370. -/
def PAC_TEMP_VALID (i : Nat) : Fld := ⟨0xe0100 + 4 * i, 31, 1, false⟩

/-- KB_PAC_TEMP TEMP [11:0], R370. -/
def PAC_TEMP_TEMP (i : Nat) : Fld := ⟨0xe0100 + 4 * i, 0, 12, false⟩

/-- KB_PAC_DOM OWNV [31:31], R370. -/
def PAC_DOM_OWNV (i : Nat) : Fld := ⟨0xe0200 + 4 * i, 31, 1, false⟩

/-- KB_PAC_DOM USED [30:30], R370. -/
def PAC_DOM_USED (i : Nat) : Fld := ⟨0xe0200 + 4 * i, 30, 1, false⟩

/-- KB_PAC_DOM PART [23:16], R370. -/
def PAC_DOM_PART (i : Nat) : Fld := ⟨0xe0200 + 4 * i, 16, 8, false⟩

/-- KB_PAC_DOM DMAX [15:8], R370. -/
def PAC_DOM_DMAX (i : Nat) : Fld := ⟨0xe0200 + 4 * i, 8, 8, true⟩

/-- KB_PAC_DOM DBASE [7:0], R370. -/
def PAC_DOM_DBASE (i : Nat) : Fld := ⟨0xe0200 + 4 * i, 0, 8, true⟩

/-- KB_PAC_DSTAT THR [31:31], R370. -/
def PAC_DSTAT_THR (i : Nat) : Fld := ⟨0xe0240 + 4 * i, 31, 1, false⟩

/-- KB_PAC_DSTAT RSN [26:24], R370. -/
def PAC_DSTAT_RSN (i : Nat) : Fld := ⟨0xe0240 + 4 * i, 24, 3, false⟩

/-- KB_PAC_DSTAT TGT [23:16], R370. -/
def PAC_DSTAT_TGT (i : Nat) : Fld := ⟨0xe0240 + 4 * i, 16, 8, false⟩

/-- KB_PAC_DSTAT X [15:8], R370. -/
def PAC_DSTAT_X (i : Nat) : Fld := ⟨0xe0240 + 4 * i, 8, 8, false⟩

/-- KB_PAC_DSTAT PERMIT [7:0], R370. -/
def PAC_DSTAT_PERMIT (i : Nat) : Fld := ⟨0xe0240 + 4 * i, 0, 8, false⟩

/-- KB_PAC_DW DW [8:0], R370. -/
def PAC_DW_DW (i : Nat) : Fld := ⟨0xe0280 + 4 * i, 0, 9, false⟩

/-- KB_PAC_ECH STACK [31:16], R370. -/
def PAC_ECH_STACK : Fld := ⟨0xe02c0, 16, 16, false⟩

/-- KB_PAC_ECH USED [15:0], R370. -/
def PAC_ECH_USED : Fld := ⟨0xe02c0, 0, 16, false⟩

/-- KB_PAC_EMISS MISS [15:0], R370. -/
def PAC_EMISS_MISS : Fld := ⟨0xe02c4, 0, 16, false⟩

/-- KB_PAC_ESLOT ESLOT [15:0], R370. -/
def PAC_ESLOT_ESLOT : Fld := ⟨0xe02c8, 0, 16, false⟩

/-- KB_PAC_PTAB PW [15:0], R370. -/
def PAC_PTAB_PW (i : Nat) : Fld := ⟨0xe0400 + 4 * i, 0, 16, false⟩

/-- KT_LNP_PERMIT [31:0], R372. -/
def KT_LNP_PERMIT (i : Nat) : Fld := ⟨tBase + 0x6010 + 4 * i, 0, 32, false⟩

/-- KT_LNP_OPP OPP [3:0], R372. -/
def KT_LNP_OPP_OPP : Fld := ⟨tBase + 0x6020, 0, 4, false⟩


/-! Registers defined by spec/14_startup_and_image.md. -/

/-- KB_GLB_RSTCAUSE FCODE [31:24], R401. -/
def GLB_RSTCAUSE_FCODE : Fld := ⟨0x1100, 24, 8, false⟩

/-- KB_GLB_RSTCAUSE CAUSE [6:0], R401. -/
def GLB_RSTCAUSE_CAUSE : Fld := ⟨0x1100, 0, 7, false⟩

/-- KB_GLB_RST_CNT [31:0], R401. -/
def GLB_RST_CNT (i : Nat) : Fld := ⟨0x1120 + 4 * i, 0, 32, true⟩

/-- KB_CDY_STATUS DEFREQ [17:17], R402. -/
def CDY_STATUS_DEFREQ : Fld := ⟨0x2000, 17, 1, false⟩

/-- KB_CDY_STATUS INCFRESH [16:16], R402. -/
def CDY_STATUS_INCFRESH : Fld := ⟨0x2000, 16, 1, false⟩

/-- KB_CDY_STATUS SRC [1:0], R402. -/
def CDY_STATUS_SRC : Fld := ⟨0x2000, 0, 2, false⟩

/-- KB_CDY_INC INC [15:0], R402. -/
def CDY_INC_INC : Fld := ⟨0x2004, 0, 16, true⟩

/-- KB_CDY_JCTL JPER [31:16], R402. -/
def CDY_JCTL_JPER : Fld := ⟨0x2008, 16, 16, false⟩

/-- KB_CDY_JCTL JMIN [15:0], R402. -/
def CDY_JCTL_JMIN : Fld := ⟨0x2008, 0, 16, false⟩

/-- KB_CDY_JSTAT BUSY [31:31], R402. -/
def CDY_JSTAT_BUSY : Fld := ⟨0x200c, 31, 1, false⟩

/-- KB_CDY_JSTAT SEG [26:24], R402. -/
def CDY_JSTAT_SEG : Fld := ⟨0x200c, 24, 3, false⟩

/-- KB_CDY_JSTAT SSEQ [23:0], R402. -/
def CDY_JSTAT_SSEQ : Fld := ⟨0x200c, 0, 24, false⟩

/-- KB_CDY_CMD DEFAULT [1:1], R402. -/
def CDY_CMD_DEFAULT : Fld := ⟨0x2010, 1, 1, false⟩

/-- KB_CDY_CMD SNAP [0:0], R402. -/
def CDY_CMD_SNAP : Fld := ⟨0x2010, 0, 1, false⟩

/-- KB_CDY_EVT CDYU [6:6], R403. -/
def CDY_EVT_CDYU : Fld := ⟨0x2040, 6, 1, false⟩

/-- KB_CDY_EVT SCRUB [5:5], R403. -/
def CDY_EVT_SCRUB : Fld := ⟨0x2040, 5, 1, false⟩

/-- KB_CDY_EVT SNAP [4:4], R403. -/
def CDY_EVT_SNAP : Fld := ⟨0x2040, 4, 1, false⟩

/-- KB_CDY_EVT JFAIL [3:3], R403. -/
def CDY_EVT_JFAIL : Fld := ⟨0x2040, 3, 1, false⟩

/-- KB_CDY_EVT JNONE [2:2], R403. -/
def CDY_EVT_JNONE : Fld := ⟨0x2040, 2, 1, false⟩

/-- KB_CDY_EVT JRESTORE [1:1], R403. -/
def CDY_EVT_JRESTORE : Fld := ⟨0x2040, 1, 1, false⟩

/-- KB_CDY_EVT CDYBAD [0:0], R403. -/
def CDY_EVT_CDYBAD : Fld := ⟨0x2040, 0, 1, false⟩

/-- KB_CDY_IEN IEN [6:0], R403. -/
def CDY_IEN_IEN : Fld := ⟨0x2044, 0, 7, true⟩

/-- KB_CDY_CDYU_CNT [31:0], R403. -/
def CDY_CDYU_CNT : Fld := ⟨0x2098, 0, 32, true⟩

/-- KB_CDY_SCRUB_CNT [31:0], R403. -/
def CDY_SCRUB_CNT : Fld := ⟨0x2094, 0, 32, true⟩

/-- KB_CDY_SNAP_CNT [31:0], R403. -/
def CDY_SNAP_CNT : Fld := ⟨0x2090, 0, 32, true⟩

/-- KB_CDY_JFAIL_CNT [31:0], R403. -/
def CDY_JFAIL_CNT : Fld := ⟨0x208c, 0, 32, true⟩

/-- KB_CDY_JNONE_CNT [31:0], R403. -/
def CDY_JNONE_CNT : Fld := ⟨0x2088, 0, 32, true⟩

/-- KB_CDY_JRESTORE_CNT [31:0], R403. -/
def CDY_JRESTORE_CNT : Fld := ⟨0x2084, 0, 32, true⟩

/-- KB_CDY_CDYBAD_CNT [31:0], R403. -/
def CDY_CDYBAD_CNT : Fld := ⟨0x2080, 0, 32, true⟩

/-- KB_IMG_BOOT READY [31:31], R404. -/
def IMG_BOOT_READY : Fld := ⟨0x3000, 31, 1, false⟩

/-- KB_IMG_BOOT STOP [30:30], R404. -/
def IMG_BOOT_STOP : Fld := ⟨0x3000, 30, 1, false⟩

/-- KB_IMG_BOOT STOPC [23:16], R404. -/
def IMG_BOOT_STOPC : Fld := ⟨0x3000, 16, 8, false⟩

/-- KB_IMG_BOOT STEP [3:0], R404. -/
def IMG_BOOT_STEP : Fld := ⟨0x3000, 0, 4, false⟩

/-- KB_IMG_SLOT STB [7:4], R404. -/
def IMG_SLOT_STB : Fld := ⟨0x3004, 4, 4, false⟩

/-- KB_IMG_SLOT STA [3:0], R404. -/
def IMG_SLOT_STA : Fld := ⟨0x3004, 0, 4, false⟩

/-- KB_IMG_SEQ [31:0], R404. -/
def IMG_SEQ : Fld := ⟨0x3008, 0, 32, false⟩

/-- KB_IMG_SEQFLOOR [31:0], R404. -/
def IMG_SEQFLOOR : Fld := ⟨0x300c, 0, 32, true⟩

/-- KB_IMG_BCTL CUR [31:31], R404. -/
def IMG_BCTL_CUR : Fld := ⟨0x3010, 31, 1, false⟩

/-- KB_IMG_BCTL DISCMAX [7:0], R404. -/
def IMG_BCTL_DISCMAX : Fld := ⟨0x3010, 0, 8, false⟩

/-- KB_IMG_TREADY [31:0], R404. -/
def IMG_TREADY : Fld := ⟨0x3014, 0, 32, false⟩

/-- KB_IMG_FLASH SLOW [8:8], R404. -/
def IMG_FLASH_SLOW : Fld := ⟨0x3018, 8, 1, false⟩

/-- KB_IMG_FLASH DENS [7:0], R404. -/
def IMG_FLASH_DENS : Fld := ⟨0x3018, 0, 8, false⟩

/-- KB_IMG_FAC FOK [31:31], R404. -/
def IMG_FAC_FOK : Fld := ⟨0x3020, 31, 1, false⟩

/-- KB_IMG_FAC PLOK [30:30], R404. -/
def IMG_FAC_PLOK : Fld := ⟨0x3020, 30, 1, false⟩

/-- KB_IMG_FAC PLG [11:0], R404. -/
def IMG_FAC_PLG : Fld := ⟨0x3020, 0, 12, false⟩

/-- KB_IMG_CALCNT [31:0], R404. -/
def IMG_CALCNT : Fld := ⟨0x3024, 0, 32, false⟩

/-- KB_IMG_CALTIME_LO [31:0], R404. -/
def IMG_CALTIME_LO : Fld := ⟨0x3028, 0, 32, false⟩

/-- KB_IMG_CALTIME_HI [31:0], R404. -/
def IMG_CALTIME_HI : Fld := ⟨0x302c, 0, 32, false⟩

/-- KB_IMG_SERIAL_LO [31:0], R404. -/
def IMG_SERIAL_LO : Fld := ⟨0x3030, 0, 32, false⟩

/-- KB_IMG_SERIAL_HI [31:0], R404. -/
def IMG_SERIAL_HI : Fld := ⟨0x3034, 0, 32, false⟩

/-- KB_IMG_FADDR ADDR [23:0], R404. -/
def IMG_FADDR_ADDR : Fld := ⟨0x3040, 0, 24, false⟩

/-- KB_IMG_FDATA [31:0], R404. -/
def IMG_FDATA : Fld := ⟨0x3044, 0, 32, false⟩

/-- KB_IMG_FCMD OP [1:0], R404. -/
def IMG_FCMD_OP : Fld := ⟨0x3048, 0, 2, false⟩

/-- KB_IMG_FSTAT BUSY [31:31], R404. -/
def IMG_FSTAT_BUSY : Fld := ⟨0x304c, 31, 1, false⟩

/-- KB_IMG_FSTAT RES [1:0], R404. -/
def IMG_FSTAT_RES : Fld := ⟨0x304c, 0, 2, false⟩

/-- KB_IMG_EVT FERR [5:5], R405. -/
def IMG_EVT_FERR : Fld := ⟨0x3060, 5, 1, false⟩

/-- KB_IMG_EVT FREFUSE [4:4], R405. -/
def IMG_EVT_FREFUSE : Fld := ⟨0x3060, 4, 1, false⟩

/-- KB_IMG_EVT PLAUS [3:3], R405. -/
def IMG_EVT_PLAUS : Fld := ⟨0x3060, 3, 1, false⟩

/-- KB_IMG_EVT FACFAIL [2:2], R405. -/
def IMG_EVT_FACFAIL : Fld := ⟨0x3060, 2, 1, false⟩

/-- KB_IMG_EVT FALLBACK [1:1], R405. -/
def IMG_EVT_FALLBACK : Fld := ⟨0x3060, 1, 1, false⟩

/-- KB_IMG_EVT SLOTFAIL [0:0], R405. -/
def IMG_EVT_SLOTFAIL : Fld := ⟨0x3060, 0, 1, false⟩

/-- KB_IMG_IEN IEN [5:0], R405. -/
def IMG_IEN_IEN : Fld := ⟨0x3064, 0, 6, true⟩

/-- KB_IMG_FERR_CNT [31:0], R405. -/
def IMG_FERR_CNT : Fld := ⟨0x3094, 0, 32, true⟩

/-- KB_IMG_FREFUSE_CNT [31:0], R405. -/
def IMG_FREFUSE_CNT : Fld := ⟨0x3090, 0, 32, true⟩

/-- KB_IMG_PLAUS_CNT [31:0], R405. -/
def IMG_PLAUS_CNT : Fld := ⟨0x308c, 0, 32, true⟩

/-- KB_IMG_FACFAIL_CNT [31:0], R405. -/
def IMG_FACFAIL_CNT : Fld := ⟨0x3088, 0, 32, true⟩

/-- KB_IMG_FALLBACK_CNT [31:0], R405. -/
def IMG_FALLBACK_CNT : Fld := ⟨0x3084, 0, 32, true⟩

/-- KB_IMG_SLOTFAIL_CNT [31:0], R405. -/
def IMG_SLOTFAIL_CNT : Fld := ⟨0x3080, 0, 32, true⟩


/-! Registers defined by spec/15_two_masters.md. -/

/-- KB_GLB_ISRC [31:0], R427. -/
def GLB_ISRC (i : Nat) : Fld := ⟨0x1000 + 4 * i, 0, 32, false⟩

/-- KB_GLB_SBIEN [31:0], R427. -/
def GLB_SBIEN (i : Nat) : Fld := ⟨0x1020 + 4 * i, 0, 32, true⟩

/-- KB_GLB_FENCE TRAFFIC [1:1], R427. -/
def GLB_FENCE_TRAFFIC : Fld := ⟨0x1040, 1, 1, false⟩

/-- KB_GLB_FENCE HOST [0:0], R427. -/
def GLB_FENCE_HOST : Fld := ⟨0x1040, 0, 1, false⟩

/-- KB_OWN_PAGE [31:0], R428. -/
def OWN_PAGE (i : Nat) : Fld := ⟨0x4000 + 4 * i, 0, 32, false⟩

/-- KB_OWN_TPAGE [31:0], R428. -/
def OWN_TPAGE : Fld := ⟨0x4040, 0, 32, false⟩

/-- KB_OWN_LOCK [31:0], R428. -/
def OWN_LOCK (i : Nat) : Fld := ⟨0x4060 + 4 * i, 0, 32, false⟩

/-- KB_OWN_TLOCK LOCK [15:0], R428. -/
def OWN_TLOCK_LOCK : Fld := ⟨0x4080, 0, 16, false⟩

/-- KB_OWN_EVT LOCKIGN [2:2], R428. -/
def OWN_EVT_LOCKIGN : Fld := ⟨0x4100, 2, 1, false⟩

/-- KB_OWN_EVT SREFUSE [1:1], R428. -/
def OWN_EVT_SREFUSE : Fld := ⟨0x4100, 1, 1, false⟩

/-- KB_OWN_EVT HREFUSE [0:0], R428. -/
def OWN_EVT_HREFUSE : Fld := ⟨0x4100, 0, 1, false⟩

/-- KB_OWN_IEN IEN [2:0], R428. -/
def OWN_IEN_IEN : Fld := ⟨0x4104, 0, 3, true⟩

/-- KB_OWN_RLOG HALF [31:31], R428. -/
def OWN_RLOG_HALF : Fld := ⟨0x4110, 31, 1, false⟩

/-- KB_OWN_RLOG SRC [30:29], R428. -/
def OWN_RLOG_SRC : Fld := ⟨0x4110, 29, 2, false⟩

/-- KB_OWN_RLOG WHY [28:27], R428. -/
def OWN_RLOG_WHY : Fld := ⟨0x4110, 27, 2, false⟩

/-- KB_OWN_RLOG OFFSET [19:0], R428. -/
def OWN_RLOG_OFFSET : Fld := ⟨0x4110, 0, 20, false⟩

/-- KB_OWN_HREFUSE_CNT [31:0], R428. -/
def OWN_HREFUSE_CNT : Fld := ⟨0x4180, 0, 32, true⟩

/-- KB_OWN_SREFUSE_CNT [31:0], R428. -/
def OWN_SREFUSE_CNT : Fld := ⟨0x4184, 0, 32, true⟩

/-- KB_OWN_LOCKIGN_CNT [31:0], R428. -/
def OWN_LOCKIGN_CNT : Fld := ⟨0x4188, 0, 32, true⟩

/-- KB_TEL_LBASE_LO BASE [31:16], R429. -/
def TEL_LBASE_LO_BASE : Fld := ⟨0xf0000, 16, 16, false⟩

/-- KB_TEL_LBASE_HI BASE [19:0], R429. -/
def TEL_LBASE_HI_BASE : Fld := ⟨0xf0004, 0, 20, false⟩

/-- KB_TEL_LCTL EN [31:31], R429. -/
def TEL_LCTL_EN : Fld := ⟨0xf0008, 31, 1, true⟩

/-- KB_TEL_LCTL TSRC [27:24], R429. -/
def TEL_LCTL_TSRC : Fld := ⟨0xf0008, 24, 4, true⟩

/-- KB_TEL_LCTL LBURST [23:16], R429. -/
def TEL_LCTL_LBURST : Fld := ⟨0xf0008, 16, 8, true⟩

/-- KB_TEL_LCTL LRATE [15:0], R429. -/
def TEL_LCTL_LRATE : Fld := ⟨0xf0008, 0, 16, true⟩

/-- KB_TEL_LSEQ [31:0], R429. -/
def TEL_LSEQ : Fld := ⟨0xf000c, 0, 32, false⟩

/-- KB_TEL_LDROP [31:0], R429. -/
def TEL_LDROP : Fld := ⟨0xf0010, 0, 32, true⟩

/-- KB_TEL_TDROP [31:0], R429. -/
def TEL_TDROP : Fld := ⟨0xf0014, 0, 32, true⟩

/-- KB_TEL_LERR [31:0], R429. -/
def TEL_LERR : Fld := ⟨0xf0018, 0, 32, true⟩

/-- KB_TEL_ACTL NMIN [15:8], R429. -/
def TEL_ACTL_NMIN : Fld := ⟨0xf0020, 8, 8, true⟩

/-- KB_TEL_ACTL NOTIFY [0:0], R429. -/
def TEL_ACTL_NOTIFY : Fld := ⟨0xf0020, 0, 1, true⟩

/-- KB_TEL_ASTAT FIRST [24:16], R429. -/
def TEL_ASTAT_FIRST : Fld := ⟨0xf0024, 16, 9, false⟩

/-- KB_TEL_ASTAT PENDING [8:0], R429. -/
def TEL_ASTAT_PENDING : Fld := ⟨0xf0024, 0, 9, false⟩

/-- KB_TEL_APEND [31:0], R429. -/
def TEL_APEND (i : Nat) : Fld := ⟨0xf0040 + 4 * i, 0, 32, false⟩

/-- KB_TEL_ACOUNT [31:0], R429. -/
def TEL_ACOUNT (i : Nat) : Fld := ⟨0xf1000 + 0x10 * i, 0, 32, false⟩

/-- KB_TEL_AARG [31:0], R429. -/
def TEL_AARG (i : Nat) : Fld := ⟨0xf1004 + 0x10 * i, 0, 32, false⟩

/-- KB_TEL_AFIRST [31:0], R429. -/
def TEL_AFIRST (i : Nat) : Fld := ⟨0xf1008 + 0x10 * i, 0, 32, false⟩

/-- KB_TEL_ALAST [31:0], R429. -/
def TEL_ALAST (i : Nat) : Fld := ⟨0xf100c + 0x10 * i, 0, 32, false⟩

/-- KT_CTL_EVT TSIERR [0:0], R430. -/
def KT_CTL_EVT_TSIERR : Fld := ⟨tBase + 0x1010, 0, 1, false⟩

/-- KT_CTL_IEN IEN [0:0], R430. -/
def KT_CTL_IEN_IEN : Fld := ⟨tBase + 0x1014, 0, 1, false⟩

/-- KT_CTL_IMAP [31:0], R430. -/
def KT_CTL_IMAP (i : Nat) : Fld := ⟨tBase + 0x1100 + 4 * i, 0, 32, false⟩


/-! Registers defined by spec/16_faults_and_spares.md. -/

/-- KB_TEL_FCTL MCNT [31:24], R444. -/
def TEL_FCTL_MCNT : Fld := ⟨0xf3000, 24, 8, false⟩

/-- KB_TEL_FCTL MWIN [23:16], R444. -/
def TEL_FCTL_MWIN : Fld := ⟨0xf3000, 16, 8, false⟩

/-- KB_TEL_FCTL BRATIO [15:12], R444. -/
def TEL_FCTL_BRATIO : Fld := ⟨0xf3000, 12, 4, false⟩

/-- KB_TEL_FCTL MFRAC [11:10], R444. -/
def TEL_FCTL_MFRAC : Fld := ⟨0xf3000, 10, 2, false⟩

/-- KB_TEL_FCTL PREEN [9:9], R444. -/
def TEL_FCTL_PREEN : Fld := ⟨0xf3000, 9, 1, false⟩

/-- KB_TEL_FCTL BCE [7:0], R444. -/
def TEL_FCTL_BCE : Fld := ⟨0xf3000, 0, 8, false⟩

/-- KB_TEL_TBAND TBW [15:8], R444. -/
def TEL_TBAND_TBW : Fld := ⟨0xf3004, 8, 8, false⟩

/-- KB_TEL_TBAND TB0 [7:0], R444. -/
def TEL_TBAND_TB0 : Fld := ⟨0xf3004, 0, 8, false⟩

/-- KB_TEL_LVCTL LMARG [31:16], R444. -/
def TEL_LVCTL_LMARG : Fld := ⟨0xf3008, 16, 16, false⟩

/-- KB_TEL_LVCTL HBPER [15:8], R444. -/
def TEL_LVCTL_HBPER : Fld := ⟨0xf3008, 8, 8, false⟩

/-- KB_TEL_LVCTL SUSN [3:0], R444. -/
def TEL_LVCTL_SUSN : Fld := ⟨0xf3008, 0, 4, false⟩

/-- KB_TEL_TRK USED [9:0], R444. -/
def TEL_TRK_USED : Fld := ⟨0xf300c, 0, 10, false⟩

/-- KB_TEL_MCLR ENTRY [4:0], R444. -/
def TEL_MCLR_ENTRY : Fld := ⟨0xf3010, 0, 5, false⟩

/-- KB_TEL_TSEL ENTRY [8:0], R444. -/
def TEL_TSEL_ENTRY (src : Nat) : Fld := ⟨selKey src (0xf3800), 0, 9, false⟩

/-- KB_TEL_TRID VALID [31:31], R444. -/
def TEL_TRID_VALID (e : Nat) : Fld := ⟨trackKey e + 4, 31, 1, false⟩

/-- KB_TEL_TRID RID [27:0], R444. -/
def TEL_TRID_RID (e : Nat) : Fld := ⟨trackKey e + 4, 0, 28, false⟩

/-- KB_TEL_TCNT AGE [23:16], R444. -/
def TEL_TCNT_AGE (e : Nat) : Fld := ⟨trackKey e + 8, 16, 8, false⟩

/-- KB_TEL_TCNT C [15:0], R444. -/
def TEL_TCNT_C (e : Nat) : Fld := ⟨trackKey e + 8, 0, 16, false⟩

/-- KB_TEL_TBIN RES [31:16], R444. -/
def TEL_TBIN_RES (e i : Nat) : Fld := ⟨trackKey e + 0x10 + 4 * i, 16, 16, false⟩

/-- KB_TEL_TBIN ERR [15:0], R444. -/
def TEL_TBIN_ERR (e i : Nat) : Fld := ⟨trackKey e + 0x10 + 4 * i, 0, 16, false⟩

/-- KB_TEL_TSIG ERR [15:0], R444. -/
def TEL_TSIG_ERR (e i : Nat) : Fld := ⟨trackKey e + 0x30 + 4 * i, 0, 16, false⟩

/-- KB_TEL_BSPR_RTE COPY [31:31], R445. -/
def TEL_BSPR_RTE_COPY : Fld := ⟨0xf3100, 31, 1, false⟩

/-- KB_TEL_BSPR_RTE SPOUT [9:9], R445. -/
def TEL_BSPR_RTE_SPOUT : Fld := ⟨0xf3100, 9, 1, true⟩

/-- KB_TEL_BSPR_RTE RET [4:0], R445. -/
def TEL_BSPR_RTE_RET : Fld := ⟨0xf3100, 0, 5, true⟩

/-- KB_TEL_BSPR_POR COPY [31:31], R445. -/
def TEL_BSPR_POR_COPY : Fld := ⟨0xf3104, 31, 1, false⟩

/-- KB_TEL_BSPR_POR SPOUT [9:9], R445. -/
def TEL_BSPR_POR_SPOUT : Fld := ⟨0xf3104, 9, 1, true⟩

/-- KB_TEL_BSPR_POR RET [4:0], R445. -/
def TEL_BSPR_POR_RET : Fld := ⟨0xf3104, 0, 5, true⟩

/-- KB_TEL_BSPR_PRG COPY [31:31], R445. -/
def TEL_BSPR_PRG_COPY : Fld := ⟨0xf3108, 31, 1, false⟩

/-- KB_TEL_BSPR_PRG SPOUT [9:9], R445. -/
def TEL_BSPR_PRG_SPOUT : Fld := ⟨0xf3108, 9, 1, true⟩

/-- KB_TEL_BSPR_PRG RET [4:0], R445. -/
def TEL_BSPR_PRG_RET : Fld := ⟨0xf3108, 0, 5, true⟩

/-- KB_TEL_BSPR_RPL COPY [31:31], R445. -/
def TEL_BSPR_RPL_COPY (i : Nat) : Fld := ⟨0xf3200 + 4 * i, 31, 1, false⟩

/-- KB_TEL_BSPR_RPL SPOUT [9:9], R445. -/
def TEL_BSPR_RPL_SPOUT (i : Nat) : Fld := ⟨0xf3200 + 4 * i, 9, 1, true⟩

/-- KB_TEL_BSPR_RPL RET [4:0], R445. -/
def TEL_BSPR_RPL_RET (i : Nat) : Fld := ⟨0xf3200 + 4 * i, 0, 5, true⟩

/-- KB_TEL_MARG VALID [31:31], R445. -/
def TEL_MARG_VALID (i : Nat) : Fld := ⟨0xf3400 + 4 * i, 31, 1, true⟩

/-- KB_TEL_MARG CAUSE [30:29], R445. -/
def TEL_MARG_CAUSE (i : Nat) : Fld := ⟨0xf3400 + 4 * i, 29, 2, true⟩

/-- KB_TEL_MARG REPL [28:28], R445. -/
def TEL_MARG_REPL (i : Nat) : Fld := ⟨0xf3400 + 4 * i, 28, 1, true⟩

/-- KB_TEL_MARG RID [27:0], R445. -/
def TEL_MARG_RID (i : Nat) : Fld := ⟨0xf3400 + 4 * i, 0, 28, true⟩

/-- KB_LNK_LIVE FLAGS [23:16], R445. -/
def LNK_LIVE_FLAGS (n : Nat) : Fld := ⟨0x10280 + 0x400 * n, 16, 8, false⟩

/-- KB_LNK_LIVE STATE [1:0], R445. -/
def LNK_LIVE_STATE (n : Nat) : Fld := ⟨0x10280 + 0x400 * n, 0, 2, false⟩

/-- KB_LNK_HBSEQ [31:0], R445. -/
def LNK_HBSEQ (n : Nat) : Fld := ⟨0x10284 + 0x400 * n, 0, 32, false⟩

/-- KB_TEL_FEVT HBFOREIGN [10:10], R446. -/
def TEL_FEVT_HBFOREIGN : Fld := ⟨0xf3040, 10, 1, false⟩

/-- KB_TEL_FEVT HEARD [9:9], R446. -/
def TEL_FEVT_HEARD : Fld := ⟨0xf3040, 9, 1, false⟩

/-- KB_TEL_FEVT UNREACH [8:8], R446. -/
def TEL_FEVT_UNREACH : Fld := ⟨0xf3040, 8, 1, false⟩

/-- KB_TEL_FEVT SUSPECT [7:7], R446. -/
def TEL_FEVT_SUSPECT : Fld := ⟨0xf3040, 7, 1, false⟩

/-- KB_TEL_FEVT BANKU [6:6], R446. -/
def TEL_FEVT_BANKU : Fld := ⟨0xf3040, 6, 1, false⟩

/-- KB_TEL_FEVT BANKRET [5:5], R446. -/
def TEL_FEVT_BANKRET : Fld := ⟨0xf3040, 5, 1, false⟩

/-- KB_TEL_FEVT TRKFULL [4:4], R446. -/
def TEL_FEVT_TRKFULL : Fld := ⟨0xf3040, 4, 1, false⟩

/-- KB_TEL_FEVT LISTFULL [3:3], R446. -/
def TEL_FEVT_LISTFULL : Fld := ⟨0xf3040, 3, 1, false⟩

/-- KB_TEL_FEVT NOSPARE [2:2], R446. -/
def TEL_FEVT_NOSPARE : Fld := ⟨0xf3040, 2, 1, false⟩

/-- KB_TEL_FEVT PREEMPT [1:1], R446. -/
def TEL_FEVT_PREEMPT : Fld := ⟨0xf3040, 1, 1, false⟩

/-- KB_TEL_FEVT MARGINAL [0:0], R446. -/
def TEL_FEVT_MARGINAL : Fld := ⟨0xf3040, 0, 1, false⟩

/-- KB_TEL_FIEN IEN [10:0], R446. -/
def TEL_FIEN_IEN : Fld := ⟨0xf3044, 0, 11, true⟩

/-- KB_TEL_HBFOREIGN_CNT [31:0], R446. -/
def TEL_HBFOREIGN_CNT : Fld := ⟨0xf30a8, 0, 32, true⟩

/-- KB_TEL_HEARD_CNT [31:0], R446. -/
def TEL_HEARD_CNT : Fld := ⟨0xf30a4, 0, 32, true⟩

/-- KB_TEL_UNREACH_CNT [31:0], R446. -/
def TEL_UNREACH_CNT : Fld := ⟨0xf30a0, 0, 32, true⟩

/-- KB_TEL_SUSPECT_CNT [31:0], R446. -/
def TEL_SUSPECT_CNT : Fld := ⟨0xf309c, 0, 32, true⟩

/-- KB_TEL_BANKU_CNT [31:0], R446. -/
def TEL_BANKU_CNT : Fld := ⟨0xf3098, 0, 32, true⟩

/-- KB_TEL_BANKRET_CNT [31:0], R446. -/
def TEL_BANKRET_CNT : Fld := ⟨0xf3094, 0, 32, true⟩

/-- KB_TEL_TRKFULL_CNT [31:0], R446. -/
def TEL_TRKFULL_CNT : Fld := ⟨0xf3090, 0, 32, true⟩

/-- KB_TEL_LISTFULL_CNT [31:0], R446. -/
def TEL_LISTFULL_CNT : Fld := ⟨0xf308c, 0, 32, true⟩

/-- KB_TEL_NOSPARE_CNT [31:0], R446. -/
def TEL_NOSPARE_CNT : Fld := ⟨0xf3088, 0, 32, true⟩

/-- KB_TEL_PREEMPT_CNT [31:0], R446. -/
def TEL_PREEMPT_CNT : Fld := ⟨0xf3084, 0, 32, true⟩

/-- KB_TEL_MARGINAL_CNT [31:0], R446. -/
def TEL_MARGINAL_CNT : Fld := ⟨0xf3080, 0, 32, true⟩


/-! Registers defined by spec/17_test_and_calibration.md. -/

/-- KB_TST_STATUS CSTATE [7:4], R460. -/
def TST_STATUS_CSTATE : Fld := ⟨0xf4000, 4, 4, false⟩

/-- KB_TST_STATUS REJ [2:2], R460. -/
def TST_STATUS_REJ : Fld := ⟨0xf4000, 2, 1, false⟩

/-- KB_TST_STATUS BUSY [1:1], R460. -/
def TST_STATUS_BUSY : Fld := ⟨0xf4000, 1, 1, false⟩

/-- KB_TST_STATUS TMODE [0:0], R460. -/
def TST_STATUS_TMODE : Fld := ⟨0xf4000, 0, 1, false⟩

/-- KB_TST_CCTL HMIN [31:24], R460. -/
def TST_CCTL_HMIN : Fld := ⟨0xf4004, 24, 8, false⟩

/-- KB_TST_CCTL GO [8:8], R460. -/
def TST_CCTL_GO : Fld := ⟨0xf4004, 8, 1, false⟩

/-- KB_TST_CCTL DWELL [4:0], R460. -/
def TST_CCTL_DWELL : Fld := ⟨0xf4004, 0, 5, false⟩

/-- KB_TST_CRES PLG [31:20], R460. -/
def TST_CRES_PLG : Fld := ⟨0xf4008, 20, 12, false⟩

/-- KB_TST_CRES NOEDGE [19:0], R460. -/
def TST_CRES_NOEDGE : Fld := ⟨0xf4008, 0, 20, false⟩

/-- KB_TST_LPCTL GO [8:8], R460. -/
def TST_LPCTL_GO : Fld := ⟨0xf400c, 8, 1, false⟩

/-- KB_TST_LPCTL SRC [1:1], R460. -/
def TST_LPCTL_SRC : Fld := ⟨0xf400c, 1, 1, false⟩

/-- KB_TST_LPCTL RATE [0:0], R460. -/
def TST_LPCTL_RATE : Fld := ⟨0xf400c, 0, 1, false⟩

/-- KB_TST_LPRES FAILG [23:12], R460. -/
def TST_LPRES_FAILG : Fld := ⟨0xf4010, 12, 12, false⟩

/-- KB_TST_LPRES FIRST [11:0], R460. -/
def TST_LPRES_FIRST : Fld := ⟨0xf4010, 0, 12, false⟩

/-- KB_TST_HSEL WIRE [6:0], R460. -/
def TST_HSEL_WIRE (src : Nat) : Fld := ⟨selKey src (0xf4014), 0, 7, false⟩

/-- KB_TST_MBCTL GO [8:8], R460. -/
def TST_MBCTL_GO : Fld := ⟨0xf4020, 8, 1, false⟩

/-- KB_TST_MBCTL CADDY [0:0], R460. -/
def TST_MBCTL_CADDY : Fld := ⟨0xf4020, 0, 1, false⟩

/-- KB_TST_MBRES DONE [31:31], R460. -/
def TST_MBRES_DONE (i : Nat) : Fld := ⟨0xf4040 + 4 * i, 31, 1, false⟩

/-- KB_TST_MBRES FAIL [30:30], R460. -/
def TST_MBRES_FAIL (i : Nat) : Fld := ⟨0xf4040 + 4 * i, 30, 1, false⟩

/-- KB_TST_MBRES REPAIR [29:29], R460. -/
def TST_MBRES_REPAIR (i : Nat) : Fld := ⟨0xf4040 + 4 * i, 29, 1, false⟩

/-- KB_TST_MBRES FBANKS [13:8], R460. -/
def TST_MBRES_FBANKS (i : Nat) : Fld := ⟨0xf4040 + 4 * i, 8, 6, false⟩

/-- KB_TST_MBRES FIRST [6:0], R460. -/
def TST_MBRES_FIRST (i : Nat) : Fld := ⟨0xf4040 + 4 * i, 0, 7, false⟩

/-- KB_TST_HIST [31:0], R460. -/
def TST_HIST (g w b : Nat) : Fld := ⟨histKey 0 g w + 4 * b, 0, 32, false⟩

/-- KB_LNK_TST REJ [15:15], R462. -/
def LNK_TST_REJ (n : Nat) : Fld := ⟨0x10300 + 0x400 * n, 15, 1, false⟩

/-- KB_LNK_TST BUSY [14:14], R462. -/
def LNK_TST_BUSY (n : Nat) : Fld := ⟨0x10300 + 0x400 * n, 14, 1, false⟩

/-- KB_LNK_TST PASS [12:8], R462. -/
def LNK_TST_PASS (n : Nat) : Fld := ⟨0x10300 + 0x400 * n, 8, 5, false⟩

/-- KB_LNK_TST LANES [5:1], R462. -/
def LNK_TST_LANES (n : Nat) : Fld := ⟨0x10300 + 0x400 * n, 1, 5, false⟩

/-- KB_LNK_TST GO [0:0], R462. -/
def LNK_TST_GO (n : Nat) : Fld := ⟨0x10300 + 0x400 * n, 0, 1, false⟩


/-! Registers defined by spec/03_bond_field.md. -/

/-- KB_BND_RETRY_CNT [31:0], R107. -/
def BND_RETRY_CNT : Fld := ⟨0x8020, 0, 32, false⟩

/-- KB_BND_GREC_CNT [31:0], R107. -/
def BND_GREC_CNT : Fld := ⟨0x8024, 0, 32, true⟩

/-- KB_BND_REPAIR_CNT [31:0], R107. -/
def BND_REPAIR_CNT : Fld := ⟨0x8028, 0, 32, true⟩

/-- KB_BND_GFAIL_CNT [31:0], R107. -/
def BND_GFAIL_CNT : Fld := ⟨0x802c, 0, 32, true⟩

/-- KB_BND_MISMATCH_CNT [31:0], R107. -/
def BND_MISMATCH_CNT : Fld := ⟨0x8030, 0, 32, true⟩

/-- KB_BND_SPLOW_CNT [31:0], R107. -/
def BND_SPLOW_CNT : Fld := ⟨0x8034, 0, 32, true⟩

/-- KB_BND_HALF_CNT [31:0], R107. -/
def BND_HALF_CNT : Fld := ⟨0x8038, 0, 32, true⟩


/-! Registers defined by spec/05_lanes_and_fec.md. -/

/-- KB_LNK_TFAIL_CNT [31:0], R169. -/
def LNK_TFAIL_CNT (n : Nat) : Fld := ⟨0x10050 + 0x400 * n, 0, 32, true⟩

/-- KB_LNK_NBRMIS_CNT [31:0], R169. -/
def LNK_NBRMIS_CNT (n : Nat) : Fld := ⟨0x10054 + 0x400 * n, 0, 32, true⟩

/-- KB_LNK_VERLOW_CNT [31:0], R169. -/
def LNK_VERLOW_CNT (n : Nat) : Fld := ⟨0x10058 + 0x400 * n, 0, 32, true⟩

/-- KB_LNK_INCOMPAT_CNT [31:0], R169. -/
def LNK_INCOMPAT_CNT (n : Nat) : Fld := ⟨0x1005c + 0x400 * n, 0, 32, true⟩

/-- KB_LNK_SPARE_CNT [31:0], R169. -/
def LNK_SPARE_CNT (n : Nat) : Fld := ⟨0x10060 + 0x400 * n, 0, 32, true⟩

/-- KB_LNK_SPFAIL_CNT [31:0], R169. -/
def LNK_SPFAIL_CNT (n : Nat) : Fld := ⟨0x10064 + 0x400 * n, 0, 32, true⟩

/-- KB_LNK_WIDTH_CNT [31:0], R169. -/
def LNK_WIDTH_CNT (n : Nat) : Fld := ⟨0x10068 + 0x400 * n, 0, 32, true⟩

/-- KB_LNK_LOCKLOSS_CNT [31:0], R169. -/
def LNK_LOCKLOSS_CNT (n : Nat) : Fld := ⟨0x1006c + 0x400 * n, 0, 32, true⟩

/-- KB_LNK_OEHLTH_CNT [31:0], R169. -/
def LNK_OEHLTH_CNT (n : Nat) : Fld := ⟨0x10070 + 0x400 * n, 0, 32, true⟩

/-- KB_LNK_MISWIRE_CNT [31:0], R169. -/
def LNK_MISWIRE_CNT (n : Nat) : Fld := ⟨0x10074 + 0x400 * n, 0, 32, true⟩


/-! Registers defined by spec/06_reliable_link.md. -/

/-- KB_LNK_TXDATA [31:0], R196. -/
def LNK_TXDATA (n : Nat) : Fld := ⟨0x101c0 + 0x400 * n, 0, 32, false⟩

/-- KB_LNK_TXRPL [31:0], R196. -/
def LNK_TXRPL (n : Nat) : Fld := ⟨0x101c4 + 0x400 * n, 0, 32, false⟩

/-- KB_LNK_RXDATA [31:0], R196. -/
def LNK_RXDATA (n : Nat) : Fld := ⟨0x101c8 + 0x400 * n, 0, 32, false⟩

/-- KB_LNK_RXDUP [31:0], R196. -/
def LNK_RXDUP (n : Nat) : Fld := ⟨0x101cc + 0x400 * n, 0, 32, false⟩

/-- KB_LNK_RXGAP [31:0], R196. -/
def LNK_RXGAP (n : Nat) : Fld := ⟨0x101d0 + 0x400 * n, 0, 32, false⟩

/-- KB_LNK_RXDROP [31:0], R196. -/
def LNK_RXDROP (n : Nat) : Fld := ⟨0x101d4 + 0x400 * n, 0, 32, false⟩

/-- KB_LNK_FLMSG [31:0], R196. -/
def LNK_FLMSG (n : Nat) : Fld := ⟨0x101d8 + 0x400 * n, 0, 32, false⟩


/-! Registers defined by spec/13_pace_power_and_thermal.md. -/

/-- KB_PAC_THR_LO [31:0], R371. -/
def PAC_THR_LO (i : Nat) : Fld := ⟨0xe0800 + 8 * i, 0, 32, true⟩

/-- KB_PAC_THR_HI [31:0], R371. -/
def PAC_THR_HI (i : Nat) : Fld := ⟨0xe0804 + 8 * i, 0, 32, true⟩

/-- KB_PAC_EPART_LO [31:0], R371. -/
def PAC_EPART_LO (i : Nat) : Fld := ⟨0xe1000 + 8 * i, 0, 32, true⟩

/-- KB_PAC_EPART_HI [31:0], R371. -/
def PAC_EPART_HI (i : Nat) : Fld := ⟨0xe1004 + 8 * i, 0, 32, true⟩

/-- KB_PAC_ECLASS_LO [31:0], R371. -/
def PAC_ECLASS_LO (i : Nat) : Fld := ⟨0xe1800 + 8 * i, 0, 32, true⟩

/-- KB_PAC_ECLASS_HI [31:0], R371. -/
def PAC_ECLASS_HI (i : Nat) : Fld := ⟨0xe1804 + 8 * i, 0, 32, true⟩

/-- KB_PAC_EUNATTR_LO [31:0], R371. -/
def PAC_EUNATTR_LO : Fld := ⟨0xe1840, 0, 32, true⟩

/-- KB_PAC_EUNATTR_HI [31:0], R371. -/
def PAC_EUNATTR_HI : Fld := ⟨0xe1844, 0, 32, true⟩

/-- KB_PAC_ETOTAL_LO [31:0], R371. -/
def PAC_ETOTAL_LO : Fld := ⟨0xe1848, 0, 32, true⟩

/-- KB_PAC_ETOTAL_HI [31:0], R371. -/
def PAC_ETOTAL_HI : Fld := ⟨0xe184c, 0, 32, true⟩


/-! Registers defined by spec/00_scope.md. -/

/-- KT_ID_VERSION MAJOR [31:16], R9. -/
def KT_ID_VERSION_MAJOR : Fld := ⟨tBase + 0, 16, 16, false⟩

/-- KT_ID_VERSION MINOR [15:0], R9. -/
def KT_ID_VERSION_MINOR : Fld := ⟨tBase + 0, 0, 16, false⟩

/-- KT_ID_BUILD LINKS [3:2], R9. -/
def KT_ID_BUILD_LINKS : Fld := ⟨tBase + 4, 2, 2, false⟩

/-- KT_ID_BUILD TILES [1:0], R9. -/
def KT_ID_BUILD_TILES : Fld := ⟨tBase + 4, 0, 2, false⟩


/-! Registers defined by spec/03_bond_field.md. -/

/-- KT_BND_SEL GROUP [10:0], R112. -/
def KT_BND_SEL_GROUP (src : Nat) : Fld := ⟨selKey src (tBase + 0x2040), 0, 11, false⟩

/-- KT_BND_TAP TARGET [13:8], R112. -/
def KT_BND_TAP_TARGET (g w : Nat) : Fld := ⟨groupKeyT g + 0x100 + 4 * w, 8, 6, false⟩

/-- KT_BND_TAP TAP [5:0], R112. -/
def KT_BND_TAP_TAP (g w : Nat) : Fld := ⟨groupKeyT g + 0x100 + 4 * w, 0, 6, false⟩

/-- KT_BND_WERR [31:0], R112. -/
def KT_BND_WERR (g w : Nat) : Fld := ⟨groupKeyT g + 0x300 + 4 * w, 0, 32, false⟩


/-! Registers defined by spec/17_test_and_calibration.md. -/

/-- KT_TST_STATUS CSTATE [7:4], R461. -/
def KT_TST_STATUS_CSTATE : Fld := ⟨tBase + 0x8000, 4, 4, false⟩

/-- KT_TST_STATUS REJ [2:2], R461. -/
def KT_TST_STATUS_REJ : Fld := ⟨tBase + 0x8000, 2, 1, false⟩

/-- KT_TST_STATUS BUSY [1:1], R461. -/
def KT_TST_STATUS_BUSY : Fld := ⟨tBase + 0x8000, 1, 1, false⟩

/-- KT_TST_STATUS TMODE [0:0], R461. -/
def KT_TST_STATUS_TMODE : Fld := ⟨tBase + 0x8000, 0, 1, false⟩

/-- KT_TST_LPCTL GO [8:8], R461. -/
def KT_TST_LPCTL_GO : Fld := ⟨tBase + 0x800c, 8, 1, false⟩

/-- KT_TST_LPCTL SRC [1:1], R461. -/
def KT_TST_LPCTL_SRC : Fld := ⟨tBase + 0x800c, 1, 1, false⟩

/-- KT_TST_LPCTL RATE [0:0], R461. -/
def KT_TST_LPCTL_RATE : Fld := ⟨tBase + 0x800c, 0, 1, false⟩

/-- KT_TST_LPRES FAILG [23:12], R461. -/
def KT_TST_LPRES_FAILG : Fld := ⟨tBase + 0x8010, 12, 12, false⟩

/-- KT_TST_LPRES FIRST [11:0], R461. -/
def KT_TST_LPRES_FIRST : Fld := ⟨tBase + 0x8010, 0, 12, false⟩

/-- KT_TST_HSEL WIRE [6:0], R461. -/
def KT_TST_HSEL_WIRE (src : Nat) : Fld := ⟨selKey src (tBase + 0x8014), 0, 7, false⟩

/-- KT_TST_MBCTL GO [8:8], R461. -/
def KT_TST_MBCTL_GO : Fld := ⟨tBase + 0x8020, 8, 1, false⟩

/-- KT_TST_MBRES DONE [31:31], R461. -/
def KT_TST_MBRES_DONE (i : Nat) : Fld := ⟨tBase + 0x8040 + 4 * i, 31, 1, false⟩

/-- KT_TST_MBRES FAIL [30:30], R461. -/
def KT_TST_MBRES_FAIL (i : Nat) : Fld := ⟨tBase + 0x8040 + 4 * i, 30, 1, false⟩

/-- KT_TST_MBRES REPAIR [29:29], R461. -/
def KT_TST_MBRES_REPAIR (i : Nat) : Fld := ⟨tBase + 0x8040 + 4 * i, 29, 1, false⟩

/-- KT_TST_MBRES FBANKS [13:8], R461. -/
def KT_TST_MBRES_FBANKS (i : Nat) : Fld := ⟨tBase + 0x8040 + 4 * i, 8, 6, false⟩

/-- KT_TST_MBRES FIRST [6:0], R461. -/
def KT_TST_MBRES_FIRST (i : Nat) : Fld := ⟨tBase + 0x8040 + 4 * i, 0, 7, false⟩

/-- KT_TST_HIST [31:0], R461. -/
def KT_TST_HIST (g w b : Nat) : Fld := ⟨histKey 1 g w + 4 * b, 0, 32, false⟩


/-! Registers defined by spec/02_ports_and_clocks.md. -/

/-- KT_LNP_TSI_ERR_CNT [31:0], R52. -/
def KT_LNP_TSI_ERR_CNT : Fld := ⟨tBase + 0x6030, 0, 32, false⟩

end Sys2Proof.Machine
end

