-- ==== Sys2Proof/Machine/Events.lean ====
section
/-!
DEFINITION. Every W1C event of both halves: its interrupt source (R418), its event register, its bit, and its
event counter (R19). Written from the event tables of spec/. The enable register of each event register sits 4
bytes above it.
-/
namespace Sys2Proof.Machine

/-- An event bit: interrupt source, key of the event register, bit, counter. -/
structure Ev where
  src : Nat
  key : Nat
  bit : Nat
  cnt : Fld
  deriving DecidableEq, Repr

/-- KB_BND_EVT.RETRY and its counter. -/
def EV_BND_RETRY : Ev := ⟨0, 0x8010, 0, BND_RETRY_CNT⟩
/-- KB_BND_EVT.GREC and its counter. -/
def EV_BND_GREC : Ev := ⟨0, 0x8010, 1, BND_GREC_CNT⟩
/-- KB_BND_EVT.REPAIR and its counter. -/
def EV_BND_REPAIR : Ev := ⟨0, 0x8010, 2, BND_REPAIR_CNT⟩
/-- KB_BND_EVT.GFAIL and its counter. -/
def EV_BND_GFAIL : Ev := ⟨0, 0x8010, 3, BND_GFAIL_CNT⟩
/-- KB_BND_EVT.MISMATCH and its counter. -/
def EV_BND_MISMATCH : Ev := ⟨0, 0x8010, 4, BND_MISMATCH_CNT⟩
/-- KB_BND_EVT.SPLOW and its counter. -/
def EV_BND_SPLOW : Ev := ⟨0, 0x8010, 5, BND_SPLOW_CNT⟩
/-- KB_BND_EVT.HALF and its counter. -/
def EV_BND_HALF : Ev := ⟨0, 0x8010, 6, BND_HALF_CNT⟩
/-- KT_BND_EVT.RETRY and its counter. -/
def EV_KT_BND_RETRY : Ev := ⟨144, tBase + 0x2010, 0, KT_BND_RETRY_CNT⟩
/-- KT_BND_EVT.LOSS and its counter. -/
def EV_KT_BND_LOSS : Ev := ⟨144, tBase + 0x2010, 1, KT_BND_LOSS_CNT⟩
/-- KT_XPR_EVT.PROTO and its counter. -/
def EV_KT_XPR_PROTO : Ev := ⟨145, tBase + 0x4010, 0, KT_XPR_PROTO_CNT⟩
/-- KT_XPR_EVT.CERR and its counter. -/
def EV_KT_XPR_CERR : Ev := ⟨145, tBase + 0x4010, 1, KT_XPR_CERR_CNT⟩
/-- KT_XPR_EVT.STRM and its counter. -/
def EV_KT_XPR_STRM : Ev := ⟨145, tBase + 0x4010, 2, KT_XPR_STRM_CNT⟩
/-- KB_BND_XEVT.PROTO and its counter. -/
def EV_BNDX_PROTO : Ev := ⟨1, 0x8830, 0, BND_PROTO_CNT⟩
/-- KB_BND_XEVT.HOMEERR and its counter. -/
def EV_BNDX_HOMEERR : Ev := ⟨1, 0x8830, 1, BND_HOMEERR_CNT⟩
/-- KB_BND_XEVT.IDFAIL and its counter. -/
def EV_BNDX_IDFAIL : Ev := ⟨1, 0x8830, 2, BND_IDFAIL_CNT⟩
/-- KB_LNK_PEVT.TFAIL and its counter. -/
def EV_LNKP_TFAIL (n : Nat) : Ev := ⟨16 + n, 0x10040 + 0x400 * n, 0, LNK_TFAIL_CNT n⟩
/-- KB_LNK_PEVT.NBRMIS and its counter. -/
def EV_LNKP_NBRMIS (n : Nat) : Ev := ⟨16 + n, 0x10040 + 0x400 * n, 1, LNK_NBRMIS_CNT n⟩
/-- KB_LNK_PEVT.VERLOW and its counter. -/
def EV_LNKP_VERLOW (n : Nat) : Ev := ⟨16 + n, 0x10040 + 0x400 * n, 2, LNK_VERLOW_CNT n⟩
/-- KB_LNK_PEVT.INCOMPAT and its counter. -/
def EV_LNKP_INCOMPAT (n : Nat) : Ev := ⟨16 + n, 0x10040 + 0x400 * n, 3, LNK_INCOMPAT_CNT n⟩
/-- KB_LNK_PEVT.SPARE and its counter. -/
def EV_LNKP_SPARE (n : Nat) : Ev := ⟨16 + n, 0x10040 + 0x400 * n, 4, LNK_SPARE_CNT n⟩
/-- KB_LNK_PEVT.SPFAIL and its counter. -/
def EV_LNKP_SPFAIL (n : Nat) : Ev := ⟨16 + n, 0x10040 + 0x400 * n, 5, LNK_SPFAIL_CNT n⟩
/-- KB_LNK_PEVT.WIDTH and its counter. -/
def EV_LNKP_WIDTH (n : Nat) : Ev := ⟨16 + n, 0x10040 + 0x400 * n, 6, LNK_WIDTH_CNT n⟩
/-- KB_LNK_PEVT.LOCKLOSS and its counter. -/
def EV_LNKP_LOCKLOSS (n : Nat) : Ev := ⟨16 + n, 0x10040 + 0x400 * n, 7, LNK_LOCKLOSS_CNT n⟩
/-- KB_LNK_PEVT.OEHLTH and its counter. -/
def EV_LNKP_OEHLTH (n : Nat) : Ev := ⟨16 + n, 0x10040 + 0x400 * n, 8, LNK_OEHLTH_CNT n⟩
/-- KB_LNK_PEVT.MISWIRE and its counter. -/
def EV_LNKP_MISWIRE (n : Nat) : Ev := ⟨16 + n, 0x10040 + 0x400 * n, 9, LNK_MISWIRE_CNT n⟩
/-- KB_LNK_REVT.REPLAY and its counter. -/
def EV_LNKR_REPLAY (n : Nat) : Ev := ⟨80 + n, 0x10160 + 0x400 * n, 0, LNK_REPLAY_CNT n⟩
/-- KB_LNK_REVT.ESCRT and its counter. -/
def EV_LNKR_ESCRT (n : Nat) : Ev := ⟨80 + n, 0x10160 + 0x400 * n, 1, LNK_ESCRT_CNT n⟩
/-- KB_LNK_REVT.LDOWN and its counter. -/
def EV_LNKR_LDOWN (n : Nat) : Ev := ⟨80 + n, 0x10160 + 0x400 * n, 2, LNK_LDOWN_CNT n⟩
/-- KB_LNK_REVT.FLUSH and its counter. -/
def EV_LNKR_FLUSH (n : Nat) : Ev := ⟨80 + n, 0x10160 + 0x400 * n, 3, LNK_FLUSH_CNT n⟩
/-- KB_LNK_REVT.SEQERR and its counter. -/
def EV_LNKR_SEQERR (n : Nat) : Ev := ⟨80 + n, 0x10160 + 0x400 * n, 4, LNK_SEQERR_CNT n⟩
/-- KB_LNK_REVT.CLEAK and its counter. -/
def EV_LNKR_CLEAK (n : Nat) : Ev := ⟨80 + n, 0x10160 + 0x400 * n, 5, LNK_CLEAK_CNT n⟩
/-- KB_LNK_REVT.TAGERR and its counter. -/
def EV_LNKR_TAGERR (n : Nat) : Ev := ⟨80 + n, 0x10160 + 0x400 * n, 6, LNK_TAGERR_CNT n⟩
/-- KB_LNK_REVT.KEPOCH and its counter. -/
def EV_LNKR_KEPOCH (n : Nat) : Ev := ⟨80 + n, 0x10160 + 0x400 * n, 7, LNK_KEPOCH_CNT n⟩
/-- KB_LNK_REVT.KREJ and its counter. -/
def EV_LNKR_KREJ (n : Nat) : Ev := ⟨80 + n, 0x10160 + 0x400 * n, 8, LNK_KREJ_CNT n⟩
/-- KB_LNK_REVT.SECFAIL and its counter. -/
def EV_LNKR_SECFAIL (n : Nat) : Ev := ⟨80 + n, 0x10160 + 0x400 * n, 9, LNK_SECFAIL_CNT n⟩
/-- KB_LNK_REVT.WSTALL and its counter. -/
def EV_LNKR_WSTALL (n : Nat) : Ev := ⟨80 + n, 0x10160 + 0x400 * n, 10, LNK_WSTALL_CNT n⟩
/-- KB_RTE_EVT.NOROUTE and its counter. -/
def EV_RTE_NOROUTE : Ev := ⟨2, 0x20040, 0, RTE_NOROUTE_CNT⟩
/-- KB_RTE_EVT.HOPX and its counter. -/
def EV_RTE_HOPX : Ev := ⟨2, 0x20040, 1, RTE_HOPX_CNT⟩
/-- KB_RTE_EVT.DENYSRC and its counter. -/
def EV_RTE_DENYSRC : Ev := ⟨2, 0x20040, 2, RTE_DENYSRC_CNT⟩
/-- KB_RTE_EVT.DENYDST and its counter. -/
def EV_RTE_DENYDST : Ev := ⟨2, 0x20040, 3, RTE_DENYDST_CNT⟩
/-- KB_RTE_EVT.FENCED and its counter. -/
def EV_RTE_FENCED : Ev := ⟨2, 0x20040, 4, RTE_FENCED_CNT⟩
/-- KB_RTE_EVT.FENCEUP and its counter. -/
def EV_RTE_FENCEUP : Ev := ⟨2, 0x20040, 5, RTE_FENCEUP_CNT⟩
/-- KB_RTE_EVT.FENCEFULL and its counter. -/
def EV_RTE_FENCEFULL : Ev := ⟨2, 0x20040, 6, RTE_FENCEFULL_CNT⟩
/-- KB_RTE_EVT.SELFFENCE and its counter. -/
def EV_RTE_SELFFENCE : Ev := ⟨2, 0x20040, 7, RTE_SELFFENCE_CNT⟩
/-- KB_RTE_EVT.NBRUP and its counter. -/
def EV_RTE_NBRUP : Ev := ⟨2, 0x20040, 8, RTE_NBRUP_CNT⟩
/-- KB_RTE_EVT.TBLERR and its counter. -/
def EV_RTE_TBLERR : Ev := ⟨2, 0x20040, 9, RTE_TBLERR_CNT⟩
/-- KB_DLV_EVT.REFUSE and its counter. -/
def EV_DLV_REFUSE : Ev := ⟨3, 0x80040, 0, DLV_REFUSE_CNT⟩
/-- KB_DLV_EVT.RESEND and its counter. -/
def EV_DLV_RESEND : Ev := ⟨3, 0x80040, 1, DLV_RESEND_CNT⟩
/-- KB_DLV_EVT.CHKFAIL and its counter. -/
def EV_DLV_CHKFAIL : Ev := ⟨3, 0x80040, 2, DLV_CHKFAIL_CNT⟩
/-- KB_DLV_EVT.RETERR and its counter. -/
def EV_DLV_RETERR : Ev := ⟨3, 0x80040, 3, DLV_RETERR_CNT⟩
/-- KB_DLV_EVT.BROKEN and its counter. -/
def EV_DLV_BROKEN : Ev := ⟨3, 0x80040, 4, DLV_BROKEN_CNT⟩
/-- KB_DLV_EVT.RETLOST and its counter. -/
def EV_DLV_RETLOST : Ev := ⟨3, 0x80040, 5, DLV_RETLOST_CNT⟩
/-- KB_DLV_EVT.LOGFULL and its counter. -/
def EV_DLV_LOGFULL : Ev := ⟨3, 0x80040, 6, DLV_LOGFULL_CNT⟩
/-- KB_DLV_EVT.DUP and its counter. -/
def EV_DLV_DUP : Ev := ⟨3, 0x80040, 7, DLV_DUP_CNT⟩
/-- KB_DLV_EVT.REQFAIL and its counter. -/
def EV_DLV_REQFAIL : Ev := ⟨3, 0x80040, 8, DLV_REQFAIL_CNT⟩
/-- KB_DLV_EVT.RCFULL and its counter. -/
def EV_DLV_RCFULL : Ev := ⟨3, 0x80040, 9, DLV_RCFULL_CNT⟩
/-- KB_DLV_EVT.LAPSE and its counter. -/
def EV_DLV_LAPSE : Ev := ⟨3, 0x80040, 10, DLV_LAPSE_EVT_CNT⟩
/-- KB_TIM_EVT.LOCK and its counter. -/
def EV_TIM_LOCK : Ev := ⟨4, 0x90060, 0, TIM_LOCK_CNT⟩
/-- KB_TIM_EVT.HOLD and its counter. -/
def EV_TIM_HOLD : Ev := ⟨4, 0x90060, 1, TIM_HOLD_CNT⟩
/-- KB_TIM_EVT.STALE and its counter. -/
def EV_TIM_STALE : Ev := ⟨4, 0x90060, 2, TIM_STALE_CNT⟩
/-- KB_TIM_EVT.STEP and its counter. -/
def EV_TIM_STEP : Ev := ⟨4, 0x90060, 3, TIM_STEP_CNT⟩
/-- KB_TIM_EVT.STEPREQ and its counter. -/
def EV_TIM_STEPREQ : Ev := ⟨4, 0x90060, 4, TIM_STEPREQ_CNT⟩
/-- KB_TIM_EVT.EPOCHERR and its counter. -/
def EV_TIM_EPOCHERR : Ev := ⟨4, 0x90060, 5, TIM_EPOCHERR_CNT⟩
/-- KB_TIM_EVT.EPOCHMISS and its counter. -/
def EV_TIM_EPOCHMISS : Ev := ⟨4, 0x90060, 6, TIM_EPOCHMISS_CNT⟩
/-- KB_TIM_EVT.LATECORR and its counter. -/
def EV_TIM_LATECORR : Ev := ⟨4, 0x90060, 7, TIM_LATECORR_CNT⟩
/-- KB_TIM_EVT.TTREJ and its counter. -/
def EV_TIM_TTREJ : Ev := ⟨4, 0x90060, 8, TIM_TTREJ_CNT⟩
/-- KB_TIM_EVT.PCHG and its counter. -/
def EV_TIM_PCHG : Ev := ⟨4, 0x90060, 9, TIM_PCHG_CNT⟩
/-- KB_TIM_EVT.PREJ and its counter. -/
def EV_TIM_PREJ : Ev := ⟨4, 0x90060, 10, TIM_PREJ_CNT⟩
/-- KB_TIM_EVT.INCOMPAT and its counter. -/
def EV_TIM_INCOMPAT : Ev := ⟨4, 0x90060, 11, TIM_INCOMPAT_CNT⟩
/-- KB_TIM_EVT.DUPLEAD and its counter. -/
def EV_TIM_DUPLEAD : Ev := ⟨4, 0x90060, 12, TIM_DUPLEAD_CNT⟩
/-- KB_POR_EVT.ARMREJ and its counter. -/
def EV_POR_ARMREJ : Ev := ⟨5, 0xa0040, 0, POR_ARMREJ_CNT⟩
/-- KB_POR_EVT.SCHERR and its counter. -/
def EV_POR_SCHERR : Ev := ⟨5, 0xa0040, 1, POR_SCHERR_CNT⟩
/-- KB_POR_EVT.SLOTFULL and its counter. -/
def EV_POR_SLOTFULL : Ev := ⟨5, 0xa0040, 2, POR_SLOTFULL_CNT⟩
/-- KB_POR_EVT.DISPLACE and its counter. -/
def EV_POR_DISPLACE : Ev := ⟨5, 0xa0040, 3, POR_DISPLACE_CNT⟩
/-- KB_POR_EVT.MISSED and its counter. -/
def EV_POR_MISSED : Ev := ⟨5, 0xa0040, 4, POR_MISSED_CNT⟩
/-- KB_POR_EVT.PASSED and its counter. -/
def EV_POR_PASSED : Ev := ⟨5, 0xa0040, 5, POR_PASSED_CNT⟩
/-- KB_POR_EVT.HELD and its counter. -/
def EV_POR_HELD : Ev := ⟨5, 0xa0040, 6, POR_HELD_CNT⟩
/-- KB_POR_EVT.BAR and its counter. -/
def EV_POR_BAR : Ev := ⟨5, 0xa0040, 7, POR_BAR_CNT⟩
/-- KB_BLD_EVT.BADTILE and its counter. -/
def EV_BLD_BADTILE : Ev := ⟨6, 0xb0040, 0, BLD_BADTILE_CNT⟩
/-- KB_BLD_EVT.DREJ and its counter. -/
def EV_BLD_DREJ : Ev := ⟨6, 0xb0040, 1, BLD_DREJ_CNT⟩
/-- KB_BLD_EVT.FULL and its counter. -/
def EV_BLD_FULL : Ev := ⟨6, 0xb0040, 2, BLD_FULL_CNT⟩
/-- KB_BLD_EVT.OUTRANGE and its counter. -/
def EV_BLD_OUTRANGE : Ev := ⟨6, 0xb0040, 3, BLD_OUTRANGE_CNT⟩
/-- KB_BLD_EVT.INCLAMP and its counter. -/
def EV_BLD_INCLAMP : Ev := ⟨6, 0xb0040, 4, BLD_INCLAMP_CNT⟩
/-- KB_BLD_EVT.SHTRANS and its counter. -/
def EV_BLD_SHTRANS : Ev := ⟨6, 0xb0040, 5, BLD_SHTRANS_CNT⟩
/-- KB_BLD_EVT.LRETIRE and its counter. -/
def EV_BLD_LRETIRE : Ev := ⟨6, 0xb0040, 6, BLD_LRETIRE_CNT⟩
/-- KB_BLD_EVT.SPOUT and its counter. -/
def EV_BLD_SPOUT : Ev := ⟨6, 0xb0040, 7, BLD_SPOUT_CNT⟩
/-- KB_BLD_EVT.LNOSPARE and its counter. -/
def EV_BLD_LNOSPARE : Ev := ⟨6, 0xb0040, 8, BLD_LNOSPARE_CNT⟩
/-- KB_BLD_EVT.STOREC and its counter. -/
def EV_BLD_STOREC : Ev := ⟨6, 0xb0040, 9, BLD_STOREC_CNT⟩
/-- KB_BLD_EVT.STOREU and its counter. -/
def EV_BLD_STOREU : Ev := ⟨6, 0xb0040, 10, BLD_STOREU_CNT⟩
/-- KB_BLD_PEVT.PDONE and its counter. -/
def EV_PRG_PDONE : Ev := ⟨7, 0xb3840, 0, BLD_PDONE_CNT⟩
/-- KB_BLD_PEVT.PFAULT and its counter. -/
def EV_PRG_PFAULT : Ev := ⟨7, 0xb3840, 1, BLD_PFAULT_CNT⟩
/-- KB_BLD_PEVT.PREJ and its counter. -/
def EV_PRG_PREJ : Ev := ⟨7, 0xb3840, 2, BLD_PREJ_CNT⟩
/-- KB_BLD_PEVT.DLMISS and its counter. -/
def EV_PRG_DLMISS : Ev := ⟨7, 0xb3840, 3, BLD_DLMISS_CNT⟩
/-- KB_BLD_PEVT.CTXLATE and its counter. -/
def EV_PRG_CTXLATE : Ev := ⟨7, 0xb3840, 4, BLD_CTXLATE_CNT⟩
/-- KB_BLD_PEVT.PSIG and its counter. -/
def EV_PRG_PSIG : Ev := ⟨7, 0xb3840, 5, BLD_PSIG_CNT⟩
/-- KB_PAC_EVT.THWARN and its counter. -/
def EV_PAC_THWARN : Ev := ⟨8, 0xe0040, 0, PAC_THWARN_CNT⟩
/-- KB_PAC_EVT.TRIP and its counter. -/
def EV_PAC_TRIP : Ev := ⟨8, 0xe0040, 1, PAC_TRIP_CNT⟩
/-- KB_PAC_EVT.SAGW and its counter. -/
def EV_PAC_SAGW : Ev := ⟨8, 0xe0040, 2, PAC_SAGW_CNT⟩
/-- KB_PAC_EVT.MISM and its counter. -/
def EV_PAC_MISM : Ev := ⟨8, 0xe0040, 3, PAC_MISM_CNT⟩
/-- KB_PAC_EVT.CHMISS and its counter. -/
def EV_PAC_CHMISS : Ev := ⟨8, 0xe0040, 4, PAC_CHMISS_CNT⟩
/-- KB_PAC_EVT.OPPCHG and its counter. -/
def EV_PAC_OPPCHG : Ev := ⟨8, 0xe0040, 5, PAC_OPPCHG_CNT⟩
/-- KB_PAC_EVT.OPPREJ and its counter. -/
def EV_PAC_OPPREJ : Ev := ⟨8, 0xe0040, 6, PAC_OPPREJ_CNT⟩
/-- KB_PAC_EVT.HINTCAP and its counter. -/
def EV_PAC_HINTCAP : Ev := ⟨8, 0xe0040, 7, PAC_HINTCAP_CNT⟩
/-- KB_PAC_EVT.HINTOVF and its counter. -/
def EV_PAC_HINTOVF : Ev := ⟨8, 0xe0040, 8, PAC_HINTOVF_CNT⟩
/-- KB_PAC_EVT.TSENS and its counter. -/
def EV_PAC_TSENS : Ev := ⟨8, 0xe0040, 9, PAC_TSENS_CNT⟩
/-- KB_PAC_EVT.TCLRREJ and its counter. -/
def EV_PAC_TCLRREJ : Ev := ⟨8, 0xe0040, 10, PAC_TCLRREJ_CNT⟩
/-- KB_CDY_EVT.CDYBAD and its counter. -/
def EV_CDY_CDYBAD : Ev := ⟨9, 0x2040, 0, CDY_CDYBAD_CNT⟩
/-- KB_CDY_EVT.JRESTORE and its counter. -/
def EV_CDY_JRESTORE : Ev := ⟨9, 0x2040, 1, CDY_JRESTORE_CNT⟩
/-- KB_CDY_EVT.JNONE and its counter. -/
def EV_CDY_JNONE : Ev := ⟨9, 0x2040, 2, CDY_JNONE_CNT⟩
/-- KB_CDY_EVT.JFAIL and its counter. -/
def EV_CDY_JFAIL : Ev := ⟨9, 0x2040, 3, CDY_JFAIL_CNT⟩
/-- KB_CDY_EVT.SNAP and its counter. -/
def EV_CDY_SNAP : Ev := ⟨9, 0x2040, 4, CDY_SNAP_CNT⟩
/-- KB_CDY_EVT.SCRUB and its counter. -/
def EV_CDY_SCRUB : Ev := ⟨9, 0x2040, 5, CDY_SCRUB_CNT⟩
/-- KB_CDY_EVT.CDYU and its counter. -/
def EV_CDY_CDYU : Ev := ⟨9, 0x2040, 6, CDY_CDYU_CNT⟩
/-- KB_IMG_EVT.SLOTFAIL and its counter. -/
def EV_IMG_SLOTFAIL : Ev := ⟨10, 0x3060, 0, IMG_SLOTFAIL_CNT⟩
/-- KB_IMG_EVT.FALLBACK and its counter. -/
def EV_IMG_FALLBACK : Ev := ⟨10, 0x3060, 1, IMG_FALLBACK_CNT⟩
/-- KB_IMG_EVT.FACFAIL and its counter. -/
def EV_IMG_FACFAIL : Ev := ⟨10, 0x3060, 2, IMG_FACFAIL_CNT⟩
/-- KB_IMG_EVT.PLAUS and its counter. -/
def EV_IMG_PLAUS : Ev := ⟨10, 0x3060, 3, IMG_PLAUS_CNT⟩
/-- KB_IMG_EVT.FREFUSE and its counter. -/
def EV_IMG_FREFUSE : Ev := ⟨10, 0x3060, 4, IMG_FREFUSE_CNT⟩
/-- KB_IMG_EVT.FERR and its counter. -/
def EV_IMG_FERR : Ev := ⟨10, 0x3060, 5, IMG_FERR_CNT⟩
/-- KB_OWN_EVT.HREFUSE and its counter. -/
def EV_OWN_HREFUSE : Ev := ⟨11, 0x4100, 0, OWN_HREFUSE_CNT⟩
/-- KB_OWN_EVT.SREFUSE and its counter. -/
def EV_OWN_SREFUSE : Ev := ⟨11, 0x4100, 1, OWN_SREFUSE_CNT⟩
/-- KB_OWN_EVT.LOCKIGN and its counter. -/
def EV_OWN_LOCKIGN : Ev := ⟨11, 0x4100, 2, OWN_LOCKIGN_CNT⟩
/-- KT_CTL_EVT.TSIERR and its counter. -/
def EV_KT_CTL_TSIERR : Ev := ⟨146, tBase + 0x1010, 0, KT_LNP_TSI_ERR_CNT⟩
/-- KB_TEL_FEVT.MARGINAL and its counter. -/
def EV_TELF_MARGINAL : Ev := ⟨12, 0xf3040, 0, TEL_MARGINAL_CNT⟩
/-- KB_TEL_FEVT.PREEMPT and its counter. -/
def EV_TELF_PREEMPT : Ev := ⟨12, 0xf3040, 1, TEL_PREEMPT_CNT⟩
/-- KB_TEL_FEVT.NOSPARE and its counter. -/
def EV_TELF_NOSPARE : Ev := ⟨12, 0xf3040, 2, TEL_NOSPARE_CNT⟩
/-- KB_TEL_FEVT.LISTFULL and its counter. -/
def EV_TELF_LISTFULL : Ev := ⟨12, 0xf3040, 3, TEL_LISTFULL_CNT⟩
/-- KB_TEL_FEVT.TRKFULL and its counter. -/
def EV_TELF_TRKFULL : Ev := ⟨12, 0xf3040, 4, TEL_TRKFULL_CNT⟩
/-- KB_TEL_FEVT.BANKRET and its counter. -/
def EV_TELF_BANKRET : Ev := ⟨12, 0xf3040, 5, TEL_BANKRET_CNT⟩
/-- KB_TEL_FEVT.BANKU and its counter. -/
def EV_TELF_BANKU : Ev := ⟨12, 0xf3040, 6, TEL_BANKU_CNT⟩
/-- KB_TEL_FEVT.SUSPECT and its counter. -/
def EV_TELF_SUSPECT : Ev := ⟨12, 0xf3040, 7, TEL_SUSPECT_CNT⟩
/-- KB_TEL_FEVT.UNREACH and its counter. -/
def EV_TELF_UNREACH : Ev := ⟨12, 0xf3040, 8, TEL_UNREACH_CNT⟩
/-- KB_TEL_FEVT.HEARD and its counter. -/
def EV_TELF_HEARD : Ev := ⟨12, 0xf3040, 9, TEL_HEARD_CNT⟩
/-- KB_TEL_FEVT.HBFOREIGN and its counter. -/
def EV_TELF_HBFOREIGN : Ev := ⟨12, 0xf3040, 10, TEL_HBFOREIGN_CNT⟩

end Sys2Proof.Machine
end

