-- ==== Sys2Proof/Machine/LinkTypes.lean ====
section
/-!
DEFINITION. The state of one link that its registers do not show: lanes and training, spares and width (chapter 05
of spec/); replay, credits, handshake, bypass messages and keys (chapter 06); liveness (chapter 16).
-/
namespace Sys2Proof.Machine

/-- A flit: bit j is bit (j mod 8) of flit byte floor(j ÷ 8) (R140). -/
abbrev Flit := BitVec 2560

/-- A link command in slots of a CTRL flit (R157): its slots, and its bytes as a number, byte 0 lowest. -/
structure LCmd where
  slots : Nat
  bytes : Nat
  deriving DecidableEq, Repr

/-- A flit in the replay buffer (R176): its absolute number (SEQ is its low 12 bits), the flit as sent, the numbers of
the messages with a slot in it, its slots by VC, and the account of each slot (State.slotUsed). -/
structure TxFlit where
  num : Nat
  flit : Flit
  msgs : List Nat
  slots : List Nat
  bill : List Nat
  deriving DecidableEq, Repr

/-- A message that the link has taken (R184): its number, the message, how many of its slots are sent, and the
flit with its last slot once that is sent. -/
structure TxMsg where
  id : Nat
  m : RMsg
  sent : Nat
  last : Option Nat
  deriving DecidableEq, Repr

/-- A key of one direction (R194): key, salt, invocation count. -/
structure LKey where
  key : BitVec 256
  salt : Nat
  inv : Nat
  deriving DecidableEq, Repr

/-- A key that waits for its epoch (R194): key, salt and the instant. -/
structure PendKey where
  key : BitVec 256
  salt : Nat
  cyc : Nat
  ang : Nat
  deriving DecidableEq, Repr

/-- A lane fault under repair (R163): the logical lane, its physical lane, the spare, whether the receiver has a
mirror of it to verify, and the flits in a row that matched or decoded with the spare. -/
structure LaneFault where
  log : Nat
  lane : Nat
  spare : Nat
  good : Nat
  deriving DecidableEq, Repr

/-- What a transmitting lane carries: nothing, the 85 bytes of a training or rejoin block (R149), or the PAM4 symbols
of one flit, with the LCLK word and the position in it of the first (R141). -/
inductive LaneOut where
  | dark
  | block (bytes : List Nat)
  | flit (word pos : Nat) (pam4 : List Nat)
  deriving DecidableEq, Repr

/-- A width switch that waits for its point (R164): width code, map, flits left. -/
structure WSwitch where
  width : Nat
  map : Nat
  count : Nat
  deriving DecidableEq, Repr

/-- What a receiver has heard on a physical lane from training blocks (R149): good sync patterns in a row, misses
in a row, block lock, sender's logical and physical lane, FNA and link, PRBS history (31 bits, and how many are
known), whether its window is complete and passed. -/
structure LaneRx where
  syncs : Nat
  misses : Nat
  locked : Bool
  logical : Nat
  phys : Nat
  fna : Nat
  link : Nat
  heard : Bool
  hist : Nat
  known : Nat
  done : Bool
  pass : Bool
  deriving DecidableEq, Repr

def LaneRx.reset : LaneRx :=
  { syncs := 0, misses := 0, locked := false, logical := 15, phys := 0, fna := 0, link := 0, heard := false, hist := 0, known := 0,
    done := false, pass := false }

/-- One link. Masks have one bit for each physical lane. -/
structure LinkSt where
  /-- no attempt has been made since the full reset (R151) -/
  first : Bool
  /-- failed attempts in a row (R154) -/
  fails : Nat
  /-- the training under way is a retrain (R153) -/
  retrain : Bool
  /-- a retrain that this side has started (R153): RETRAIN flits still to hand over; all three are handed over and
  LOCK waits for the end of the last -/
  retrainTx : Nat
  retrainWait : Bool
  /-- KCLK of the entry into the present state, from which training blocks count (R149) -/
  entered : Nat
  txen : Nat
  lpbk : Nat
  rxlock : Nat
  /-- lanes out of use until the next training (R161, R162) -/
  bad : Nat
  lanes : List LaneRx
  /-- the engine read under way (R155): port address, device address, register; whether one of this sweep read 0xFFFF -/
  oeReq : Option (Nat × Nat × Nat)
  oeBlind : Bool
  /-- blocks for which the partner's RXOK has stayed unchanged; whether the switch to flits is pending, and the KCLK in
  which its countdown started (R152) -/
  stable : Nat
  switching : Bool
  swAt : Nat
  /-- the partner's countdown to flits has been heard, and the width code of its last block (R149, R152) -/
  peerSw : Bool
  peerTxw : Nat
  /-- flits are sent, and flits are decoded (R152) -/
  txOn : Bool
  rxOn : Bool
  /-- uncorrectable codewords in a row (R148) -/
  unc : Nat
  /-- corrected symbols and spare mismatches of each lane in this millisecond (R161, R162) -/
  corr : List Nat
  mism : Nat
  /-- flit periods, and DATA flits sent, in this millisecond (R434) -/
  msFlits : Nat
  msData : Nat
  /-- the spare this receiver has mirrored, and whether held (R162, R163) -/
  mirSpare : Option Nat
  mirHold : Bool
  /-- the mirror has been verified, so that MIRROR is not repeated (R157); a lane fault is being repaired (R148) -/
  mirOk : Bool
  repair : Bool
  /-- the lane faults being repaired, oldest first; whether the repair has gone over to a narrower width (R163, R164) -/
  faults : List LaneFault
  narrowing : Bool
  /-- the copies this transmitter makes: spare lane, logical lane, held -/
  txMir : List (Nat × Nat × Bool)
  /-- the width request being made: width, mask, READY (R164, R165) -/
  wreq : Option (Nat × Nat × Bool)
  txSw : Option WSwitch
  rxSw : Option WSwitch
  /-- lanes sending or receiving rejoin blocks -/
  joinTx : Nat
  joinRx : Nat
  /-- NBR with SEEN = 1 received and sent; the partner's NBR received (R159) -/
  gotSeen : Bool
  sentSeen : Bool
  gotNbr : Bool
  /-- NBR commands with QUAR = 0 still to send after this side's quarantine ended (R160) -/
  quarEnd : Nat
  /-- the partner by its last NBR: FNA, link, INC, VENDOR, PART, QUAR -/
  peer : Nat × Nat × Nat × Nat × Nat × Bool
  /-- identity of the session and of the last session: FNA, link, INC (R190, R210) -/
  session : Option (Nat × Nat × Nat)
  lastUp : Option (Nat × Nat × Nat)
  /-- flits given to the gearbox and not started; the flit on the lanes (R145) -/
  gear : List Flit
  air : Flit
  /-- the codeword of the flit on the lanes (R140), and the stream symbols of a lane sent before it (R141) -/
  code : List Nat
  sent : Nat
  /-- flits sent since the state was entered -/
  flits : Nat
  /-- link commands to send, and link commands decoded and not yet acted on -/
  cmds : List LCmd
  rxCmds : List LCmd
  /-- absolute numbers: next new flit, oldest unacknowledged, next expected -/
  txAbs : Nat
  ackAbs : Nat
  buf : List TxFlit
  msgs : List TxMsg
  nextId : Nat
  /-- the message being sent, by number -/
  cur : Option Nat
  /-- flits still to resend in the replay run; the sender is stalled by a full buffer (R176) -/
  run : List Nat
  stalled : Bool
  deficit : List Nat
  turn : Nat
  /-- credits owed to the partner, by VC; totals returned and received since the handshake (R187) -/
  owed : List Nat
  given : List Nat
  taken : List Nat
  /-- bypass messages to send, and bypass messages accepted and not yet acted on (R188) -/
  byp : List Unit128
  rxByp : List Unit128
  /-- a DATA flit of filler is due, a CTRL flit without commands is due -/
  fillerDue : Bool
  ackDue : Bool
  /-- the message being received: its slots so far; messages whole in the receive buffer -/
  part : List Unit128
  rxq : List RMsg
  /-- slots of the receive buffer in use, by VC -/
  used : List Nat
  /-- the LSTATE handshake (R189, R190): a partner LSTATE decoded; what this side's LSTATEs carry as HELD, EXP, NXT
  and BASE; decided between resume and new session; completed; the partner's NXT after a resume -/
  hsSeen : Bool
  hsOwn : Option (Bool × Nat × Nat × List Nat)
  hsDecided : Bool
  hsDone : Bool
  /-- the partner's ENC bit of the handshake (R189, R190) -/
  peerEnc : Bool
  resumeNxt : Option Nat
  /-- keys (R194): transmit, receive by parity, whether a load has been used in each direction since reset or new session, the parity
  of the newest receive key; loads that wait; the instant of the last epoch of each direction -/
  txKey : Option LKey
  rxKey0 : Option LKey
  rxKey1 : Option LKey
  txUsed : Bool
  rxUsed : Bool
  rxPar : Bool
  txPend : Option PendKey
  rxPend : Option PendKey
  lastTxEp : Option Nat
  lastRxEp : Option Nat
  /-- sequence of the next heartbeat to send (R439) -/
  hbTx : Nat
  deriving DecidableEq, Repr

def LinkSt.reset : LinkSt :=
  { first := true, fails := 0, retrain := false, retrainTx := 0, retrainWait := false, entered := 0, txen := 0, lpbk := 0, rxlock := 0, bad := 0,
    lanes := List.replicate 5 LaneRx.reset, oeReq := none, oeBlind := false, stable := 0, switching := false, swAt := 0,
    peerSw := false, peerTxw := 3, txOn := false, rxOn := false, unc := 0,
    corr := [0, 0, 0, 0, 0], mism := 0, msFlits := 0, msData := 0, mirSpare := none, mirHold := false, mirOk := false, repair := false, faults := [], narrowing := false, txMir := [], wreq := none, txSw := none,
    rxSw := none, joinTx := 0, joinRx := 0, gotSeen := false, sentSeen := false, gotNbr := false, quarEnd := 0, peer := (0, 0, 0, 0, 0, false), session := none, lastUp := none,
    gear := [], air := 0, code := [], sent := 0, flits := 0, cmds := [], rxCmds := [], txAbs := 0, ackAbs := 0, buf := [], msgs := [], nextId := 0,
    cur := none, run := [], stalled := false, deficit := [0, 0, 0, 0, 0, 0, 0, 0], turn := 0, owed := [0, 0, 0, 0, 0, 0, 0, 0],
    given := [0, 0, 0, 0, 0, 0, 0, 0], taken := [0, 0, 0, 0, 0, 0, 0, 0], byp := [], rxByp := [], fillerDue := false, ackDue := false,
    part := [], rxq := [], used := [0, 0, 0, 0, 0, 0, 0, 0], hsSeen := false, hsOwn := none, hsDecided := false, hsDone := false, peerEnc := false,
    resumeNxt := none, txKey := none, rxKey0 := none, rxKey1 := none, txUsed := false, rxUsed := false, rxPar := false, txPend := none, rxPend := none,
    lastTxEp := none, lastRxEp := none, hbTx := 0 }

end Sys2Proof.Machine
end

