-- ==== Sys2Proof/Machine/MgmtTypes.lean ====
section
/-!
DEFINITION. The state of boot, Caddy, the flash window, the side-band and telemetry that no register shows
(chapters 14 and 15 of spec/).
-/
namespace Sys2Proof.Machine

/-- The Caddy header (R390), and whether Caddy's MAGIC and LAYOUT match and its words are whole (R392). -/
structure CaddyHdr where
  good : Bool
  inc : Nat
  wtok : Nat
  rtok : Nat
  anchor : Bool
  finc : Nat
  rsize : Nat
  rbase : Nat
  seqFloor : Nat
  seqBooted : Nat
  sseq : Nat
  defReq : Bool
  deriving DecidableEq, Repr

/-- Caddy after a power-on of VDD_AON: nothing written. -/
def CaddyHdr.blank : CaddyHdr :=
  { good := false, inc := 0, wtok := 0, rtok := 0, anchor := false, finc := 0, rsize := 0, rbase := 0,
    seqFloor := 0, seqBooted := 0, sseq := 0, defReq := false }

/-- Boot, resets and the flash: the causes recorded for the next rise of porst_n with FCODE (R375, R401);
whether a reset request of Kalvon-B is pending (R74); whether VDD_AON was powered on since the last boot that
finished step 3; the DEFAULTS words and the Kalvon-T words of the image (R381); tap targets and factory spare
maps taken at step 3 (R388), keyed by 69g + w and by g; whether a snapshot is wanted and was asked for within
JMIN; the flash window's command and its address (R400); the Caddy word to scrub next (R391); the KCLK in which boot reached ready (R244); the rails below their warning level: 1 VDD_KT, 2 VDD_KB, 4 VDD_AON (R69); shared settings still to be acknowledged by Kalvon-T,
oldest first (R25): the key of the register, the value, and the value that a read returns until then; whether the retained tap copy differs from the factory taps taken, and what goes to the flash as that copy after ready: taps
and spare maps (R388). -/
structure BootSt where
  causes : Nat
  fcode : Nat
  reqPending : Bool
  aonPor : Bool
  defaults : Sparse (BitVec 32)
  tWords : Sparse (BitVec 32)
  taps : Sparse Nat
  facMaps : Sparse Nat
  snapWanted : Bool
  snapGap : Bool
  recordsUsed : Nat
  windowOp : Nat
  windowAddr : Nat
  scrub : Nat
  readyAt : Nat
  sensorCal : List Int
  warn : Nat
  shared : List (Nat × Nat × Nat)
  copyStale : Bool
  copyOut : Option (Sparse Nat × Sparse Nat)
  deriving DecidableEq, Repr

def BootSt.reset : BootSt :=
  { causes := 0, fcode := 0, reqPending := false, aonPor := true, defaults := [], tWords := [], taps := [],
    facMaps := [], snapWanted := false, snapGap := false, recordsUsed := 0, windowOp := 0, windowAddr := 0,
    scrub := 0, readyAt := 0, sensorCal := [], warn := 0, shared := [], copyStale := false, copyOut := none }

/-- The I3C target (R412): dynamic address, IBIs and Hot-Join enabled, the number of the free value that gives the random 32 bits of the provisional ID,
whether an IBI or a Hot-Join is being raised, the limits last set, and the bytes of the last GET answered. -/
structure I3cSt where
  dyn : Option Nat
  ibiEn : Bool
  hjEn : Bool
  pidDraw : Nat
  ibi : Bool
  hotJoin : Bool
  mwl : Nat
  mrl : Nat
  rdata : List Nat
  deriving DecidableEq, Repr

/-- A message Kalvon-B sends by MCTP (R413, R414): destination EID, command (0x100 and the code for a control message),
completion code (none in ALARM_NOTE), and the bytes that follow. -/
structure MctpOut where
  eid : Nat
  cmd : Nat
  code : Option Nat
  body : List Nat
  deriving DecidableEq, Repr

/-- A log or trace record (R426). -/
structure LogRec where
  rseq : Nat
  src : Nat
  kind : Nat
  b6 : Nat
  b7 : Nat
  arg : Nat
  cyc : Nat
  ang : Nat
  inc : Nat
  deriving DecidableEq, Repr

/-- A side-band request that waits for an answer from elsewhere: its sender and command; an access to Kalvon-T (R407) or a
log record read from memory (R414). -/
structure SbWait where
  eid : Nat
  cmd : Nat
  deriving DecidableEq, Repr

/-- Side-band and telemetry: endpoint ID; EID that last set it; responses and notes waiting to be read; the
request that waits, and the requests behind it as sender, command and bytes from 7 on; whether a RESET answer waits (R417); note pacing (R414); the log queue, the
bucket in tokens (R423). The event flags that hardware has set in this KCLK, as register and bit (R19); the writes of registers in this KCLK, as register and
place of the source in the order of R406. -/
structure MgmtSt where
  i3c : I3cSt
  eid : Nat
  ctrlEid : Option Nat
  out : List MctpOut
  wait : Option SbWait
  queued : List (Nat × Nat × List Nat)
  resetDue : Bool
  noteGap : Bool
  noteOwed : Bool
  logQ : List LogRec
  bucket : Nat
  fresh : List (Nat × Nat)
  written : List (Nat × Nat)
  deriving DecidableEq, Repr

/-- The side-band after a power-on of VDD_AON; `pid` numbers the free value of the provisional ID. -/
def MgmtSt.reset (pid : Nat) : MgmtSt :=
  { i3c := { dyn := none, ibiEn := false, hjEn := true, pidDraw := pid, ibi := false, hotJoin := false, mwl := 69, mrl := 69, rdata := [] },
    eid := 0, ctrlEid := none, out := [], wait := none, queued := [], resetDue := false, noteGap := false,
    noteOwed := false, logQ := [], bucket := 0, fresh := [], written := [] }

end Sys2Proof.Machine
end

