-- ==== Sys2Proof/Machine/PaceTypes.lean ====
section
/-!
DEFINITION. The state of Pace that no register shows (chapter 13 of spec/).
-/
namespace Sys2Proof.Machine

/-- An energy channel (R361): its last sample in µJ with its KCLK, whether it has had one, and its rate in units of
0.125 ÷ 256 W. -/
structure EnergyCh where
  last : Nat
  at_ : Nat
  seen : Bool
  rate : Nat
  deriving DecidableEq, Repr

def EnergyCh.reset : EnergyCh := { last := 0, at_ := 0, seen := false, rate := 0 }

/-- Pace. Hints that have not taken effect, by domain, as instant and level, in order of instant; the domains whose X
comes from a hint (R352); the permits computed for the next boundary (R349); corr in units of 2^-23 × 0.125 W (R357);
C_therm (R365); the sag ceilings in force for VDD_KT and VDD_KB (R367); whether a THERM has arrived, and whether
Kalvon-T is silent (R365); the pending operating-point change as instant, index and whether OPP is sent (R359); energy
channels; KCLK of the last boundary; slots of the tick, by 8 × PART + VC, with 2048 for the others (R364); fractions of
the counters in 2^-4 pJ, by 0 to 255 for the partitions, 256 + v for the classes, 264 for what is not attributed;
fractions of the throttle counters in half KCLK; of the 100 µs window: sums of P_meas and P_est, the ticks, and whether
a measurement was not valid; windows in a row that disagree and that agree (R362); PERMIT messages to hand over, with
their KCLK (R350). -/
structure PaceSt where
  hints : Sparse (List (Nat × Nat))
  hinted : List Nat
  next : List Nat
  corr : Nat
  ctherm : Nat
  sagKt : Bool
  sagKb : Bool
  tSeen : Bool
  tSilent : Bool
  opp : Option (Nat × Nat × Bool)
  ech : Sparse EnergyCh
  tickAt : Nat
  slots : Sparse Nat
  frac : Sparse Nat
  thrFrac : Sparse Nat
  winMeas : Nat
  winEst : Nat
  winTicks : Nat
  winBad : Bool
  dis : Nat
  agree : Nat
  due : List (Nat × SentItem × XMsg)
  deriving DecidableEq, Repr

def PaceSt.reset : PaceSt :=
  { hints := [], hinted := [], next := List.replicate 16 0, corr := 0, ctherm := 255, sagKt := false, sagKb := false, tSeen := false,
    tSilent := false, opp := none, ech := [], tickAt := 0, slots := [], frac := [], thrFrac := [], winMeas := 0, winEst := 0,
    winTicks := 0, winBad := false, dis := 0, agree := 0, due := [] }

end Sys2Proof.Machine
end

