-- ==== Sys2Proof/Machine/PourTypes.lean ====
section
/-!
DEFINITION. The state of Pour that no register shows (chapter 10 of spec/).
-/
namespace Sys2Proof.Machine

/-- The content of a schedule entry (R280). -/
structure Sched where
  c0 : Nat
  a0 : Nat
  rep : Nat
  rcnt : Nat
  gbase : Nat
  gcntm1 : Nat
  flags : Nat
  part : Nat
  emask : Nat
  step : Nat
  work : Nat
  barid : Nat
  hdmask : Nat
  hlevel : Nat
  hlead : Nat
  deriving DecidableEq, Repr

/-- A trigger of the repetition in a slot (R283, R285): its index and instant; whether it is sent or reported as not
issued; its release KCLK once sent; the KCLK of the marker whose forward step passed over it (R288). -/
structure PTrig where
  i : Nat
  inst : Nat
  done : Bool
  k : Option Nat
  passed : Option Nat
  deriving DecidableEq, Repr

/-- A slot (R284): its number in the schedule memory, the content read at page-in, its triggers, and whether its barrier
and its hint are done. -/
structure PSlot where
  no : Nat
  sch : Sched
  trigs : List PTrig
  barDone : Bool
  hintDone : Bool
  deriving DecidableEq, Repr

/-- An armed entry of the instant index (R282): its number, its content as last read, its next base instant,
whether its page-in read is under way, the triggers reported as missed before it reached a slot, its slot. -/
structure PArmed where
  entry : Nat
  sch : Sched
  base : Nat
  paging : Bool
  gone : List Nat
  slot : Option PSlot
  deriving DecidableEq, Repr

/-- The arm in progress (R282, R336): its entry, the program that asked for it, if one did, and the instant that a
program gives in place of (C0, A0). -/
structure ArmJob where
  entry : Nat
  prog : Option Nat
  ovr : Option Nat
  deriving DecidableEq, Repr

/-- Pour: the armed entries by number; the arm in progress; entries that wait for a slot and have been reported with
SLOTFULL (R284); the release KCLKs of triggers sent and not yet released (R286). -/
structure PourSt where
  armed : List PArmed
  arming : Option ArmJob
  waiting : List Nat
  sent : List Nat
  deriving DecidableEq, Repr

def PourSt.reset : PourSt := { armed := [], arming := none, waiting := [], sent := [] }

end Sys2Proof.Machine
end

