-- ==== Sys2Proof/Machine/RegTable.lean ====
section
/-!
DEFINITION. The register map of both halves (R463, R469): for each register or window of registers its key, the
strides and counts of the window's indices, the word it holds at reset, and each field's place, access code
(R18) and restore class (R20). Written from the field tables of spec/ and compared with spec/18_register_map.md.
-/
namespace Sys2Proof.Machine

/-- The access codes of R18. -/
inductive Acc where
  | ro | rw | w1c | w1s | wo | rwl
  deriving DecidableEq, Repr

/-- The restore classes of R20. -/
inductive Cls where
  | c | i | h | v
  deriving DecidableEq, Repr

/-- One field of a register, as software sees it. -/
structure FldRow where
  lo : Nat
  w : Nat
  acc : Acc
  cls : Cls
  deriving DecidableEq, Repr

/-- One register, or one window of registers with one layout. -/
structure RegRow where
  base : Nat
  dims : List (Nat × Nat)
  reset : Nat
  flds : List FldRow
  deriving DecidableEq, Repr

/-- Registers from 0x0 up to 0x3000. -/
def regRows0 : List RegRow := [
  ⟨0, [], 0x10002, [⟨16, 16, .ro, .h⟩, ⟨0, 16, .ro, .h⟩]⟩,
  ⟨4, [], 0, [⟨2, 2, .ro, .h⟩, ⟨0, 2, .ro, .h⟩]⟩,
  ⟨0x1000, [(4, 5)], 0, [⟨0, 32, .ro, .v⟩]⟩,
  ⟨0x1020, [(4, 5)], 0, [⟨0, 32, .rw, .c⟩]⟩,
  ⟨0x1040, [], 0, [⟨1, 1, .ro, .v⟩, ⟨0, 1, .ro, .v⟩]⟩,
  ⟨0x1100, [], 0, [⟨24, 8, .ro, .v⟩, ⟨0, 7, .ro, .v⟩]⟩,
  ⟨0x1120, [(4, 7)], 0, [⟨0, 32, .ro, .c⟩]⟩,
  ⟨0x2000, [], 3, [⟨17, 1, .ro, .v⟩, ⟨16, 1, .ro, .v⟩, ⟨0, 2, .ro, .v⟩]⟩,
  ⟨0x2004, [], 0, [⟨0, 16, .ro, .c⟩]⟩,
  ⟨0x2008, [], 0x258003c, [⟨16, 16, .rwl, .i⟩, ⟨0, 16, .rwl, .i⟩]⟩,
  ⟨0x200c, [], 0, [⟨31, 1, .ro, .v⟩, ⟨24, 3, .ro, .v⟩, ⟨0, 24, .ro, .v⟩]⟩,
  ⟨0x2010, [], 0, [⟨1, 1, .wo, .v⟩, ⟨0, 1, .wo, .v⟩]⟩,
  ⟨0x2040, [], 0, [⟨6, 1, .w1c, .v⟩, ⟨5, 1, .w1c, .v⟩, ⟨4, 1, .w1c, .v⟩, ⟨3, 1, .w1c, .v⟩, ⟨2, 1, .w1c, .v⟩, ⟨1, 1, .w1c, .v⟩, ⟨0, 1, .w1c, .v⟩]⟩,
  ⟨0x2044, [], 0, [⟨0, 7, .rw, .c⟩]⟩,
  ⟨0x2080, [], 0, [⟨0, 32, .ro, .c⟩]⟩,
  ⟨0x2084, [], 0, [⟨0, 32, .ro, .c⟩]⟩,
  ⟨0x2088, [], 0, [⟨0, 32, .ro, .c⟩]⟩,
  ⟨0x208c, [], 0, [⟨0, 32, .ro, .c⟩]⟩,
  ⟨0x2090, [], 0, [⟨0, 32, .ro, .c⟩]⟩,
  ⟨0x2094, [], 0, [⟨0, 32, .ro, .c⟩]⟩,
  ⟨0x2098, [], 0, [⟨0, 32, .ro, .c⟩]⟩]

/-- Registers from 0x3000 up to 0x8000. -/
def regRows1 : List RegRow := [
  ⟨0x3000, [], 1, [⟨31, 1, .ro, .v⟩, ⟨30, 1, .ro, .v⟩, ⟨16, 8, .ro, .v⟩, ⟨0, 4, .ro, .v⟩]⟩,
  ⟨0x3004, [], 0, [⟨4, 4, .ro, .v⟩, ⟨0, 4, .ro, .v⟩]⟩,
  ⟨0x3008, [], 0, [⟨0, 32, .ro, .v⟩]⟩,
  ⟨0x300c, [], 0, [⟨0, 32, .rw, .c⟩]⟩,
  ⟨0x3010, [], 0x14, [⟨31, 1, .ro, .v⟩, ⟨0, 8, .rwl, .i⟩]⟩,
  ⟨0x3014, [], 0, [⟨0, 32, .ro, .v⟩]⟩,
  ⟨0x3018, [], 0, [⟨8, 1, .ro, .v⟩, ⟨0, 8, .ro, .v⟩]⟩,
  ⟨0x3020, [], 0xfff, [⟨31, 1, .ro, .v⟩, ⟨30, 1, .ro, .v⟩, ⟨0, 12, .ro, .v⟩]⟩,
  ⟨0x3024, [], 0, [⟨0, 32, .ro, .v⟩]⟩,
  ⟨0x3028, [], 0, [⟨0, 32, .ro, .v⟩]⟩,
  ⟨0x302c, [], 0, [⟨0, 32, .ro, .v⟩]⟩,
  ⟨0x3030, [], 0, [⟨0, 32, .ro, .v⟩]⟩,
  ⟨0x3034, [], 0, [⟨0, 32, .ro, .v⟩]⟩,
  ⟨0x3040, [], 0, [⟨0, 24, .rw, .v⟩]⟩,
  ⟨0x3044, [], 0, [⟨0, 32, .rw, .v⟩]⟩,
  ⟨0x3048, [], 0, [⟨0, 2, .wo, .v⟩]⟩,
  ⟨0x304c, [], 0, [⟨31, 1, .ro, .v⟩, ⟨0, 2, .ro, .v⟩]⟩,
  ⟨0x3060, [], 0, [⟨5, 1, .w1c, .v⟩, ⟨4, 1, .w1c, .v⟩, ⟨3, 1, .w1c, .v⟩, ⟨2, 1, .w1c, .v⟩, ⟨1, 1, .w1c, .v⟩, ⟨0, 1, .w1c, .v⟩]⟩,
  ⟨0x3064, [], 0, [⟨0, 6, .rw, .c⟩]⟩,
  ⟨0x3080, [], 0, [⟨0, 32, .ro, .c⟩]⟩,
  ⟨0x3084, [], 0, [⟨0, 32, .ro, .c⟩]⟩,
  ⟨0x3088, [], 0, [⟨0, 32, .ro, .c⟩]⟩,
  ⟨0x308c, [], 0, [⟨0, 32, .ro, .c⟩]⟩,
  ⟨0x3090, [], 0, [⟨0, 32, .ro, .c⟩]⟩,
  ⟨0x3094, [], 0, [⟨0, 32, .ro, .c⟩]⟩,
  ⟨0x4000, [(4, 16)], 0, [⟨0, 32, .rwl, .i⟩]⟩,
  ⟨0x4040, [], 0x11514, [⟨0, 32, .rwl, .i⟩]⟩,
  ⟨0x4060, [(4, 8)], 0, [⟨0, 32, .w1s, .i⟩]⟩,
  ⟨0x4080, [], 0, [⟨0, 16, .w1s, .i⟩]⟩,
  ⟨0x4100, [], 0, [⟨2, 1, .w1c, .v⟩, ⟨1, 1, .w1c, .v⟩, ⟨0, 1, .w1c, .v⟩]⟩,
  ⟨0x4104, [], 0, [⟨0, 3, .rw, .c⟩]⟩,
  ⟨0x4110, [], 0, [⟨31, 1, .ro, .v⟩, ⟨29, 2, .ro, .v⟩, ⟨27, 2, .ro, .v⟩, ⟨0, 20, .ro, .v⟩]⟩,
  ⟨0x4180, [], 0, [⟨0, 32, .ro, .c⟩]⟩,
  ⟨0x4184, [], 0, [⟨0, 32, .ro, .c⟩]⟩,
  ⟨0x4188, [], 0, [⟨0, 32, .ro, .c⟩]⟩]

/-- Registers from 0x8000 up to 0x10000. -/
def regRows2 : List RegRow := [
  ⟨0x8000, [], 0, [⟨16, 12, .ro, .v⟩, ⟨5, 2, .ro, .v⟩, ⟨4, 1, .ro, .v⟩, ⟨0, 4, .ro, .v⟩]⟩,
  ⟨0x8004, [], 0x30084, [⟨16, 8, .rwl, .i⟩, ⟨4, 6, .rwl, .i⟩, ⟨0, 3, .rwl, .i⟩]⟩,
  ⟨0x8008, [], 0, [⟨0, 32, .ro, .v⟩]⟩,
  ⟨0x800c, [], 0, [⟨0, 32, .ro, .v⟩]⟩,
  ⟨0x8010, [], 0, [⟨6, 1, .w1c, .v⟩, ⟨5, 1, .w1c, .v⟩, ⟨4, 1, .w1c, .v⟩, ⟨3, 1, .w1c, .v⟩, ⟨2, 1, .w1c, .v⟩, ⟨1, 1, .w1c, .v⟩, ⟨0, 1, .w1c, .v⟩]⟩,
  ⟨0x8014, [], 0, [⟨0, 7, .rw, .c⟩]⟩,
  ⟨0x8020, [], 0, [⟨0, 32, .ro, .v⟩]⟩,
  ⟨0x8024, [], 0, [⟨0, 32, .ro, .c⟩]⟩,
  ⟨0x8028, [], 0, [⟨0, 32, .ro, .c⟩]⟩,
  ⟨0x802c, [], 0, [⟨0, 32, .ro, .c⟩]⟩,
  ⟨0x8030, [], 0, [⟨0, 32, .ro, .c⟩]⟩,
  ⟨0x8034, [], 0, [⟨0, 32, .ro, .c⟩]⟩,
  ⟨0x8038, [], 0, [⟨0, 32, .ro, .c⟩]⟩,
  ⟨0x8040, [], 0, [⟨0, 11, .rw, .v⟩]⟩,
  ⟨0x8044, [], 0, [⟨17, 3, .ro, .v⟩, ⟨14, 3, .ro, .v⟩, ⟨11, 3, .ro, .v⟩, ⟨8, 3, .ro, .v⟩, ⟨6, 2, .ro, .v⟩, ⟨3, 3, .ro, .v⟩, ⟨2, 1, .ro, .v⟩, ⟨0, 2, .ro, .v⟩]⟩,
  ⟨0x8048, [], 0, [⟨0, 32, .ro, .v⟩]⟩,
  ⟨0x804c, [], 0x7f7f7f7f, [⟨0, 32, .ro, .v⟩]⟩,
  ⟨0x8100, [(4, 69)], 0x2020, [⟨8, 6, .ro, .v⟩, ⟨0, 6, .ro, .v⟩]⟩,
  ⟨0x8300, [(4, 64)], 0, [⟨0, 32, .ro, .v⟩]⟩,
  ⟨0x8400, [(4, 16)], 0, [⟨16, 16, .ro, .i⟩, ⟨0, 16, .ro, .i⟩]⟩,
  ⟨0x8440, [], 0, [⟨0, 16, .ro, .i⟩]⟩,
  ⟨0x8480, [(4, 5)], 0, [⟨0, 32, .ro, .v⟩]⟩,
  ⟨0x8800, [], 0, [⟨16, 16, .ro, .v⟩, ⟨0, 16, .ro, .v⟩]⟩,
  ⟨0x8804, [], 0, [⟨0, 32, .ro, .v⟩]⟩,
  ⟨0x8808, [], 0, [⟨24, 8, .ro, .i⟩, ⟨16, 8, .ro, .v⟩, ⟨8, 8, .ro, .v⟩, ⟨0, 8, .ro, .v⟩]⟩,
  ⟨0x880c, [], 0, [⟨0, 32, .ro, .v⟩]⟩,
  ⟨0x8810, [], 0, [⟨0, 32, .ro, .v⟩]⟩,
  ⟨0x8820, [], 0, [⟨1, 1, .wo, .v⟩, ⟨0, 1, .w1s, .v⟩]⟩,
  ⟨0x8824, [], 0, [⟨16, 16, .ro, .v⟩, ⟨0, 16, .ro, .v⟩]⟩,
  ⟨0x8830, [], 0, [⟨2, 1, .w1c, .v⟩, ⟨1, 1, .w1c, .v⟩, ⟨0, 1, .w1c, .v⟩]⟩,
  ⟨0x8834, [], 0, [⟨0, 3, .rw, .c⟩]⟩,
  ⟨0x8840, [], 0, [⟨0, 32, .ro, .c⟩]⟩,
  ⟨0x8844, [], 0, [⟨0, 32, .ro, .c⟩]⟩,
  ⟨0x8848, [], 0, [⟨0, 32, .ro, .c⟩]⟩,
  ⟨0x8a00, [(0x10, 16)], 0, [⟨0, 32, .ro, .i⟩]⟩,
  ⟨0x8a04, [(0x10, 16)], 0, [⟨0, 32, .ro, .i⟩]⟩,
  ⟨0x8a08, [(0x10, 16)], 0, [⟨31, 1, .ro, .i⟩, ⟨29, 2, .ro, .i⟩, ⟨28, 1, .ro, .i⟩, ⟨0, 24, .ro, .i⟩]⟩]

/-- Registers from 0x10000 up to 0x20000. -/
def regRows3 : List RegRow := [
  ⟨0x10000, [(0x400, 64)], 0xef0, [⟨16, 4, .ro, .v⟩, ⟨9, 3, .ro, .v⟩, ⟨8, 1, .ro, .v⟩, ⟨6, 2, .ro, .v⟩, ⟨4, 2, .ro, .v⟩, ⟨0, 4, .ro, .v⟩]⟩,
  ⟨0x10004, [(0x400, 64)], 0x40010300, [⟨20, 12, .rwl, .i⟩, ⟨12, 8, .rwl, .i⟩, ⟨8, 4, .rwl, .i⟩, ⟨4, 1, .wo, .v⟩, ⟨3, 1, .rw, .c⟩, ⟨1, 2, .rw, .c⟩, ⟨0, 1, .rw, .c⟩]⟩,
  ⟨0x10008, [(0x400, 64)], 0xfff0fff, [⟨16, 12, .ro, .v⟩, ⟨0, 12, .ro, .v⟩]⟩,
  ⟨0x1000c, [(0x400, 64)], 0, [⟨24, 5, .ro, .v⟩, ⟨16, 5, .ro, .v⟩, ⟨8, 5, .ro, .v⟩, ⟨0, 5, .ro, .c⟩]⟩,
  ⟨0x10010, [(0x400, 64)], 0x10000000, [⟨24, 8, .ro, .i⟩, ⟨16, 8, .ro, .v⟩, ⟨8, 8, .ro, .v⟩, ⟨0, 8, .ro, .v⟩]⟩,
  ⟨0x10014, [(0x400, 64)], 0, [⟨0, 32, .ro, .v⟩]⟩,
  ⟨0x10018, [(0x400, 64)], 0, [⟨0, 32, .ro, .v⟩]⟩,
  ⟨0x1001c, [(0x400, 64)], 0, [⟨31, 1, .rw, .c⟩, ⟨24, 6, .rw, .c⟩, ⟨0, 24, .rw, .c⟩]⟩,
  ⟨0x10020, [(0x400, 64)], 0, [⟨24, 6, .ro, .v⟩, ⟨0, 24, .ro, .v⟩]⟩,
  ⟨0x10024, [(0x400, 64)], 0, [⟨16, 16, .ro, .v⟩, ⟨0, 16, .ro, .v⟩]⟩,
  ⟨0x10028, [(0x400, 64)], 0, [⟨0, 16, .ro, .v⟩]⟩,
  ⟨0x1002c, [(0x400, 64)], 0, [⟨4, 1, .ro, .v⟩, ⟨3, 1, .ro, .v⟩, ⟨2, 1, .ro, .v⟩, ⟨1, 1, .ro, .v⟩, ⟨0, 1, .w1s, .v⟩]⟩,
  ⟨0x10030, [(0x400, 64)], 0xe0006, [⟨24, 2, .ro, .v⟩, ⟨16, 8, .ro, .v⟩, ⟨8, 2, .ro, .v⟩, ⟨0, 8, .ro, .v⟩]⟩,
  ⟨0x10040, [(0x400, 64)], 0, [⟨9, 1, .w1c, .v⟩, ⟨8, 1, .w1c, .v⟩, ⟨7, 1, .w1c, .v⟩, ⟨6, 1, .w1c, .v⟩, ⟨5, 1, .w1c, .v⟩, ⟨4, 1, .w1c, .v⟩, ⟨3, 1, .w1c, .v⟩, ⟨2, 1, .w1c, .v⟩, ⟨1, 1, .w1c, .v⟩, ⟨0, 1, .w1c, .v⟩]⟩,
  ⟨0x10044, [(0x400, 64)], 0, [⟨0, 10, .rw, .c⟩]⟩,
  ⟨0x10050, [(0x400, 64)], 0, [⟨0, 32, .ro, .c⟩]⟩,
  ⟨0x10054, [(0x400, 64)], 0, [⟨0, 32, .ro, .c⟩]⟩,
  ⟨0x10058, [(0x400, 64)], 0, [⟨0, 32, .ro, .c⟩]⟩,
  ⟨0x1005c, [(0x400, 64)], 0, [⟨0, 32, .ro, .c⟩]⟩,
  ⟨0x10060, [(0x400, 64)], 0, [⟨0, 32, .ro, .c⟩]⟩,
  ⟨0x10064, [(0x400, 64)], 0, [⟨0, 32, .ro, .c⟩]⟩,
  ⟨0x10068, [(0x400, 64)], 0, [⟨0, 32, .ro, .c⟩]⟩,
  ⟨0x1006c, [(0x400, 64)], 0, [⟨0, 32, .ro, .c⟩]⟩,
  ⟨0x10070, [(0x400, 64)], 0, [⟨0, 32, .ro, .c⟩]⟩,
  ⟨0x10074, [(0x400, 64)], 0, [⟨0, 32, .ro, .c⟩]⟩,
  ⟨0x10080, [(0x400, 64), (4, 5)], 0, [⟨0, 32, .ro, .v⟩]⟩,
  ⟨0x10094, [(0x400, 64)], 0, [⟨0, 32, .ro, .v⟩]⟩,
  ⟨0x10098, [(0x400, 64)], 0, [⟨0, 32, .ro, .v⟩]⟩,
  ⟨0x100a0, [(0x400, 64), (4, 5)], 0, [⟨0, 32, .ro, .v⟩]⟩,
  ⟨0x100c0, [(0x400, 64)], 0, [⟨0, 16, .ro, .v⟩]⟩,
  ⟨0x100c4, [(0x400, 64), (4, 5)], 0, [⟨0, 16, .ro, .v⟩]⟩,
  ⟨0x100d8, [(0x400, 64), (4, 5)], 0, [⟨0, 16, .ro, .v⟩]⟩,
  ⟨0x100f0, [(0x400, 64)], 0x271000c8, [⟨16, 16, .ro, .i⟩, ⟨0, 16, .ro, .i⟩]⟩,
  ⟨0x100f4, [(0x400, 64)], 0xa55, [⟨8, 8, .ro, .i⟩, ⟨0, 8, .ro, .i⟩]⟩,
  ⟨0x100f8, [(0x400, 64)], 0x1e00, [⟨8, 5, .ro, .i⟩, ⟨0, 5, .ro, .i⟩]⟩,
  ⟨0x10100, [(0x400, 64)], 0x40c35, [⟨21, 1, .rw, .c⟩, ⟨16, 4, .rwl, .i⟩, ⟨0, 16, .rwl, .i⟩]⟩,
  ⟨0x10104, [(0x400, 64)], 0x64, [⟨0, 14, .rw, .c⟩]⟩,
  ⟨0x10108, [(0x400, 64)], 0, [⟨16, 12, .ro, .v⟩, ⟨0, 12, .ro, .v⟩]⟩,
  ⟨0x1010c, [(0x400, 64)], 0x300, [⟨16, 10, .ro, .v⟩, ⟨8, 2, .ro, .v⟩, ⟨6, 2, .ro, .v⟩, ⟨5, 1, .ro, .v⟩, ⟨0, 4, .ro, .v⟩]⟩,
  ⟨0x10120, [(0x400, 64), (4, 8)], 0, [⟨16, 14, .ro, .v⟩, ⟨0, 14, .ro, .i⟩]⟩,
  ⟨0x10140, [(0x400, 64), (4, 8)], 0, [⟨0, 11, .ro, .i⟩]⟩,
  ⟨0x10160, [(0x400, 64)], 0, [⟨10, 1, .w1c, .v⟩, ⟨9, 1, .w1c, .v⟩, ⟨8, 1, .w1c, .v⟩, ⟨7, 1, .w1c, .v⟩, ⟨6, 1, .w1c, .v⟩, ⟨5, 1, .w1c, .v⟩, ⟨4, 1, .w1c, .v⟩, ⟨3, 1, .w1c, .v⟩, ⟨2, 1, .w1c, .v⟩, ⟨1, 1, .w1c, .v⟩, ⟨0, 1, .w1c, .v⟩]⟩,
  ⟨0x10164, [(0x400, 64)], 0, [⟨0, 11, .rw, .c⟩]⟩,
  ⟨0x10180, [(0x400, 64)], 0, [⟨0, 32, .ro, .c⟩]⟩,
  ⟨0x10184, [(0x400, 64)], 0, [⟨0, 32, .ro, .c⟩]⟩,
  ⟨0x10188, [(0x400, 64)], 0, [⟨0, 32, .ro, .c⟩]⟩,
  ⟨0x1018c, [(0x400, 64)], 0, [⟨0, 32, .ro, .c⟩]⟩,
  ⟨0x10190, [(0x400, 64)], 0, [⟨0, 32, .ro, .c⟩]⟩,
  ⟨0x10194, [(0x400, 64)], 0, [⟨0, 32, .ro, .c⟩]⟩,
  ⟨0x10198, [(0x400, 64)], 0, [⟨0, 32, .ro, .c⟩]⟩,
  ⟨0x1019c, [(0x400, 64)], 0, [⟨0, 32, .ro, .c⟩]⟩,
  ⟨0x101a0, [(0x400, 64)], 0, [⟨0, 32, .ro, .c⟩]⟩,
  ⟨0x101a4, [(0x400, 64)], 0, [⟨0, 32, .ro, .c⟩]⟩,
  ⟨0x101a8, [(0x400, 64)], 0, [⟨0, 32, .ro, .c⟩]⟩,
  ⟨0x101c0, [(0x400, 64)], 0, [⟨0, 32, .ro, .v⟩]⟩,
  ⟨0x101c4, [(0x400, 64)], 0, [⟨0, 32, .ro, .v⟩]⟩,
  ⟨0x101c8, [(0x400, 64)], 0, [⟨0, 32, .ro, .v⟩]⟩,
  ⟨0x101cc, [(0x400, 64)], 0, [⟨0, 32, .ro, .v⟩]⟩,
  ⟨0x101d0, [(0x400, 64)], 0, [⟨0, 32, .ro, .v⟩]⟩,
  ⟨0x101d4, [(0x400, 64)], 0, [⟨0, 32, .ro, .v⟩]⟩,
  ⟨0x101d8, [(0x400, 64)], 0, [⟨0, 32, .ro, .v⟩]⟩,
  ⟨0x10200, [(0x400, 64)], 0, [⟨3, 1, .ro, .v⟩, ⟨2, 1, .ro, .v⟩, ⟨1, 1, .ro, .v⟩, ⟨0, 1, .rw, .c⟩]⟩,
  ⟨0x10210, [(0x400, 64), (4, 8)], 0, [⟨0, 32, .wo, .v⟩]⟩,
  ⟨0x10230, [(0x400, 64)], 0, [⟨0, 32, .wo, .v⟩]⟩,
  ⟨0x10234, [(0x400, 64)], 0, [⟨0, 32, .wo, .v⟩]⟩,
  ⟨0x10238, [(0x400, 64)], 0, [⟨16, 16, .wo, .v⟩, ⟨0, 16, .wo, .v⟩]⟩,
  ⟨0x1023c, [(0x400, 64)], 0, [⟨1, 1, .wo, .v⟩, ⟨0, 1, .wo, .v⟩]⟩,
  ⟨0x10240, [(0x400, 64)], 0, [⟨1, 1, .ro, .v⟩, ⟨0, 1, .ro, .v⟩]⟩,
  ⟨0x10280, [(0x400, 64)], 0, [⟨16, 8, .ro, .v⟩, ⟨0, 2, .ro, .v⟩]⟩,
  ⟨0x10284, [(0x400, 64)], 0, [⟨0, 32, .ro, .v⟩]⟩,
  ⟨0x10300, [(0x400, 64)], 0x3e, [⟨15, 1, .ro, .v⟩, ⟨14, 1, .ro, .v⟩, ⟨8, 5, .ro, .v⟩, ⟨1, 5, .rw, .v⟩, ⟨0, 1, .wo, .v⟩]⟩]

/-- Registers from 0x20000 up to 0x40000. -/
def regRows4 : List RegRow := [
  ⟨0x20000, [], 0, [⟨0, 20, .rwl, .c⟩]⟩,
  ⟨0x20004, [], 0xa2000, [⟨16, 8, .rw, .c⟩, ⟨8, 6, .rwl, .i⟩, ⟨0, 8, .rw, .c⟩]⟩,
  ⟨0x20008, [], 0, [⟨29, 1, .ro, .v⟩, ⟨28, 1, .ro, .v⟩, ⟨16, 10, .ro, .v⟩, ⟨0, 7, .ro, .v⟩]⟩,
  ⟨0x20010, [(8, 4)], 0, [⟨0, 32, .rwl, .i⟩]⟩,
  ⟨0x20014, [(8, 4)], 0, [⟨0, 32, .rwl, .i⟩]⟩,
  ⟨0x20030, [], 0, [⟨0, 32, .rw, .v⟩]⟩,
  ⟨0x20034, [], 0, [⟨0, 32, .rw, .v⟩]⟩,
  ⟨0x20040, [], 0, [⟨9, 1, .w1c, .v⟩, ⟨8, 1, .w1c, .v⟩, ⟨7, 1, .w1c, .v⟩, ⟨6, 1, .w1c, .v⟩, ⟨5, 1, .w1c, .v⟩, ⟨4, 1, .w1c, .v⟩, ⟨3, 1, .w1c, .v⟩, ⟨2, 1, .w1c, .v⟩, ⟨1, 1, .w1c, .v⟩, ⟨0, 1, .w1c, .v⟩]⟩,
  ⟨0x20044, [], 0, [⟨0, 10, .rw, .c⟩]⟩,
  ⟨0x20060, [], 0, [⟨0, 20, .wo, .v⟩]⟩,
  ⟨0x20064, [], 0, [⟨16, 16, .wo, .v⟩, ⟨0, 16, .wo, .v⟩]⟩,
  ⟨0x20068, [], 0, [⟨1, 1, .wo, .v⟩, ⟨0, 1, .wo, .v⟩]⟩,
  ⟨0x20080, [], 0, [⟨0, 32, .ro, .c⟩]⟩,
  ⟨0x20084, [], 0, [⟨0, 32, .ro, .c⟩]⟩,
  ⟨0x20088, [], 0, [⟨0, 32, .ro, .c⟩]⟩,
  ⟨0x2008c, [], 0, [⟨0, 32, .ro, .c⟩]⟩,
  ⟨0x20090, [], 0, [⟨0, 32, .ro, .c⟩]⟩,
  ⟨0x20094, [], 0, [⟨0, 32, .ro, .c⟩]⟩,
  ⟨0x20098, [], 0, [⟨0, 32, .ro, .c⟩]⟩,
  ⟨0x2009c, [], 0, [⟨0, 32, .ro, .c⟩]⟩,
  ⟨0x200a0, [], 0, [⟨0, 32, .ro, .c⟩]⟩,
  ⟨0x200a4, [], 0, [⟨0, 32, .ro, .c⟩]⟩,
  ⟨0x20400, [(4, 256)], 0, [⟨0, 32, .ro, .v⟩]⟩,
  ⟨0x28000, [(8, 4096)], 0, [⟨31, 1, .rw, .i⟩, ⟨20, 8, .rw, .i⟩, ⟨0, 20, .rw, .i⟩]⟩,
  ⟨0x28004, [(8, 4096)], 0, [⟨0, 20, .rw, .i⟩]⟩,
  ⟨0x30000, [(8, 512)], 0, [⟨31, 1, .ro, .c⟩, ⟨0, 20, .ro, .c⟩]⟩,
  ⟨0x30004, [(8, 512)], 0, [⟨16, 16, .ro, .c⟩, ⟨0, 16, .ro, .c⟩]⟩]

/-- Registers from 0x40000 up to 0x90000. -/
def regRows5 : List RegRow := [
  ⟨0x40000, [(4, 65536)], 0, [⟨31, 1, .rw, .i⟩, ⟨28, 2, .rw, .i⟩, ⟨0, 24, .rw, .i⟩]⟩,
  ⟨0x80000, [], 0, [⟨30, 2, .ro, .v⟩, ⟨29, 1, .ro, .v⟩, ⟨16, 13, .ro, .v⟩, ⟨0, 13, .ro, .v⟩]⟩,
  ⟨0x80004, [], 0x32800400, [⟨24, 8, .rwl, .i⟩, ⟨20, 4, .rwl, .i⟩, ⟨0, 15, .rwl, .i⟩]⟩,
  ⟨0x80008, [], 0x64300a02, [⟨24, 8, .rwl, .i⟩, ⟨20, 4, .rwl, .i⟩, ⟨8, 8, .rwl, .i⟩, ⟨0, 8, .rwl, .i⟩]⟩,
  ⟨0x80010, [], 0, [⟨16, 16, .ro, .i⟩]⟩,
  ⟨0x80014, [], 0, [⟨0, 20, .ro, .i⟩]⟩,
  ⟨0x80018, [], 0x100, [⟨16, 16, .ro, .v⟩, ⟨0, 9, .ro, .i⟩]⟩,
  ⟨0x8001c, [], 0, [⟨0, 16, .ro, .v⟩]⟩,
  ⟨0x80020, [], 0, [⟨0, 16, .ro, .v⟩]⟩,
  ⟨0x80030, [], 0, [⟨0, 11, .ro, .v⟩]⟩,
  ⟨0x80040, [], 0, [⟨10, 1, .w1c, .v⟩, ⟨9, 1, .w1c, .v⟩, ⟨8, 1, .w1c, .v⟩, ⟨7, 1, .w1c, .v⟩, ⟨6, 1, .w1c, .v⟩, ⟨5, 1, .w1c, .v⟩, ⟨4, 1, .w1c, .v⟩, ⟨3, 1, .w1c, .v⟩, ⟨2, 1, .w1c, .v⟩, ⟨1, 1, .w1c, .v⟩, ⟨0, 1, .w1c, .v⟩]⟩,
  ⟨0x80044, [], 0, [⟨0, 11, .rw, .c⟩]⟩,
  ⟨0x80080, [], 0, [⟨0, 32, .ro, .c⟩]⟩,
  ⟨0x80084, [], 0, [⟨0, 32, .ro, .c⟩]⟩,
  ⟨0x80088, [], 0, [⟨0, 32, .ro, .c⟩]⟩,
  ⟨0x8008c, [], 0, [⟨0, 32, .ro, .c⟩]⟩,
  ⟨0x80090, [], 0, [⟨0, 32, .ro, .c⟩]⟩,
  ⟨0x80094, [], 0, [⟨0, 32, .ro, .c⟩]⟩,
  ⟨0x80098, [], 0, [⟨0, 32, .ro, .c⟩]⟩,
  ⟨0x8009c, [], 0, [⟨0, 32, .ro, .c⟩]⟩,
  ⟨0x800a0, [], 0, [⟨0, 32, .ro, .c⟩]⟩,
  ⟨0x800a4, [], 0, [⟨0, 32, .ro, .c⟩]⟩,
  ⟨0x800a8, [], 0, [⟨0, 32, .ro, .c⟩]⟩,
  ⟨0x80100, [], 0, [⟨0, 12, .rw, .v⟩]⟩,
  ⟨0x80104, [], 0, [⟨30, 2, .ro, .c⟩, ⟨20, 8, .ro, .c⟩, ⟨0, 20, .ro, .c⟩]⟩,
  ⟨0x80108, [], 0, [⟨0, 32, .ro, .v⟩]⟩,
  ⟨0x8010c, [], 0, [⟨0, 32, .ro, .v⟩]⟩,
  ⟨0x80110, [], 0, [⟨0, 32, .ro, .v⟩]⟩,
  ⟨0x80114, [], 0, [⟨3, 1, .ro, .v⟩, ⟨0, 2, .wo, .v⟩]⟩,
  ⟨0x80120, [], 0, [⟨0, 12, .rw, .v⟩]⟩,
  ⟨0x80124, [], 0, [⟨20, 12, .ro, .c⟩, ⟨0, 20, .ro, .c⟩]⟩,
  ⟨0x80128, [], 0, [⟨31, 1, .ro, .c⟩, ⟨0, 31, .ro, .c⟩]⟩,
  ⟨0x8012c, [], 0, [⟨0, 1, .wo, .v⟩]⟩,
  ⟨0x80140, [], 0, [⟨16, 11, .ro, .v⟩, ⟨0, 11, .rw, .v⟩]⟩,
  ⟨0x80144, [], 0, [⟨0, 32, .ro, .v⟩]⟩,
  ⟨0x81000, [(0x10, 256), (4, 4)], 0, [⟨0, 32, .ro, .v⟩]⟩,
  ⟨0x88000, [(0x20, 1024), (4, 8)], 0, [⟨0, 32, .ro, .v⟩]⟩]

/-- Registers from 0x90000 up to 0xa0000. -/
def regRows6 : List RegRow := [
  ⟨0x90000, [], 8, [⟨4, 4, .ro, .v⟩, ⟨3, 1, .ro, .v⟩, ⟨0, 3, .ro, .v⟩]⟩,
  ⟨0x90004, [], 0x10000, [⟨16, 1, .rw, .c⟩, ⟨14, 1, .rw, .c⟩, ⟨8, 6, .rw, .c⟩, ⟨0, 2, .rwl, .i⟩]⟩,
  ⟨0x90008, [], 0x2625a, [⟨0, 21, .ro, .i⟩]⟩,
  ⟨0x9000c, [], 0, [⟨0, 21, .ro, .v⟩]⟩,
  ⟨0x90010, [], 0x3e8, [⟨0, 20, .ro, .i⟩]⟩,
  ⟨0x90014, [], 0, [⟨0, 32, .ro, .v⟩]⟩,
  ⟨0x90018, [], 0, [⟨0, 16, .ro, .v⟩]⟩,
  ⟨0x9001c, [], 0, [⟨16, 16, .ro, .v⟩, ⟨0, 16, .ro, .v⟩]⟩,
  ⟨0x90020, [], 0, [⟨0, 32, .ro, .v⟩]⟩,
  ⟨0x90024, [], 0, [⟨0, 8, .ro, .v⟩]⟩,
  ⟨0x90028, [], 0, [⟨0, 32, .ro, .v⟩]⟩,
  ⟨0x9002c, [], 0, [⟨0, 32, .ro, .v⟩]⟩,
  ⟨0x90030, [], 0, [⟨0, 32, .ro, .v⟩]⟩,
  ⟨0x90034, [], 0, [⟨0, 32, .ro, .v⟩]⟩,
  ⟨0x90038, [], 0x64, [⟨0, 16, .rw, .c⟩]⟩,
  ⟨0x9003c, [], 0xa140602, [⟨24, 8, .rwl, .i⟩, ⟨16, 8, .rwl, .i⟩, ⟨8, 4, .rwl, .i⟩, ⟨0, 4, .rwl, .i⟩]⟩,
  ⟨0x90040, [], 0x40, [⟨0, 8, .rw, .c⟩]⟩,
  ⟨0x90044, [], 0, [⟨0, 32, .rw, .v⟩]⟩,
  ⟨0x90048, [], 0, [⟨0, 16, .rw, .v⟩]⟩,
  ⟨0x9004c, [], 0, [⟨0, 21, .rw, .v⟩]⟩,
  ⟨0x90050, [], 0, [⟨0, 32, .rw, .v⟩]⟩,
  ⟨0x90054, [], 0, [⟨31, 1, .wo, .v⟩, ⟨0, 16, .rw, .v⟩]⟩,
  ⟨0x90060, [], 0, [⟨12, 1, .w1c, .v⟩, ⟨11, 1, .w1c, .v⟩, ⟨10, 1, .w1c, .v⟩, ⟨9, 1, .w1c, .v⟩, ⟨8, 1, .w1c, .v⟩, ⟨7, 1, .w1c, .v⟩, ⟨6, 1, .w1c, .v⟩, ⟨5, 1, .w1c, .v⟩, ⟨4, 1, .w1c, .v⟩, ⟨3, 1, .w1c, .v⟩, ⟨2, 1, .w1c, .v⟩, ⟨1, 1, .w1c, .v⟩, ⟨0, 1, .w1c, .v⟩]⟩,
  ⟨0x90064, [], 0, [⟨0, 13, .rw, .c⟩]⟩,
  ⟨0x90080, [], 0, [⟨0, 32, .ro, .c⟩]⟩,
  ⟨0x90084, [], 0, [⟨0, 32, .ro, .c⟩]⟩,
  ⟨0x90088, [], 0, [⟨0, 32, .ro, .c⟩]⟩,
  ⟨0x9008c, [], 0, [⟨0, 32, .ro, .c⟩]⟩,
  ⟨0x90090, [], 0, [⟨0, 32, .ro, .c⟩]⟩,
  ⟨0x90094, [], 0, [⟨0, 32, .ro, .c⟩]⟩,
  ⟨0x90098, [], 0, [⟨0, 32, .ro, .c⟩]⟩,
  ⟨0x9009c, [], 0, [⟨0, 32, .ro, .c⟩]⟩,
  ⟨0x900a0, [], 0, [⟨0, 32, .ro, .c⟩]⟩,
  ⟨0x900a4, [], 0, [⟨0, 32, .ro, .c⟩]⟩,
  ⟨0x900a8, [], 0, [⟨0, 32, .ro, .c⟩]⟩,
  ⟨0x900ac, [], 0, [⟨0, 32, .ro, .c⟩]⟩,
  ⟨0x900b0, [], 0, [⟨0, 32, .ro, .c⟩]⟩,
  ⟨0x90100, [(4, 64)], 0, [⟨16, 16, .rw, .i⟩, ⟨0, 16, .rw, .i⟩]⟩]

/-- Registers from 0xa0000 up to 0xb0000. -/
def regRows7 : List RegRow := [
  ⟨0xa0000, [], 0, [⟨16, 11, .ro, .v⟩, ⟨0, 15, .ro, .v⟩]⟩,
  ⟨0xa0004, [], 0x140080, [⟨31, 1, .rw, .v⟩, ⟨16, 8, .rwl, .i⟩, ⟨0, 9, .rwl, .i⟩]⟩,
  ⟨0xa0008, [], 0, [⟨12, 20, .ro, .i⟩]⟩,
  ⟨0xa000c, [], 0, [⟨0, 20, .ro, .i⟩]⟩,
  ⟨0xa0010, [], 0, [⟨17, 1, .wo, .v⟩, ⟨16, 1, .wo, .v⟩, ⟨0, 14, .wo, .v⟩]⟩,
  ⟨0xa0014, [], 0, [⟨31, 1, .ro, .v⟩, ⟨16, 4, .ro, .v⟩, ⟨0, 14, .ro, .v⟩]⟩,
  ⟨0xa0020, [], 0, [⟨0, 14, .rw, .v⟩]⟩,
  ⟨0xa0024, [], 0, [⟨0, 32, .ro, .v⟩]⟩,
  ⟨0xa0028, [], 0, [⟨16, 16, .ro, .v⟩, ⟨0, 16, .ro, .v⟩]⟩,
  ⟨0xa002c, [], 0, [⟨31, 1, .ro, .v⟩, ⟨30, 1, .ro, .v⟩, ⟨0, 16, .ro, .v⟩]⟩,
  ⟨0xa0030, [], 0, [⟨0, 32, .ro, .v⟩]⟩,
  ⟨0xa0034, [], 0, [⟨0, 32, .ro, .v⟩]⟩,
  ⟨0xa0038, [], 0, [⟨0, 32, .ro, .v⟩]⟩,
  ⟨0xa0040, [], 0, [⟨7, 1, .w1c, .v⟩, ⟨6, 1, .w1c, .v⟩, ⟨5, 1, .w1c, .v⟩, ⟨4, 1, .w1c, .v⟩, ⟨3, 1, .w1c, .v⟩, ⟨2, 1, .w1c, .v⟩, ⟨1, 1, .w1c, .v⟩, ⟨0, 1, .w1c, .v⟩]⟩,
  ⟨0xa0044, [], 0, [⟨0, 8, .rw, .c⟩]⟩,
  ⟨0xa0080, [], 0, [⟨0, 32, .ro, .c⟩]⟩,
  ⟨0xa0084, [], 0, [⟨0, 32, .ro, .c⟩]⟩,
  ⟨0xa0088, [], 0, [⟨0, 32, .ro, .c⟩]⟩,
  ⟨0xa008c, [], 0, [⟨0, 32, .ro, .c⟩]⟩,
  ⟨0xa0090, [], 0, [⟨0, 32, .ro, .c⟩]⟩,
  ⟨0xa0094, [], 0, [⟨0, 32, .ro, .c⟩]⟩,
  ⟨0xa0098, [], 0, [⟨0, 32, .ro, .c⟩]⟩,
  ⟨0xa009c, [], 0, [⟨0, 32, .ro, .c⟩]⟩,
  ⟨0xa0400, [(4, 256)], 0, [⟨31, 1, .rw, .i⟩, ⟨0, 8, .rw, .i⟩]⟩,
  ⟨0xa0800, [(4, 256)], 0, [⟨0, 32, .ro, .v⟩]⟩]

/-- Registers from 0xb0000 up to 0xe0000. -/
def regRows8 : List RegRow := [
  ⟨0xb0000, [], 0, [⟨16, 8, .ro, .v⟩, ⟨9, 1, .ro, .v⟩, ⟨0, 9, .ro, .v⟩]⟩,
  ⟨0xb0004, [], 0xa114, [⟨12, 4, .rwl, .i⟩, ⟨8, 1, .rwl, .i⟩, ⟨0, 8, .rw, .c⟩]⟩,
  ⟨0xb0010, [], 0, [⟨8, 3, .wo, .v⟩, ⟨0, 8, .wo, .v⟩]⟩,
  ⟨0xb0014, [], 0, [⟨31, 1, .ro, .v⟩, ⟨8, 4, .ro, .v⟩, ⟨0, 8, .ro, .v⟩]⟩,
  ⟨0xb0020, [], 0, [⟨0, 32, .ro, .v⟩]⟩,
  ⟨0xb0024, [], 0, [⟨0, 32, .ro, .v⟩]⟩,
  ⟨0xb0040, [], 0, [⟨10, 1, .w1c, .v⟩, ⟨9, 1, .w1c, .v⟩, ⟨8, 1, .w1c, .v⟩, ⟨7, 1, .w1c, .v⟩, ⟨6, 1, .w1c, .v⟩, ⟨5, 1, .w1c, .v⟩, ⟨4, 1, .w1c, .v⟩, ⟨3, 1, .w1c, .v⟩, ⟨2, 1, .w1c, .v⟩, ⟨1, 1, .w1c, .v⟩, ⟨0, 1, .w1c, .v⟩]⟩,
  ⟨0xb0044, [], 0, [⟨0, 11, .rw, .c⟩]⟩,
  ⟨0xb0080, [], 0, [⟨0, 32, .ro, .c⟩]⟩,
  ⟨0xb0084, [], 0, [⟨0, 32, .ro, .c⟩]⟩,
  ⟨0xb0088, [], 0, [⟨0, 32, .ro, .c⟩]⟩,
  ⟨0xb008c, [], 0, [⟨0, 32, .ro, .c⟩]⟩,
  ⟨0xb0090, [], 0, [⟨0, 32, .ro, .c⟩]⟩,
  ⟨0xb0094, [], 0, [⟨0, 32, .ro, .c⟩]⟩,
  ⟨0xb0098, [], 0, [⟨0, 32, .ro, .c⟩]⟩,
  ⟨0xb009c, [], 0, [⟨0, 32, .ro, .c⟩]⟩,
  ⟨0xb00a0, [], 0, [⟨0, 32, .ro, .c⟩]⟩,
  ⟨0xb00a4, [], 0, [⟨0, 32, .ro, .c⟩]⟩,
  ⟨0xb00a8, [], 0, [⟨0, 32, .ro, .c⟩]⟩,
  ⟨0xb0400, [(4, 64)], 0, [⟨0, 32, .ro, .c⟩]⟩,
  ⟨0xb0500, [(4, 64)], 0, [⟨11, 5, .ro, .v⟩, ⟨9, 1, .ro, .c⟩, ⟨8, 1, .ro, .c⟩, ⟨0, 5, .ro, .c⟩]⟩,
  ⟨0xb1000, [(0x20, 256)], 0, [⟨28, 3, .ro, .v⟩, ⟨27, 1, .rw, .v⟩, ⟨26, 1, .rw, .v⟩, ⟨24, 2, .rw, .v⟩, ⟨20, 4, .rw, .v⟩, ⟨16, 4, .rw, .v⟩, ⟨12, 3, .rw, .v⟩, ⟨0, 8, .rw, .v⟩]⟩,
  ⟨0xb1004, [(0x20, 256)], 0, [⟨0, 18, .rw, .v⟩]⟩,
  ⟨0xb1008, [(0x20, 256)], 0, [⟨0, 18, .rw, .v⟩]⟩,
  ⟨0xb100c, [(0x20, 256)], 0, [⟨0, 32, .rw, .v⟩]⟩,
  ⟨0xb1010, [(0x20, 256)], 0, [⟨0, 32, .ro, .v⟩]⟩,
  ⟨0xb1014, [(0x20, 256)], 0, [⟨0, 32, .rw, .v⟩]⟩,
  ⟨0xb1018, [(0x20, 256)], 0, [⟨0, 32, .rw, .v⟩]⟩,
  ⟨0xb101c, [(0x20, 256)], 0, [⟨28, 2, .ro, .v⟩, ⟨27, 1, .ro, .v⟩, ⟨0, 16, .rw, .v⟩]⟩,
  ⟨0xb3000, [(4, 256)], 0, [⟨31, 1, .ro, .v⟩, ⟨0, 12, .ro, .v⟩]⟩,
  ⟨0xb3800, [], 0x1010, [⟨8, 8, .rwl, .i⟩, ⟨0, 8, .rwl, .i⟩]⟩,
  ⟨0xb3804, [], 0, [⟨16, 13, .ro, .v⟩, ⟨0, 9, .ro, .v⟩]⟩,
  ⟨0xb3808, [], 0, [⟨0, 32, .rw, .v⟩]⟩,
  ⟨0xb380c, [], 0, [⟨0, 32, .rw, .v⟩]⟩,
  ⟨0xb3810, [], 0, [⟨16, 2, .wo, .v⟩, ⟨0, 12, .wo, .v⟩]⟩,
  ⟨0xb3814, [], 0, [⟨16, 4, .ro, .v⟩, ⟨0, 12, .ro, .v⟩]⟩,
  ⟨0xb3820, [], 0, [⟨0, 12, .rw, .v⟩]⟩,
  ⟨0xb3824, [], 0, [⟨28, 4, .ro, .v⟩, ⟨24, 4, .ro, .v⟩, ⟨23, 1, .ro, .v⟩, ⟨22, 1, .ro, .v⟩, ⟨14, 8, .ro, .v⟩, ⟨0, 14, .ro, .v⟩]⟩,
  ⟨0xb3828, [], 0, [⟨0, 32, .ro, .v⟩]⟩,
  ⟨0xb382c, [], 0, [⟨0, 32, .ro, .v⟩]⟩,
  ⟨0xb3830, [], 0, [⟨14, 4, .ro, .v⟩, ⟨0, 14, .ro, .v⟩]⟩,
  ⟨0xb3840, [], 0, [⟨5, 1, .w1c, .v⟩, ⟨4, 1, .w1c, .v⟩, ⟨3, 1, .w1c, .v⟩, ⟨2, 1, .w1c, .v⟩, ⟨1, 1, .w1c, .v⟩, ⟨0, 1, .w1c, .v⟩]⟩,
  ⟨0xb3844, [], 0, [⟨0, 6, .rw, .c⟩]⟩,
  ⟨0xb3848, [], 0, [⟨16, 12, .ro, .v⟩, ⟨0, 16, .ro, .v⟩]⟩,
  ⟨0xb384c, [], 0, [⟨0, 32, .ro, .v⟩]⟩,
  ⟨0xb3880, [], 0, [⟨0, 32, .ro, .c⟩]⟩,
  ⟨0xb3884, [], 0, [⟨0, 32, .ro, .c⟩]⟩,
  ⟨0xb3888, [], 0, [⟨0, 32, .ro, .c⟩]⟩,
  ⟨0xb388c, [], 0, [⟨0, 32, .ro, .c⟩]⟩,
  ⟨0xb3890, [], 0, [⟨0, 32, .ro, .c⟩]⟩,
  ⟨0xb3894, [], 0, [⟨0, 32, .ro, .c⟩]⟩,
  ⟨0xb3900, [(8, 16)], 0, [⟨0, 32, .ro, .v⟩]⟩,
  ⟨0xb3904, [(8, 16)], 0, [⟨0, 32, .ro, .v⟩]⟩,
  ⟨0xb4000, [(0x10, 1024)], 0, [⟨31, 1, .rw, .i⟩, ⟨0, 20, .rw, .i⟩]⟩,
  ⟨0xb4004, [(0x10, 1024)], 0, [⟨24, 8, .rw, .i⟩, ⟨12, 3, .rw, .i⟩, ⟨0, 12, .rw, .i⟩]⟩,
  ⟨0xb4008, [(0x10, 1024)], 0, [⟨16, 16, .rw, .i⟩, ⟨0, 16, .rw, .i⟩]⟩,
  ⟨0xb400c, [(0x10, 1024)], 0, [⟨0, 32, .rw, .i⟩]⟩,
  ⟨0xb8000, [(8, 4096)], 0, [⟨31, 1, .rw, .i⟩, ⟨14, 8, .rw, .i⟩, ⟨0, 14, .rw, .i⟩]⟩,
  ⟨0xb8004, [(8, 4096)], 0, [⟨28, 4, .ro, .v⟩, ⟨0, 14, .rw, .i⟩]⟩,
  ⟨0xc0000, [(8, 16384)], 0, [⟨0, 32, .rw, .i⟩]⟩,
  ⟨0xc0004, [(8, 16384)], 0, [⟨0, 32, .rw, .i⟩]⟩]

/-- Registers from 0xe0000 up to 0xf0000. -/
def regRows9 : List RegRow := [
  ⟨0xe0000, [], 0, [⟨23, 1, .ro, .v⟩, ⟨22, 1, .ro, .v⟩, ⟨21, 1, .ro, .v⟩, ⟨20, 1, .ro, .v⟩, ⟨16, 4, .ro, .v⟩, ⟨12, 1, .ro, .v⟩, ⟨8, 4, .ro, .v⟩, ⟨0, 8, .ro, .v⟩]⟩,
  ⟨0xe0004, [], 0x40044004, [⟨24, 8, .rwl, .i⟩, ⟨16, 4, .rwl, .i⟩, ⟨8, 8, .rwl, .i⟩, ⟨0, 8, .rwl, .i⟩]⟩,
  ⟨0xe0008, [], 0xffff, [⟨0, 16, .rw, .c⟩]⟩,
  ⟨0xe000c, [], 0, [⟨16, 16, .ro, .v⟩, ⟨0, 16, .ro, .v⟩]⟩,
  ⟨0xe0010, [], 0, [⟨31, 1, .wo, .v⟩, ⟨0, 4, .wo, .v⟩]⟩,
  ⟨0xe0014, [], 0, [⟨0, 32, .rw, .v⟩]⟩,
  ⟨0xe0018, [], 0, [⟨16, 16, .rw, .v⟩, ⟨0, 16, .rw, .v⟩]⟩,
  ⟨0xe001c, [], 0, [⟨0, 4, .ro, .i⟩]⟩,
  ⟨0xe0020, [], 0x8180320, [⟨24, 8, .rwl, .i⟩, ⟨16, 8, .rwl, .i⟩, ⟨0, 12, .rwl, .i⟩]⟩,
  ⟨0xe0024, [], 0, [⟨0, 1, .wo, .v⟩]⟩,
  ⟨0xe0028, [], 0x64, [⟨18, 1, .ro, .v⟩, ⟨17, 1, .ro, .v⟩, ⟨16, 1, .ro, .v⟩, ⟨0, 16, .rwl, .i⟩]⟩,
  ⟨0xe002c, [], 0, [⟨8, 8, .ro, .c⟩, ⟨0, 8, .ro, .c⟩]⟩,
  ⟨0xe0040, [], 0, [⟨10, 1, .w1c, .v⟩, ⟨9, 1, .w1c, .v⟩, ⟨8, 1, .w1c, .v⟩, ⟨7, 1, .w1c, .v⟩, ⟨6, 1, .w1c, .v⟩, ⟨5, 1, .w1c, .v⟩, ⟨4, 1, .w1c, .v⟩, ⟨3, 1, .w1c, .v⟩, ⟨2, 1, .w1c, .v⟩, ⟨1, 1, .w1c, .v⟩, ⟨0, 1, .w1c, .v⟩]⟩,
  ⟨0xe0044, [], 0, [⟨0, 11, .rw, .c⟩]⟩,
  ⟨0xe0080, [], 0, [⟨0, 32, .ro, .c⟩]⟩,
  ⟨0xe0084, [], 0, [⟨0, 32, .ro, .c⟩]⟩,
  ⟨0xe0088, [], 0, [⟨0, 32, .ro, .c⟩]⟩,
  ⟨0xe008c, [], 0, [⟨0, 32, .ro, .c⟩]⟩,
  ⟨0xe0090, [], 0, [⟨0, 32, .ro, .c⟩]⟩,
  ⟨0xe0094, [], 0, [⟨0, 32, .ro, .c⟩]⟩,
  ⟨0xe0098, [], 0, [⟨0, 32, .ro, .c⟩]⟩,
  ⟨0xe009c, [], 0, [⟨0, 32, .ro, .c⟩]⟩,
  ⟨0xe00a0, [], 0, [⟨0, 32, .ro, .c⟩]⟩,
  ⟨0xe00a4, [], 0, [⟨0, 32, .ro, .c⟩]⟩,
  ⟨0xe00a8, [], 0, [⟨0, 32, .ro, .c⟩]⟩,
  ⟨0xe0100, [(4, 12)], 0, [⟨31, 1, .ro, .v⟩, ⟨0, 12, .ro, .v⟩]⟩,
  ⟨0xe0200, [(4, 16)], 0xff20, [⟨31, 1, .rw, .i⟩, ⟨30, 1, .rw, .i⟩, ⟨16, 8, .rw, .i⟩, ⟨8, 8, .rw, .c⟩, ⟨0, 8, .rw, .c⟩]⟩,
  ⟨0xe0240, [(4, 16)], 0, [⟨31, 1, .ro, .v⟩, ⟨24, 3, .ro, .v⟩, ⟨16, 8, .ro, .v⟩, ⟨8, 8, .ro, .v⟩, ⟨0, 8, .ro, .v⟩]⟩,
  ⟨0xe0280, [(4, 16)], 0x10, [⟨0, 9, .ro, .i⟩]⟩,
  ⟨0xe02c0, [], 0, [⟨16, 16, .ro, .i⟩, ⟨0, 16, .ro, .i⟩]⟩,
  ⟨0xe02c4, [], 0, [⟨0, 16, .ro, .v⟩]⟩,
  ⟨0xe02c8, [], 0x24, [⟨0, 16, .ro, .i⟩]⟩,
  ⟨0xe0400, [(4, 256)], 0, [⟨0, 16, .ro, .i⟩]⟩,
  ⟨0xe0800, [(8, 8)], 0, [⟨0, 32, .ro, .c⟩]⟩,
  ⟨0xe0804, [(8, 8)], 0, [⟨0, 32, .ro, .c⟩]⟩,
  ⟨0xe1000, [(8, 256)], 0, [⟨0, 32, .ro, .c⟩]⟩,
  ⟨0xe1004, [(8, 256)], 0, [⟨0, 32, .ro, .c⟩]⟩,
  ⟨0xe1800, [(8, 8)], 0, [⟨0, 32, .ro, .c⟩]⟩,
  ⟨0xe1804, [(8, 8)], 0, [⟨0, 32, .ro, .c⟩]⟩,
  ⟨0xe1840, [], 0, [⟨0, 32, .ro, .c⟩]⟩,
  ⟨0xe1844, [], 0, [⟨0, 32, .ro, .c⟩]⟩,
  ⟨0xe1848, [], 0, [⟨0, 32, .ro, .c⟩]⟩,
  ⟨0xe184c, [], 0, [⟨0, 32, .ro, .c⟩]⟩]

/-- Registers from 0xf0000 up to tBase + 0x0. -/
def regRows10 : List RegRow := [
  ⟨0xf0000, [], 0, [⟨16, 16, .ro, .i⟩]⟩,
  ⟨0xf0004, [], 0, [⟨0, 20, .ro, .i⟩]⟩,
  ⟨0xf0008, [], 0x400100, [⟨31, 1, .rw, .c⟩, ⟨24, 4, .rw, .c⟩, ⟨16, 8, .rw, .c⟩, ⟨0, 16, .rw, .c⟩]⟩,
  ⟨0xf000c, [], 0, [⟨0, 32, .ro, .v⟩]⟩,
  ⟨0xf0010, [], 0, [⟨0, 32, .ro, .c⟩]⟩,
  ⟨0xf0014, [], 0, [⟨0, 32, .ro, .c⟩]⟩,
  ⟨0xf0018, [], 0, [⟨0, 32, .ro, .c⟩]⟩,
  ⟨0xf0020, [], 0x101, [⟨8, 8, .rw, .c⟩, ⟨0, 1, .rw, .c⟩]⟩,
  ⟨0xf0024, [], 0x1ff0000, [⟨16, 9, .ro, .v⟩, ⟨0, 9, .ro, .v⟩]⟩,
  ⟨0xf0040, [(4, 10)], 0, [⟨0, 32, .w1c, .v⟩]⟩,
  ⟨0xf1000, [(0x10, 320)], 0, [⟨0, 32, .ro, .v⟩]⟩,
  ⟨0xf1004, [(0x10, 320)], 0, [⟨0, 32, .ro, .v⟩]⟩,
  ⟨0xf1008, [(0x10, 320)], 0, [⟨0, 32, .ro, .v⟩]⟩,
  ⟨0xf100c, [(0x10, 320)], 0, [⟨0, 32, .ro, .v⟩]⟩,
  ⟨0xf3000, [], 0x100a4a40, [⟨24, 8, .rwl, .i⟩, ⟨16, 8, .rwl, .i⟩, ⟨12, 4, .rwl, .i⟩, ⟨10, 2, .rwl, .i⟩, ⟨9, 1, .rwl, .i⟩, ⟨0, 8, .rwl, .i⟩]⟩,
  ⟨0xf3004, [], 0xa28, [⟨8, 8, .rwl, .i⟩, ⟨0, 8, .rwl, .i⟩]⟩,
  ⟨0xf3008, [], 0x400a03, [⟨16, 16, .rwl, .i⟩, ⟨8, 8, .rwl, .i⟩, ⟨0, 4, .rwl, .i⟩]⟩,
  ⟨0xf300c, [], 0, [⟨0, 10, .ro, .v⟩]⟩,
  ⟨0xf3010, [], 0, [⟨0, 5, .wo, .v⟩]⟩,
  ⟨0xf3040, [], 0, [⟨10, 1, .w1c, .v⟩, ⟨9, 1, .w1c, .v⟩, ⟨8, 1, .w1c, .v⟩, ⟨7, 1, .w1c, .v⟩, ⟨6, 1, .w1c, .v⟩, ⟨5, 1, .w1c, .v⟩, ⟨4, 1, .w1c, .v⟩, ⟨3, 1, .w1c, .v⟩, ⟨2, 1, .w1c, .v⟩, ⟨1, 1, .w1c, .v⟩, ⟨0, 1, .w1c, .v⟩]⟩,
  ⟨0xf3044, [], 0, [⟨0, 11, .rw, .c⟩]⟩,
  ⟨0xf3080, [], 0, [⟨0, 32, .ro, .c⟩]⟩,
  ⟨0xf3084, [], 0, [⟨0, 32, .ro, .c⟩]⟩,
  ⟨0xf3088, [], 0, [⟨0, 32, .ro, .c⟩]⟩,
  ⟨0xf308c, [], 0, [⟨0, 32, .ro, .c⟩]⟩,
  ⟨0xf3090, [], 0, [⟨0, 32, .ro, .c⟩]⟩,
  ⟨0xf3094, [], 0, [⟨0, 32, .ro, .c⟩]⟩,
  ⟨0xf3098, [], 0, [⟨0, 32, .ro, .c⟩]⟩,
  ⟨0xf309c, [], 0, [⟨0, 32, .ro, .c⟩]⟩,
  ⟨0xf30a0, [], 0, [⟨0, 32, .ro, .c⟩]⟩,
  ⟨0xf30a4, [], 0, [⟨0, 32, .ro, .c⟩]⟩,
  ⟨0xf30a8, [], 0, [⟨0, 32, .ro, .c⟩]⟩,
  ⟨0xf3100, [], 0x1f, [⟨31, 1, .ro, .v⟩, ⟨9, 1, .ro, .c⟩, ⟨0, 5, .ro, .c⟩]⟩,
  ⟨0xf3104, [], 0x1f, [⟨31, 1, .ro, .v⟩, ⟨9, 1, .ro, .c⟩, ⟨0, 5, .ro, .c⟩]⟩,
  ⟨0xf3108, [], 0x1f, [⟨31, 1, .ro, .v⟩, ⟨9, 1, .ro, .c⟩, ⟨0, 5, .ro, .c⟩]⟩,
  ⟨0xf3200, [(4, 64)], 0x1f, [⟨31, 1, .ro, .v⟩, ⟨9, 1, .ro, .c⟩, ⟨0, 5, .ro, .c⟩]⟩,
  ⟨0xf3400, [(4, 32)], 0, [⟨31, 1, .ro, .c⟩, ⟨29, 2, .ro, .c⟩, ⟨28, 1, .ro, .c⟩, ⟨0, 28, .ro, .c⟩]⟩,
  ⟨0xf3800, [], 0, [⟨0, 9, .rw, .v⟩]⟩,
  ⟨0xf3804, [], 0, [⟨31, 1, .ro, .v⟩, ⟨0, 28, .ro, .v⟩]⟩,
  ⟨0xf3808, [], 0, [⟨16, 8, .ro, .v⟩, ⟨0, 16, .ro, .v⟩]⟩,
  ⟨0xf3810, [(4, 8)], 0, [⟨16, 16, .ro, .v⟩, ⟨0, 16, .ro, .v⟩]⟩,
  ⟨0xf3830, [(4, 16)], 0, [⟨0, 16, .ro, .v⟩]⟩,
  ⟨0xf4000, [], 0, [⟨4, 4, .ro, .v⟩, ⟨2, 1, .ro, .v⟩, ⟨1, 1, .ro, .v⟩, ⟨0, 1, .ro, .v⟩]⟩,
  ⟨0xf4004, [], 0x4000000e, [⟨24, 8, .rw, .v⟩, ⟨8, 1, .wo, .v⟩, ⟨0, 5, .rw, .v⟩]⟩,
  ⟨0xf4008, [], 0xfff00000, [⟨20, 12, .ro, .v⟩, ⟨0, 20, .ro, .v⟩]⟩,
  ⟨0xf400c, [], 0, [⟨8, 1, .wo, .v⟩, ⟨1, 1, .rw, .v⟩, ⟨0, 1, .rw, .v⟩]⟩,
  ⟨0xf4010, [], 0xfff, [⟨12, 12, .ro, .v⟩, ⟨0, 12, .ro, .v⟩]⟩,
  ⟨0xf4014, [], 0, [⟨0, 7, .rw, .v⟩]⟩,
  ⟨0xf4020, [], 0, [⟨8, 1, .wo, .v⟩, ⟨0, 1, .rw, .v⟩]⟩,
  ⟨0xf4040, [(4, 8)], 0x7f, [⟨31, 1, .ro, .v⟩, ⟨30, 1, .ro, .v⟩, ⟨29, 1, .ro, .v⟩, ⟨8, 6, .ro, .v⟩, ⟨0, 7, .ro, .v⟩]⟩,
  ⟨0xf4100, [(4, 63)], 0, [⟨0, 32, .ro, .v⟩]⟩]

/-- Registers from tBase + 0x0 up to tBase + 0x10000. -/
def regRows11 : List RegRow := [
  ⟨tBase + 0, [], 0x10002, [⟨16, 16, .ro, .h⟩, ⟨0, 16, .ro, .h⟩]⟩,
  ⟨tBase + 4, [], 0, [⟨2, 2, .ro, .h⟩, ⟨0, 2, .ro, .h⟩]⟩,
  ⟨tBase + 0x1010, [], 0, [⟨0, 1, .w1c, .v⟩]⟩,
  ⟨tBase + 0x1014, [], 0, [⟨0, 1, .rw, .i⟩]⟩,
  ⟨tBase + 0x1100, [(4, 19)], 0, [⟨0, 32, .rw, .i⟩]⟩,
  ⟨tBase + 0x2000, [], 0, [⟨4, 1, .ro, .v⟩, ⟨0, 4, .ro, .v⟩]⟩,
  ⟨tBase + 0x2004, [], 0, [⟨0, 16, .ro, .v⟩]⟩,
  ⟨tBase + 0x2008, [], 0, [⟨0, 32, .ro, .v⟩]⟩,
  ⟨tBase + 0x200c, [], 0, [⟨0, 32, .ro, .v⟩]⟩,
  ⟨tBase + 0x2010, [], 0, [⟨1, 1, .w1c, .v⟩, ⟨0, 1, .w1c, .v⟩]⟩,
  ⟨tBase + 0x2014, [], 0, [⟨0, 2, .rw, .i⟩]⟩,
  ⟨tBase + 0x2020, [], 0, [⟨0, 32, .ro, .v⟩]⟩,
  ⟨tBase + 0x2024, [], 0, [⟨0, 32, .ro, .v⟩]⟩,
  ⟨tBase + 0x2040, [], 0, [⟨0, 11, .rw, .v⟩]⟩,
  ⟨tBase + 0x2100, [(4, 69)], 0x2020, [⟨8, 6, .ro, .v⟩, ⟨0, 6, .ro, .v⟩]⟩,
  ⟨tBase + 0x2300, [(4, 69)], 0, [⟨0, 32, .ro, .v⟩]⟩,
  ⟨tBase + 0x4000, [], 0, [⟨16, 1, .ro, .v⟩, ⟨8, 8, .ro, .v⟩, ⟨0, 8, .ro, .v⟩]⟩,
  ⟨tBase + 0x4004, [], 0, [⟨0, 32, .ro, .v⟩]⟩,
  ⟨tBase + 0x4008, [], 1, [⟨1, 1, .wo, .v⟩, ⟨0, 1, .rw, .i⟩]⟩,
  ⟨tBase + 0x4010, [], 0, [⟨2, 1, .w1c, .v⟩, ⟨1, 1, .w1c, .v⟩, ⟨0, 1, .w1c, .v⟩]⟩,
  ⟨tBase + 0x4014, [], 0, [⟨0, 3, .rw, .i⟩]⟩,
  ⟨tBase + 0x4020, [], 0, [⟨0, 32, .ro, .v⟩]⟩,
  ⟨tBase + 0x4024, [], 0, [⟨0, 32, .ro, .v⟩]⟩,
  ⟨tBase + 0x4028, [], 0, [⟨0, 32, .ro, .v⟩]⟩,
  ⟨tBase + 0x4030, [], 0, [⟨0, 32, .ro, .v⟩]⟩,
  ⟨tBase + 0x4034, [], 0, [⟨0, 32, .ro, .v⟩]⟩,
  ⟨tBase + 0x4038, [], 0, [⟨0, 32, .ro, .v⟩]⟩,
  ⟨tBase + 0x403c, [], 0, [⟨0, 32, .ro, .v⟩]⟩,
  ⟨tBase + 0x4040, [], 0, [⟨0, 16, .ro, .v⟩]⟩,
  ⟨tBase + 0x6000, [], 0, [⟨0, 32, .ro, .v⟩]⟩,
  ⟨tBase + 0x6004, [], 0, [⟨0, 32, .ro, .v⟩]⟩,
  ⟨tBase + 0x6008, [], 0, [⟨0, 32, .ro, .v⟩]⟩,
  ⟨tBase + 0x600c, [], 0, [⟨0, 9, .ro, .v⟩]⟩,
  ⟨tBase + 0x6010, [(4, 4)], 0, [⟨0, 32, .ro, .v⟩]⟩,
  ⟨tBase + 0x6020, [], 0, [⟨0, 4, .ro, .v⟩]⟩,
  ⟨tBase + 0x6030, [], 0, [⟨0, 32, .ro, .v⟩]⟩,
  ⟨tBase + 0x8000, [], 0, [⟨4, 4, .ro, .v⟩, ⟨2, 1, .ro, .v⟩, ⟨1, 1, .ro, .v⟩, ⟨0, 1, .ro, .v⟩]⟩,
  ⟨tBase + 0x800c, [], 0, [⟨8, 1, .wo, .v⟩, ⟨1, 1, .rw, .v⟩, ⟨0, 1, .rw, .v⟩]⟩,
  ⟨tBase + 0x8010, [], 0xfff, [⟨12, 12, .ro, .v⟩, ⟨0, 12, .ro, .v⟩]⟩,
  ⟨tBase + 0x8014, [], 0, [⟨0, 7, .rw, .v⟩]⟩,
  ⟨tBase + 0x8020, [], 0, [⟨8, 1, .wo, .v⟩]⟩,
  ⟨tBase + 0x8040, [(4, 2)], 0x7f, [⟨31, 1, .ro, .v⟩, ⟨30, 1, .ro, .v⟩, ⟨29, 1, .ro, .v⟩, ⟨8, 6, .ro, .v⟩, ⟨0, 7, .ro, .v⟩]⟩,
  ⟨tBase + 0x8100, [(4, 63)], 0, [⟨0, 32, .ro, .v⟩]⟩]

/-- Every assigned register of the two register spaces. -/
def regRows : List RegRow :=
  regRows0 ++ regRows1 ++ regRows2 ++ regRows3 ++ regRows4 ++ regRows5 ++ regRows6 ++ regRows7 ++ regRows8 ++ regRows9 ++ regRows10 ++ regRows11

/-- The rows among which a key's row is found. -/
def regRegion (key : Nat) : List RegRow :=
  if key < 0x3000 then regRows0
  else if key < 0x8000 then regRows1
  else if key < 0x10000 then regRows2
  else if key < 0x20000 then regRows3
  else if key < 0x40000 then regRows4
  else if key < 0x90000 then regRows5
  else if key < 0xa0000 then regRows6
  else if key < 0xb0000 then regRows7
  else if key < 0xe0000 then regRows8
  else if key < 0xf0000 then regRows9
  else if key < tBase then regRows10
  else if key < tBase + 0x10000 then regRows11
  else []

/-- Whether a window's indices reach an offset from its base. -/
def dimsReach : List (Nat × Nat) → Nat → Bool
  | [], o => o == 0
  | (stride, count) :: ds, o => o / stride < count && dimsReach ds (o % stride)

/-- Whether a row holds the register at a key. -/
def RegRow.covers (r : RegRow) (key : Nat) : Bool := r.base ≤ key && dimsReach r.dims (key - r.base)

/-- The row of an assigned key; none for an unassigned one (R21). -/
def regRow (key : Nat) : Option RegRow := (regRegion key).find? fun r => r.covers key

/-- The bits of a row's fields that satisfy a test, as a mask. -/
def RegRow.mask (r : RegRow) (p : FldRow → Bool) : Nat :=
  r.flds.foldl (fun m f => if p f then m ||| ((2 ^ f.w - 1) <<< f.lo) else m) 0

/-- The registers named _LO whose _HI register follows them (R467), with their windows. -/
def loRows : List (Nat × List (Nat × Nat)) := [
  (0x10234, [(1024, 64)]),
  (0x20010, [(8, 4)]),
  (0x20030, []),
  (0x80010, []),
  (0x90014, []),
  (0x90020, []),
  (0x90044, []),
  (0x90050, []),
  (0xa0008, []),
  (0xa0024, []),
  (0xb1018, [(32, 256)]),
  (0xb3808, []),
  (0xb3828, []),
  (0xb3900, [(8, 16)]),
  (0xc0000, [(8, 16384)]),
  (0xe0014, []),
  (0x3028, []),
  (0x3030, []),
  (0xf0000, []),
  (0xe0800, [(8, 8)]),
  (0xe1000, [(8, 256)]),
  (0xe1800, [(8, 8)]),
  (0xe1840, []),
  (0xe1848, [])]

/-- A register is the _LO of a pair. -/
def isLo (key : Nat) : Bool := loRows.any fun (e : Nat × List (Nat × Nat)) => decide (e.1 ≤ key) && dimsReach e.2 (key - e.1)

end Sys2Proof.Machine
end

