-- ==== Sys2Proof/Machine/TestTypes.lean ====
section
/-!
DEFINITION. The state of test and factory calibration that no register shows (chapter 17 of spec/).
-/
namespace Sys2Proof.Machine

/-- The TAP of one half (R452 to R454): instruction register; die configuration register; die wrapper register as last
loaded and as last captured; whether EXTEST drives it; the data register of REGACC and its STS. -/
structure TapSt where
  ir : Nat
  sconfig : Nat
  dwr : Nat
  captured : Nat
  extest : Bool
  regData : Nat
  regSts : Nat
  deriving DecidableEq, Repr

def TapSt.reset : TapSt := { ir := 1, sconfig := 0, dwr := 0, captured := 0, extest := false, regData := 0, regSts := 0 }

/-- What a half is running (R451, R455, R458). -/
inductive TestRun where
  | none_ | loopback | mbist | calibration
  deriving DecidableEq, Repr

/-- The two TAPs; the test under way in each half; calibration in Kalvon-B: the start count of the CAL last sent, CALs
sent, whether the last was answered; in Kalvon-T: start, DWELL and HMIN of the CAL taken, until the sweep ends. -/
structure TestSt where
  tapB : TapSt
  tapT : TapSt
  runB : TestRun
  runT : TestRun
  calS : Nat
  calTries : Nat
  calAcked : Bool
  calT : Option (Nat × Nat × Nat)
  deriving DecidableEq, Repr

def TestSt.reset : TestSt :=
  { tapB := TapSt.reset, tapT := TapSt.reset, runB := .none_, runT := .none_, calS := 0, calTries := 0, calAcked := false, calT := none }

end Sys2Proof.Machine
end

