-- ==== Sys2Proof/Machine/TimeTypes.lean ====
section
/-!
DEFINITION. The state of fabric time that no register shows (chapter 09 of spec/). F is a number in units of
2^-40 au (R255).
-/
namespace Sys2Proof.Machine

/-- A correction (R265): SEQ, STALE, STEP, F0, INC, the period after the marker and its C_eff. -/
structure Corr where
  seq : Nat
  stale : Bool
  step : Bool
  f0 : Nat
  inc : Nat
  period : Nat
  ceff : Nat
  deriving DecidableEq, Repr

/-- An exchange of a leader (R263, R264): SEQ, whether TT_CYC was asked for, F at t1 once the request has left, the
number of its flit, whether that flit was replayed; the stamps t2, t3 and F at t4 while TT_CYC is awaited. -/
structure Exchange where
  seq : Nat
  full : Bool
  t1 : Option Nat
  flit : Nat
  replayed : Bool
  got : Option (Nat × Nat × Nat)
  deriving DecidableEq, Repr

/-- Fabric time: the low 24 bits of F; whether a marker has been taken; F at the last marker, and the KCLK of the
last marker by the schedule; misses in a row; off-schedule markers in a row at one place, with the KCLK of the last; the
correction held for the next marker; the newest correction that this device has sent; the first half of a correction by link; the SEQ of the newest correction; past
the freeze point; exchanges under way, the next SEQ and the answers given, as link, SEQ and F at t3; samples since the send
point in units of F; the KCLK of the last good send point; good send points; send points in a row above 1,000 ns; accepted
round trips with their KCLK; whether a step of this leader is on its way; a pending period and its C_eff, the C_eff
of the period in force; HOLDMAX reached; STALE of the last correction applied; start from KB_TIM_SET at the next
marker; whether a sample was accepted since the first marker. -/
structure TimeSt where
  fracLo : Nat
  taken : Bool
  f0 : Nat
  marker : Nat
  missed : Nat
  cand : Option (Nat × Nat)
  held : Option Corr
  own : Option Corr
  half : List (Nat × Corr)
  lastSeq : Option Nat
  frozen : Bool
  tt : List Exchange
  ttSeq : Nat
  t3 : List (Nat × Nat × Nat)
  samples : List Int
  lastGood : Nat
  good : Nat
  big : Nat
  rtts : List (Nat × Nat)
  stepDue : Bool
  pchg : Option (Nat × Nat)
  ceff : Nat
  holdStale : Bool
  corrStale : Bool
  startSet : Bool
  sampled : Bool
  deriving DecidableEq, Repr

def TimeSt.reset : TimeSt :=
  { fracLo := 0, taken := false, f0 := 0, marker := 0, missed := 0, cand := none, held := none, own := none, half := [], lastSeq := none,
    frozen := false, tt := [], ttSeq := 0, t3 := [], samples := [], lastGood := 0, good := 0, big := 0, rtts := [], stepDue := false,
    pchg := none, ceff := 0, holdStale := false, corrStale := false, startSet := false, sampled := false }

end Sys2Proof.Machine
end

