-- ==== Sys2Proof/Machine/State.lean ====
section
/-!
DEFINITION. The state of the block: both halves, as plain data, with the queue of commands that wait; the state
after reset; the reasons a command can stop. Registers sit in one sparse store (Fields.lean names every field);
what no register shows sits in one structure for each subsystem.
-/
namespace Sys2Proof.Machine

/-- Why the machine stops. -/
inductive Fault where
  /-- A command names a link at or above the build's link count (R8): the block has no such link, so the event
  cannot happen. Raised by the meanings of the link commands. Safe. -/
  | noSuchLink
  /-- A command names a wire group at or above the build's group count (R6). Raised by the meanings of the bond
  field commands. Safe. -/
  | noSuchGroup
  deriving DecidableEq, Repr

/-- Why a command has no meaning. -/
inductive Refusal where
  /-- The command has no meaning in the model. Raised by Dispatch.lean alone. Safe. -/
  | notModelled (mnemonic : String)
  deriving DecidableEq, Repr

/-- Pins and pulses that no register shows: b_rst_req_n_o (R74) and b_trip_n_o (R75); the engines' _rst_n_o
(R61); a trigger on the launch port (R53); the pulse with a new operating point; the interrupt
sources asserted in Kalvon-T's view, bit by source, from which t_irq_o follows (R419); the acknowledge, data and error of the register ports (R54). -/
structure Pins where
  rstReqN : Bool
  tripN : Bool
  oemRstN : Bool
  lchValid : Bool
  lchTrig : Nat
  pacOppChg : Bool
  irq : Nat
  bAck : Bool
  bRdata : Nat
  bErr : Bool
  tAck : Bool
  tRdata : Nat
  tErr : Bool
  deriving DecidableEq, Repr

/-- The outputs' values while porst_n is low (R49, R53); the always-on outputs at VDD_AON power-on. -/
def Pins.reset : Pins :=
  { rstReqN := true, tripN := true, oemRstN := false, lchValid := false, lchTrig := 0, pacOppChg := false, irq := 0,
    bAck := false, bRdata := 0, bErr := false, tAck := false, tRdata := 0, tErr := false }

/-- The state of the block. -/
structure State where
  /-- commands that wait, first in, first out -/
  pending : List Instr
  /-- bond tiles of the build: 4, 8 or 16 (R6) -/
  tiles : Nat
  /-- links of the build: 16, 32 or 64 (R7) -/
  links : Nat
  /-- free values drawn so far (Config.freeValue) -/
  draws : Nat
  /-- b_porst_n_i is low -/
  bReset : Bool
  /-- t_porst_n_i is low -/
  tReset : Bool
  /-- Kalvon-B's KCLK count -/
  kclk : Nat
  /-- Kalvon-T's KCLK count -/
  tclk : Nat
  /-- Kalvon-B holds all traffic for a reason that lasts until the next full reset (R71, R98, R104, R136, R374) -/
  hold : Bool
  /-- Kalvon-T holds all traffic (R27, R104) -/
  tHold : Bool
  /-- boot step 6 has raised the port-ready bits (R27, R373) -/
  portsUp : Bool
  /-- every register of both halves -/
  regs : Sparse Word
  /-- Caddy: the class C words (R389), by register key -/
  caddy : Sparse Word
  /-- Caddy's header (R390) -/
  hdr : CaddyHdr
  /-- no Caddy write until the next full reset (R71) -/
  caddyShut : Bool
  /-- the words latched by reads of _LO registers, by 2^40·source + key of the _HI register (R467, R324) -/
  latches : Sparse Word
  pins : Pins
  boot : BootSt
  mgmt : MgmtSt
  bond : BondSt
  xing : XingSt
  /-- the links, by number -/
  lnk : Sparse LinkSt
  route : RouteSt
  dlv : DlvSt
  time : TimeSt
  pace : PaceSt
  pour : PourSt
  blend : BlendSt
  /-- collective programs, by number -/
  prog : Sparse ProgX
  /-- tracker entries in use, in order of allocation (R435) -/
  track : List Nat
  /-- check bits and bank retirement -/
  ecc : EccSt
  test : TestSt
  deriving DecidableEq, Repr

/-- What a register that nothing has written holds: its word of the register map at reset (R463, R469), the
windows whose words differ by index (R183, R428), and the homes of selected registers (R110). -/
def regReset (key : Nat) : Word :=
  if 0x2000000 ≤ key ∧ key < 0x6000000 then
    let off := key % 0x1000
    if 0x100 ≤ off ∧ off < 0x218 then 0x2020 else if off = 0x4c ∧ key < 0x4000000 then 0x7F7F7F7F else 0
  else if 0x4000 ≤ key ∧ key < 0x4040 then
    [0x55550200, 0x55555555, 0x55555555, 0x55555555, 0x55555555, 0x55555555, 0x55555555, 0x55555555, 0x55555555, 0x1, 0x1,
      0x55555555, 0x55555555, 0x55555555, 0, 0].getD ((key - 0x4000) / 4) 0
  else if 0x10000 ≤ key ∧ key < 0x20000 ∧ 0x120 ≤ key % 0x400 ∧ key % 0x400 < 0x140 then
    [0x400, 0x400, 0x200, 0x1000, 0xA00, 0x100, 0x100, 0x200].getD ((key % 0x400 - 0x120) / 4) 0
  else if 0x10000 ≤ key ∧ key < 0x20000 ∧ 0x140 ≤ key % 0x400 ∧ key % 0x400 < 0x160 then
    [0x100, 0x100, 0x100, 0x200, 0x200, 0x40, 0x40, 0x40].getD ((key % 0x400 - 0x140) / 4) 0
  else
    match regRow key with
    | some r => BitVec.ofNat 32 r.reset
    | none => 0

/-- A retained word that nothing has written. -/
def caddyReset (_ : Nat) : Word := 0

/-- The machine after a power-on of VDD_AON and the release of porst_n that follows: every register at the word
of the register map, KB_GLB_RSTCAUSE with AONPOR (R375), boot at step 1 (R373), Caddy blank, nothing waiting. -/
def State.reset : State :=
  { pending := [], tiles := 16, links := 64, draws := 1, bReset := false, tReset := false, kclk := 0, tclk := 0, hold := false,
    tHold := false, portsUp := false, regs := [(0x1100, 1)], caddy := [], hdr := CaddyHdr.blank, caddyShut := false,
    latches := [], pins := Pins.reset, boot := BootSt.reset, mgmt := MgmtSt.reset 0, bond := BondSt.reset, xing := XingSt.reset,
    lnk := [], route := RouteSt.reset, dlv := DlvSt.reset, time := TimeSt.reset, pace := PaceSt.reset, pour := PourSt.reset, blend := BlendSt.reset, prog := [], track := [], ecc := EccSt.reset,
    test := TestSt.reset }

end Sys2Proof.Machine
end

