-- ==== Sys2Proof/Machine/Ops.lean ====
section
/-!
DEFINITION. The operations every subsystem shares: reading and writing a field of a register, with Caddy behind
the retained fields; raising an event with its counter, interrupt, log record and alarm; the lapse ring; requests
for a full reset; holding all traffic; sending across the bond field.
-/
namespace Sys2Proof.Machine

/-! ## Registers -/

/-- The word a register holds. -/
def State.word (s : State) (key : Nat) : Word := Sparse.get regReset s.regs key

/-- The value of a field. -/
def State.rd (s : State) (f : Fld) : Nat := bits (s.word f.key).toNat f.lo f.w

/-- Whether a one-bit field is 1. -/
def State.on (s : State) (f : Fld) : Bool := s.rd f != 0

/-- A register word replaced. -/
def State.setWord (s : State) (key : Nat) (v : Word) : State :=
  { s with regs := Sparse.set regReset s.regs key v }

/-- The word Caddy retains for a register. -/
def State.cword (s : State) (key : Nat) : Word := Sparse.get caddyReset s.caddy key

/-- Caddy can be written: it is not shut (R71), and no main rail is below its warning level (R391). -/
def State.caddyOpen (s : State) : Bool := !s.caddyShut && s.boot.warn % 4 == 0

/-- A Caddy word replaced; while the write fence is closed nothing is written. -/
def State.setCword (s : State) (key : Nat) (v : Word) : State :=
  if !s.caddyOpen then s else { s with caddy := Sparse.set caddyReset s.caddy key v }

/-- Class C has been restored: KB_CDY_STATUS.SRC is not 3 (R402). -/
def State.restored (s : State) : Bool := s.rd CDY_STATUS_SRC != 3

/-- A field of a word replaced. -/
def putField (x : Word) (lo w v : Nat) : Word := BitVec.ofNat 32 (setBits x.toNat lo w v)

/-- A write to the settings words or the fence table asks for a journal snapshot (R398). -/
def State.wantSnap (s : State) (key : Nat) : State :=
  if key < 0x10000000 then { s with boot := { s.boot with snapWanted := true } } else s

/-- A field written. A retained field is its Caddy word (R389), from the restore on. -/
def State.wr (s : State) (f : Fld) (v : Nat) : State :=
  let s1 := s.setWord f.key (putField (s.word f.key) f.lo f.w v)
  if f.ret && s.restored then (s1.setCword f.key (putField (s.cword f.key) f.lo f.w v)).wantSnap f.key else s1

/-- The bits of a register that hold fields of a restore class. -/
def clsMask (key : Nat) (k : Cls) : Nat :=
  match regRow key with
  | some r => r.mask fun f => decide (f.cls = k)
  | none => 0

/-- The retained bits of a register by its home: the class-C fields, and the homes of flows and log entries. -/
def retMask (key : Nat) : Nat :=
  if 0x10000000 ≤ key ∧ key < 0x10100000 then (if key % 0x20 = 4 then 0xCFFFFFFF else 0)
  else if 0x10100000 ≤ key ∧ key < 0x10120000 then (if key % 0x20 = 4 ∨ key % 0x20 = 8 then 0xFFFFFFFF else 0)
  else if 0x800000 ≤ key then 0
  else clsMask key .c

/-- Caddy takes the class-C fields that changed while its write fence was closed: the writes that waited complete (R391). -/
def State.caddyCatchUp (s : State) : State :=
  if !s.caddyOpen || !s.restored then s
  else
    let keys := (s.caddy.map fun (e : Nat × Word) => e.1) ++ ((s.regs.filter fun (e : Nat × Word) => retMask e.1 != 0).map fun (e : Nat × Word) => e.1)
    keys.foldl (fun (s : State) k => s.setCword k (BitVec.ofNat 32 ((s.word k).toNat &&& retMask k))) s

/-- A 64-bit value held in two words (R467). -/
def State.rd2 (s : State) (lo hi : Fld) : Nat := s.rd lo + s.rd hi <<< 32

def State.wr2 (s : State) (lo hi : Fld) (v : Nat) : State := (s.wr lo (v % 2 ^ 32)).wr hi (v >>> 32)

/-- A counter that hardware increases; it wraps at its width. A retained counter is counted in Caddy too, before
the restore as well, so that no count is lost (assumption 9). -/
def State.count (s : State) (f : Fld) (k : Nat := 1) : State :=
  let s1 := s.setWord f.key (putField (s.word f.key) f.lo f.w (s.rd f + k))
  if f.ret then s1.setCword f.key (putField (s.cword f.key) f.lo f.w (bits (s.cword f.key).toNat f.lo f.w + k)) else s1

/-- A field kept at its greatest value instead of wrapping. -/
def State.countSat (s : State) (f : Fld) (k : Nat := 1) : State := s.wr f (clampTop (2 ^ f.w - 1) (s.rd f + k))

/-- A 64-bit retained counter (R371). -/
def State.count2 (s : State) (lo hi : Fld) (k : Nat) : State :=
  let s1 := (s.setWord lo.key (BitVec.ofNat 32 (s.rd2 lo hi + k))).setWord hi.key (BitVec.ofNat 32 ((s.rd2 lo hi + k) >>> 32))
  let c := (s.cword lo.key).toNat + (s.cword hi.key).toNat <<< 32 + k
  (s1.setCword lo.key (BitVec.ofNat 32 c)).setCword hi.key (BitVec.ofNat 32 (c >>> 32))

/-! ## The build -/

/-- Groups of both directions (R6). -/
def State.groups (s : State) : Nat := 128 * s.tiles

/-- Spare wires of a group (R6). -/
def State.spares (s : State) : Nat := if s.tiles = 4 then 2 else if s.tiles = 8 then 3 else 4

/-- KB_ID_BUILD, which KT_ID_BUILD repeats (R9). -/
def State.buildWord (s : State) : Nat :=
  (if s.links = 16 then 0 else if s.links = 32 then 4 else 8) + (if s.tiles = 4 then 0 else if s.tiles = 8 then 1 else 2)

/-! ## The base fabric port (R29, R56) -/

/-- The channel pairs that carry memory traffic, ascending: those of the image's assignment; at least one carries memory traffic, and at
least one is left for retention. -/
def memPairList : List Nat :=
  let ps := (List.range 16).filter fun c => bitAt Config.memMask c
  if ps.isEmpty then [0] else ps.take 15

/-- The channel pairs that carry retention traffic, ascending (R29). -/
def retPairList : List Nat := (List.range 16).filter fun c => !memPairList.contains c

/-! ## Fabric time -/

/-- The fabric cycle of the running count (R255). -/
def State.cycle (s : State) : Nat := s.rd TIM_CYC_LO + s.rd TIM_CYC_HI_CYCLE <<< 32

/-- The angle of the running count (R255). -/
def State.angle (s : State) : Nat := s.rd TIM_ANGLE_ANGLE

/-- Incarnation number (R394). -/
def State.inc (s : State) : Nat := s.rd CDY_INC_INC

/-- This device's Fabric Node Address (R198). -/
def State.fna (s : State) : Nat := s.rd RTE_SELF_FNA

/-! ## Traffic held -/

/-- Kalvon-B holds all traffic: for a reason that lasts until a full reset, while the boot is stopped (R374), or
behind the side-band's TRAFFIC fence once boot has reached ready (R416). -/
def State.held (s : State) : Bool :=
  s.hold || s.on IMG_BOOT_STOP || (s.on GLB_FENCE_TRAFFIC && s.on IMG_BOOT_READY)

/-- The ready bits of the client, tensor stream, launch and pace ports (R27, R50); the TRAFFIC fence keeps them down during
boot too (R416). -/
def State.portsReady (s : State) : Bool := s.portsUp && !s.tHold && !s.held && !s.tReset && !s.on GLB_FENCE_TRAFFIC && !s.on KT_TST_STATUS_TMODE

/-- The permit of a domain on t_pac_permit_o; 0 while the pace port is not ready (R50). -/
def State.permitPin (s : State) (d : Nat) : Nat :=
  if s.portsReady then bits (s.word (KT_LNP_PERMIT (d / 4)).key).toNat (8 * (d % 4)) 8 else 0

/-- The index on t_pac_opp_o; 0 while the pace port is not ready (R50). -/
def State.oppPin (s : State) : Nat := if s.portsReady then s.rd KT_LNP_OPP_OPP else 0

/-- t_pac_opp_chg_o pulses when the pace port shows a new index on t_pac_opp_o (R53). -/
def State.oppPulse (s : State) (was : Nat) : State :=
  if s.portsReady && s.oppPin != was then { s with pins := { s.pins with pacOppChg := true } } else s

/-! ## Sending across the bond field -/

/-- A message handed to the crossing by Kalvon-B. -/
def State.sendT (s : State) (cls : Nat) (m : XMsg) : State :=
  { s with bond := { s.bond with xBT := s.bond.xBT ++ [.msg cls m] } }

/-- A message handed to the crossing by Kalvon-T. -/
def State.sendB (s : State) (cls : Nat) (m : XMsg) : State :=
  { s with bond := { s.bond with xTB := s.bond.xTB ++ [.msg cls m] } }

/-- A link control frame from Kalvon-B (R99): the body holds bytes 2 upward. -/
def State.ctlToT (s : State) (ty body : Nat) : State :=
  { s with bond := { s.bond with xBT := s.bond.xBT ++ [.ctrl ty (BitVec.ofNat 1008 body)] } }

/-- A link control frame from Kalvon-T (R99). -/
def State.ctlToB (s : State) (ty body : Nat) : State :=
  { s with bond := { s.bond with xTB := s.bond.xTB ++ [.ctrl ty (BitVec.ofNat 1008 body)] } }

/-- A message without data units: the fields of its header (R113). -/
def mkMsg (fs : List (Nat × Nat × Nat)) : XMsg := { hdr := BitVec.ofNat 128 (pack fs), data := [] }

/-- MSI: source and assertion (R117). -/
def msgMsi (vec : Nat) (a : Bool) : XMsg := mkMsg [(0, 8, 0x48), (8, 12, vec), (20, 1, b2n a)]

/-! ## The log and the alarms (R421 to R426) -/

/-- The fields of a record made now (R426). -/
def State.newRecord (s : State) (src kind b6 b7 arg : Nat) : LogRec :=
  { rseq := s.rd TEL_LSEQ, src := src, kind := kind, b6 := b6 % 256, b7 := b7, arg := arg % 2 ^ 32,
    cyc := s.cycle, ang := s.angle, inc := s.inc }

/-- A record put in the queue: it takes a token and the next SEQ. The ARG of an event and of a trace record is
given nowhere: it is a free value (assumption 3). -/
def State.enqueue (s : State) (src kind b6 b7 arg : Nat) : State :=
  let free := decide (kind ≤ 1)
  let r := s.newRecord src kind b6 b7 (if free then Config.freeValue s.draws else arg)
  ({ s with mgmt := { s.mgmt with logQ := s.mgmt.logQ ++ [r], bucket := s.mgmt.bucket - 1 }, draws := s.draws + b2n free }).count TEL_LSEQ

/-- A record offered to the log: admitted while the queue holds fewer than 256 records and the bucket at least
one token; otherwise counted as dropped (R423). Nothing is written or counted while EN = 0 (R425). The result
says whether it was dropped. A record stays in the queue until the base die answers its write (assumption 12). -/
def State.logPut (s : State) (src kind b6 b7 arg : Nat) : State × Bool :=
  if s.on TEL_LCTL_EN then
    if s.mgmt.logQ.length < 256 && 1 ≤ s.mgmt.bucket then (s.enqueue src kind b6 b7 arg, false)
    else (s.count TEL_LDROP, true)
  else (s, false)

/-- A trace record of a kind (R424), with the source number of the function that makes it: admitted while the queue
holds fewer than 64 records and the bucket is at least half full (R423). -/
def State.trace (s : State) (src kind : Nat) : State :=
  if s.on TEL_LCTL_EN && bitAt (s.rd TEL_LCTL_TSRC) kind then
    if s.mgmt.logQ.length < 64 && 16 * max 1 (s.rd TEL_LCTL_LBURST) ≤ 2 * s.mgmt.bucket && 1 ≤ s.mgmt.bucket then s.enqueue src 1 kind 0 0
    else s.count TEL_TDROP
  else s

/-- Alarm entries pending, counted upward. -/
def State.alarmsPending (s : State) : List Nat :=
  (List.range 320).filter fun e => bitAt (s.word (TEL_APEND (e / 32)).key).toNat (e % 32)

/-- ALARM_NOTE to the controller that last set the endpoint ID (R414). A note goes out at most once per NMIN ms;
an alarm in between is covered by the next note. -/
def State.alarmNote (s : State) : State :=
  if s.on TEL_ACTL_NOTIFY then
    if s.mgmt.noteGap then { s with mgmt := { s.mgmt with noteOwed := true } }
    else
      match s.mgmt.ctrlEid with
      | none => s
      | some e =>
        let p := s.alarmsPending
        let m : MctpOut := { eid := e, cmd := 0x80, code := none, body := bytesOf 2 p.length ++ bytesOf 2 (p.headD 0x1FF) }
        { s with mgmt := { s.mgmt with out := s.mgmt.out ++ [m], noteGap := true, i3c := { s.mgmt.i3c with ibi := s.mgmt.i3c.ibi || s.mgmt.i3c.ibiEn } } }
  else s

/-- The update of an alarm entry (R422), without its log record. -/
def State.alarmEntry (s : State) (e arg : Nat) : State :=
  let pend := bitAt (s.word (TEL_APEND (e / 32)).key).toNat (e % 32)
  let s1 := ((s.count (TEL_ACOUNT e)).wr (TEL_AARG e) arg).wr (TEL_ALAST e) (s.cycle % 2 ^ 32)
  if pend then s1
  else (((s1.wr (TEL_AFIRST e) (s.cycle % 2 ^ 32)).wr ⟨(TEL_APEND (e / 32)).key, e % 32, 1, false⟩ 1)).alarmNote

/-- An alarm: the entry's update and one log record of KIND 3 (R421, R426). A record dropped for want of room
raises entry 27; the record of that alarm, if dropped too, only counts (assumption 13). -/
def State.alarm (s : State) (src e arg : Nat) : State :=
  let (s1, dropped) := (s.alarmEntry e arg).logPut src 3 (e % 256) (e / 256) arg
  if dropped then
    let s2 := s1.alarmEntry 27 (s1.rd TEL_LDROP)
    (s2.logPut 0 3 27 0 (s2.rd TEL_LDROP)).1
  else s1

/-- A log record that is not an alarm's, with the alarm of a drop (R422 entry 27). -/
def State.log (s : State) (src kind b6 arg : Nat) : State :=
  let (s1, dropped) := s.logPut src kind b6 0 arg
  if dropped then s1.alarm 0 27 (s1.rd TEL_LDROP) else s1

/-- The alarm entry of an event and what its ARG is when the raiser gives none (R422, R447). -/
def State.alarmOf (s : State) (src bit : Nat) : Option (Nat × Nat) :=
  if src = 0 then (if bit = 4 then some (0, 0) else if bit = 3 then some (1, 0) else if bit = 6 then some (2, 0) else if bit = 5 then some (3, 0) else none)
  else if src = 1 then (if bit = 2 then some (4, s.rd BND_PEER_VER) else none)
  else if src = 2 then (if bit = 7 then some (5, 0) else if bit = 6 then some (6, 0) else if bit = 9 then some (7, 0) else none)
  else if src = 3 then (if bit = 5 then some (8, 0) else if bit = 3 then some (9, 0) else none)
  else if src = 4 then
    (if bit = 4 then some (11, s.rd TIM_OFFSET) else if bit = 12 then some (12, 0) else if bit = 11 then some (13, 0) else none)
  else if src = 8 then
    (if bit = 1 then some (14, (s.word PAC_STATUS_CEIL.key).toNat) else if bit = 0 then some (15, (s.word PAC_STATUS_CEIL.key).toNat)
     else if bit = 3 then some (16, (s.word PAC_STATUS_CEIL.key).toNat) else if bit = 2 then some (17, (s.word PAC_SAG_HOLD.key).toNat)
     else if bit = 4 then some (18, (s.word PAC_STATUS_CEIL.key).toNat) else none)
  else if src = 6 then (if bit = 8 then some (19, 0) else if bit = 10 then some (20, 0) else none)
  else if src = 9 then (if bit = 6 then some (21, 0) else if bit = 3 then some (22, 0) else if bit = 2 then some (23, 0) else none)
  else if src = 10 then
    (if bit = 1 then some (24, (s.word IMG_SLOT_STA.key).toNat) else if bit = 2 then some (25, (s.word IMG_SLOT_STA.key).toNat)
     else if bit = 3 then some (26, (s.word IMG_SLOT_STA.key).toNat) else none)
  else if src = 12 then
    (if bit = 0 then some (32, 0) else if bit = 2 then some (33, 0) else if bit = 3 then some (34, 0) else if bit = 4 then some (35, 0)
     else if bit = 5 then some (36, 0) else if bit = 6 then some (37, 0) else if bit = 7 then some (38, 0) else if bit = 8 then some (39, 0)
     else if bit = 9 then some (40, 0) else if bit = 10 then some (41, 0) else none)
  else if 16 ≤ src ∧ src < 80 then
    let n := src - 16
    (if bit = 1 then some (64 + 4 * n, (s.word (LNK_OBS_FNA n).key).toNat) else if bit = 2 then some (65 + 4 * n, (s.word (LNK_HLPL_NEG n).key).toNat)
     else if bit = 3 then some (66 + 4 * n, (s.word (LNK_HLPL_NEG n).key).toNat) else if bit = 9 then some (67 + 4 * n, 0) else none)
  else none

/-! ## Events and interrupts (R19, R418 to R420) -/

/-- A source is asserted while (EVT AND IEN) is not 0 (R418); the enables sit 4 bytes above the flags. -/
def State.asserted (s : State) (key : Nat) : Bool := (s.word key &&& s.word (key + 4)) != 0

/-- The line to which KT_CTL_IMAP maps a source. -/
def State.mapLine (s : State) (src : Nat) : Nat := bits (s.word (KT_CTL_IMAP (src / 8)).key).toNat (4 * (src % 8)) 4

/-- t_irq_o[l] is high while any source that KT_CTL_IMAP maps to line l is asserted (R419). -/
def State.irqLine (s : State) (l : Nat) : Bool :=
  (List.range 147).any fun src => bitAt s.pins.irq src && s.mapLine src = l

/-- One of KB_GLB_ISRC's bits asks for an IBI: the source's KB_GLB_SBIEN bit is set (R419). -/
def State.sbWants (s : State) (src : Nat) : Bool := bitAt (s.word (GLB_SBIEN (src / 32)).key).toNat (src % 32)

/-- What follows from a change of a Kalvon-B source's assertion: MSI, and an IBI if the side-band asked (R419).
A change of one of Kalvon-T's own sources moves its line at once. -/
def State.onSource (s : State) (src key : Nat) (before : Bool) : State :=
  let now := s.asserted key
  if before = now then s
  else if src < 144 then
    let s1 := s.sendT 3 (msgMsi src now)
    if now && s.sbWants src then { s1 with mgmt := { s1.mgmt with i3c := { s1.mgmt.i3c with ibi := s1.mgmt.i3c.ibi || s1.mgmt.i3c.ibiEn } } } else s1
  else { s with pins := { s.pins with irq := setBits s.pins.irq src 1 (b2n now) } }

/-- Hardware sets an event flag in this KCLK (R19). -/
def State.noteSet (s : State) (e : Ev) : State := { s with mgmt := { s.mgmt with fresh := s.mgmt.fresh ++ [(e.key, e.bit)] } }

/-- A hardware set of an event bit (R19): the counter, the flag, which no write clears in this KCLK, the interrupt, the log record (R421), and the
alarm of the event if it has one, with `arg` in place of the entry's own ARG. -/
def State.raise (s : State) (e : Ev) (arg : Option Nat := none) : State :=
  let before := s.asserted e.key
  let s1 := (((s.noteSet e).count e.cnt).setWord e.key (putField (s.word e.key) e.bit 1 1)).onSource e.src e.key before
  if e.src < 144 then
    let s2 := s1.log e.src 0 e.bit 0
    match s2.alarmOf e.src e.bit with
    | some (a, d) => s2.alarm e.src a (arg.getD d)
    | none => s2
  else s1

/-- A write of a register from a source of a later place in R406's order has been applied in this KCLK. -/
def State.outranked (s : State) (h rank : Nat) : Bool := s.mgmt.written.any fun e => e.1 == h && decide (rank < e.2)

/-- A write of a register from a source of place `rank` is noted (R406). -/
def State.noteWrite (s : State) (h rank : Nat) : State := { s with mgmt := { s.mgmt with written := s.mgmt.written ++ [(h, rank)] } }

/-- The event is raised if a condition holds. -/
def State.raiseIf (s : State) (b : Bool) (e : Ev) (arg : Option Nat := none) : State := if b then s.raise e arg else s

/-! ## Lapses (R248 to R250) -/

/-- A lapse: what its record says besides the time. `b8` is bytes 8 and 9, `w12` bytes 12 to 15; `inst` is the
instant of bytes 16 to 23 as cycle and angle. -/
structure Lapse where
  part : Nat
  rank : Nat
  cause : Nat
  flags : Nat
  fna : Nat
  b8 : Nat
  w12 : Nat
  inst : Nat × Nat
  deriving DecidableEq, Repr

/-- Word i of lapse record j of the ring. -/
def State.lapseWord (s : State) (j i : Nat) : Nat := (s.word (DLV_LAPSE_REC (j % 1024) i).key).toNat

/-- A lapse recorded (R250): counted always; coalesced into the newest unread record of the same lapse, or
written to the ring, or counted as an overflow. -/
def State.lapse (s : State) (l : Lapse) : State :=
  let s1 := s.count (DLV_LAPSE_CNT (l.part % 256) ((l.rank - 1) % 4))
  let w := s1.rd DLV_LAPSE_PTR_WPTR
  let r := s1.rd DLV_LAPSE_PTR_RPTR
  let used := (w + 2048 - r) % 2048
  let w0 := pack [(0, 8, l.part), (8, 8, l.rank), (16, 8, l.cause), (24, 8, l.flags)]
  let j := (w + 2047) % 2048
  let c := s1.lapseWord j 2
  if used ≠ 0 ∧ bits (s1.lapseWord j 0) 0 24 = bits w0 0 24 ∧ bits (s1.lapseWord j 1) 0 24 = l.fna ∧ bits c 0 16 = l.b8 ∧ bits c 16 16 < 0xFFFF then
    s1.setWord (DLV_LAPSE_REC (j % 1024) 2).key (BitVec.ofNat 32 (c + 0x10000))
  else if used < 1024 then
    let put (s : State) (i v : Nat) : State := s.setWord (DLV_LAPSE_REC (w % 1024) i).key (BitVec.ofNat 32 v)
    let s2 := put (put (put (put s1 0 w0) 1 (l.fna % 2 ^ 24)) 2 (pack [(0, 16, l.b8), (16, 16, 1)])) 3 l.w12
    let s3 := put (put (put (put s2 4 l.inst.1) 5 (pack [(0, 16, l.inst.1 >>> 32), (16, 16, l.inst.2)])) 6 0) 7 0
    (s3.wr DLV_LAPSE_PTR_WPTR (w + 1)).raise EV_DLV_LAPSE
  else
    let s2 := s1.count DLV_LAPSE_OVF
    s2.alarm 3 10 (s2.rd DLV_LAPSE_OVF)

/-! ## Full resets (R74, R375) -/

/-- A request for a full reset: the cause is recorded, and b_rst_req_n_o goes low unless porst_n is low already; in test
mode only for a request of the side-band (R449). -/
def State.requestReset (s : State) (causeBit fcode : Nat) : State :=
  let code := if causeBit = 5 then fcode else s.boot.fcode
  let drive := !s.bReset && (!s.on TST_STATUS_TMODE || causeBit == 4)
  let b := { s.boot with causes := s.boot.causes ||| 2 ^ causeBit, fcode := code, reqPending := s.boot.reqPending || drive }
  { s with boot := b, pins := { s.pins with rstReqN := if drive then false else s.pins.rstReqN } }

/-- Kalvon-B holds all traffic until the next full reset; the ready bits of Kalvon-T fall with it (R27, R50). -/
def State.holdAll (s : State) : State := { s with hold := true }

/-! ## Guards -/

/-- The effect of an event in Kalvon-B's main domain; a half in reset ignores its inputs (R49). -/
def State.onB (s : State) (f : State → State) : State := if s.bReset then s else f s

/-- The effect of an event in Kalvon-T. -/
def State.onT (s : State) (f : State → State) : State := if s.tReset then s else f s

/-- The outcome of a command: a next state. A command acts on everything but the commands that wait behind it, the sizes
of the build (R8) and the levels of the porst_n inputs (R73). -/
def State.done (s s1 : State) : Host.Outcome State Fault Refusal :=
  .next { s1 with pending := s.pending, tiles := s.tiles, links := s.links, bReset := s.bReset, tReset := s.tReset }

/-- The outcome of a command that may move the levels of the porst_n inputs. -/
def State.doneReset (s s1 : State) : Host.Outcome State Fault Refusal :=
  .next { s1 with pending := s.pending, tiles := s.tiles, links := s.links }

/-- The effect of an event on a link of the build (R8). -/
def onLink (n : Nat) (s : State) (f : State → State) : Host.Outcome State Fault Refusal :=
  if n < s.links then s.done (s.onB f) else .fault .noSuchLink

/-- The effect of an event on a wire group of the build (R6). -/
def onGroup (g : Nat) (s : State) (f : State → State) : Host.Outcome State Fault Refusal :=
  if g < s.groups then s.done (f s) else .fault .noSuchGroup

/-- The first element that satisfies a test, taken out of a list. -/
def takeFirst {α : Type} (p : α → Bool) : List α → Option α × List α
  | [] => (none, [])
  | a :: as => if p a then (some a, as) else let (r, rest) := takeFirst p as; (r, a :: rest)

/-- The first equal element taken out of a list. -/
def eraseOne {α : Type} [DecidableEq α] (a : α) : List α → List α
  | [] => []
  | b :: bs => if b = a then bs else b :: eraseOne a bs

/-- Slots sent or received in this tick (R360, R364), each by its account: 8 × PART + VC, or 2048. -/
def State.slotsUsed (s : State) (bill : List Nat) : State :=
  { s with pace := { s.pace with slots := bill.foldl (fun m k => Sparse.set (fun _ => 0) m k (Sparse.get (fun _ => 0) m k + 1)) s.pace.slots } }

/-- A free value of `w` bits that the spec leaves open, and the state after it is drawn (assumption 3). -/
def State.draw (s : State) (w : Nat) : Nat × State := (Config.freeValue s.draws % 2 ^ w, { s with draws := s.draws + 1 })

/-- A free value that is drawn as a field of a register. -/
def State.wrFree (s : State) (f : Fld) : State := let (v, s1) := s.draw f.w; s1.wr f v

end Sys2Proof.Machine
end

