-- ==== Sys2Proof/Machine/Track.lean ====
section
/-!
DEFINITION. The error tracker, marginal verdicts and the marginal list (R432 to R436, R442): what every
subsystem calls when one of its resources shows a tagged error. The replacement of a marginal resource is the
subsystem's own (R431).
-/
namespace Sys2Proof.Machine

/-- A resource identifier: KIND in [27:24], index in [23:0] (R432). -/
def mkRid (kind index : Nat) : Nat := kind * 2 ^ 24 + index % 2 ^ 24

def ridKind (rid : Nat) : Nat := bits rid 24 4

/-- A sensor's reading in units of 0.125 °C (R370). -/
def State.temp (s : State) (i : Nat) : Int := sgn 12 (s.rd (PAC_TEMP_TEMP i))

/-- The sensor with the highest valid reading (R432). -/
def State.hottest (s : State) : Nat :=
  ((List.range 12).filter fun i => s.on (PAC_TEMP_VALID i)).foldl (fun b i => if s.temp b < s.temp i then i else b) 0

/-- The home sensor of a resource (R432). -/
def State.homeSensor (s : State) (rid : Nat) : Nat :=
  let k := ridKind rid
  if k ≤ 1 then 8 * (bits rid 7 11 / 128) / s.tiles
  else if k = 2 then 8 * bits rid 3 6 / s.links
  else if k = 7 then 8 * bits rid 5 6 / s.links
  else if k = 3 then (let l := bits rid 0 12; if l < 2048 then l / 32 else l - 2048) / 8
  else s.hottest

/-- The temperature band of a sensor (R433). -/
def State.band (s : State) (sensor : Nat) : Nat :=
  let tb0 : Int := sgn 8 (s.rd TEL_TBAND_TB0)
  let tbw : Int := (max 1 (s.rd TEL_TBAND_TBW) : Nat)
  let b := (s.temp sensor - 8 * tb0) / (8 * tbw)
  if b < 0 then 0 else clampTop 7 b.toNat

/-- A signature is stressful (R434). -/
def stressful (kind sig : Nat) : Bool :=
  if kind ≤ 2 then bitAt sig 2 || bitAt sig 3 else kind == 3

/-- The entry of a resource, if it has one. -/
def State.trackFind (s : State) (rid : Nat) : Option Nat := s.track.find? fun e => s.rd (TEL_TRID_RID e) == rid

/-- An entry's registers cleared (R436 step 2). -/
def State.trackClear (s : State) (e : Nat) : State :=
  let s1 := [TEL_TRID_VALID e, TEL_TRID_RID e, TEL_TCNT_AGE e, TEL_TCNT_C e].foldl (fun s f => s.wr f 0) s
  let s2 := (List.range 8).foldl (fun s b => (s.wr (TEL_TBIN_RES e b) 0).wr (TEL_TBIN_ERR e b) 0) s1
  (List.range 16).foldl (fun s b => s.wr (TEL_TSIG_ERR e b) 0) s2

/-- An entry freed. -/
def State.trackFree (s : State) (e : Nat) : State :=
  let s1 := s.trackClear e
  ({ s1 with track := s1.track.filter (· != e) }).wr TEL_TRK_USED ((s1.track.filter (· != e)).length)

/-- MCNT; 0 acts as 1 (R444). -/
def State.mcnt (s : State) : Nat := max 1 (s.rd TEL_FCTL_MCNT)

/-- An entry for a resource that has none (R435): a free one, else the oldest with fewer than MCNT errors. -/
def State.trackAlloc (s : State) (rid : Nat) : State × Option Nat :=
  let place (s : State) (e : Nat) : State × Option Nat :=
    let s1 := ((s.trackClear e).wr (TEL_TRID_VALID e) 1).wr (TEL_TRID_RID e) rid
    let t := s1.track.filter (· != e) ++ [e]
    (({ s1 with track := t }).wr TEL_TRK_USED t.length, some e)
  match findUp (fun e => !s.track.contains e) 512 0 with
  | some e => place s e
  | none =>
    match s.track.find? fun e => s.rd (TEL_TCNT_C e) < s.mcnt with
    | some e => place s e
    | none => (s.raise EV_TELF_TRKFULL (some rid), none)

/-- Errors of an entry in a band. -/
def State.errBand (s : State) (e b : Nat) : Nat := s.rd (TEL_TBIN_ERR e b)

/-- The band rule (R436), with the shares compared by cross-multiplication. Where no residence has been counted, the share
of a band's residence is 0 ÷ 0, which the spec does not give: `noShare` says so. -/
def State.bandRule (s : State) (e : Nat) : Bool :=
  let c := s.rd (TEL_TCNT_C e)
  let sum := (List.range 8).foldl (fun a b => a + s.rd (TEL_TBIN_RES e b)) 0
  (List.range 8).any fun b =>
    decide (c ≤ 2 * s.errBand e b) && decide (max 1 (s.rd TEL_FCTL_BRATIO) * s.rd (TEL_TBIN_RES e b) * c ≤ s.errBand e b * sum)

/-- The signature bin with the most errors, the lowest on a tie. -/
def State.topSig (s : State) (e : Nat) : Nat :=
  (List.range 16).foldl (fun b i => if s.rd (TEL_TSIG_ERR e b) < s.rd (TEL_TSIG_ERR e i) then i else b) 0

/-- The pattern rule (R436); MFRAC names 4/8 to 7/8. -/
def State.patternRule (s : State) (e kind : Nat) : Bool :=
  let t := s.topSig e
  stressful kind t && decide ((4 + s.rd TEL_FCTL_MFRAC) * s.rd (TEL_TCNT_C e) ≤ 8 * s.rd (TEL_TSIG_ERR e t))

/-- The lowest free entry of the marginal list (R442). -/
def State.margFree (s : State) : Option Nat := findUp (fun m => !s.on (TEL_MARG_VALID m)) 32 0

/-- A marginal verdict, without the replacement (R436 steps 1 and 2). -/
def State.verdict (s : State) (e rid cause : Nat) : State :=
  let s1 := (s.raise EV_TELF_MARGINAL (some (rid + cause * 2 ^ 28))).trackFree e
  match s1.margFree with
  | some m => (((s1.wr (TEL_MARG_RID m) rid).wr (TEL_MARG_CAUSE m) cause).wr (TEL_MARG_REPL m) 0).wr (TEL_MARG_VALID m) 1
  | none => s1.raise EV_TELF_LISTFULL (some rid)

/-- The band rule of an entry asks for a share of no residence: whether it holds is a free value (assumption 3). -/
def State.noShare (s : State) (e : Nat) : Bool := (List.range 8).foldl (fun a b => a + s.rd (TEL_TBIN_RES e b)) 0 == 0 && s.bandRule e

/-- The verdict of the band rule, with the state after a free value is drawn for it where the rule leaves it open. -/
def State.bandHolds (s : State) (e : Nat) : Bool × State :=
  if s.noShare e then (let (v, s1) := s.draw 1; (v == 1, s1)) else (s.bandRule e, s)

/-- A tagged error of a resource (R435, R436). The flag says that the resource was judged marginal and is to be
replaced in advance (PREEN = 1). -/
def State.tagError (s : State) (rid sig : Nat) : State × Bool :=
  let (s0, slot) := match s.trackFind rid with
    | some e => (s, some e)
    | none => s.trackAlloc rid
  match slot with
  | none => (s0, false)
  | some e =>
    let b := s0.band (s0.homeSensor rid)
    let s1 := ((s0.countSat (TEL_TCNT_C e)).countSat (TEL_TBIN_ERR e b)).countSat (TEL_TSIG_ERR e (sig % 16))
    if s1.mcnt ≤ s1.rd (TEL_TCNT_C e) then
      let (band, s2) := s1.bandHolds e
      if band then (s2.verdict e rid 1, s2.on TEL_FCTL_PREEN)
      else if s2.patternRule e (ridKind rid) then (s2.verdict e rid 2, s2.on TEL_FCTL_PREEN)
      else (s2, false)
    else (s1, false)

/-- A replacement in advance starts (R436): PREEMPT, and REPL of the list entry. -/
def State.preempt (s : State) (rid : Nat) : State :=
  let s1 := s.raise EV_TELF_PREEMPT
  match findUp (fun m => s1.on (TEL_MARG_VALID m) && s1.rd (TEL_MARG_RID m) == rid) 32 0 with
  | some m => s1.wr (TEL_MARG_REPL m) 1
  | none => s1

/-- A marginal resource, or a bank, with no usable spare (R436, R437). -/
def State.noSpare (s : State) (rid : Nat) : State := s.raise EV_TELF_NOSPARE (some rid)

/-- Whether the marginal list names a resource (R442). -/
def State.listed (s : State) (rid : Nat) : Bool :=
  (List.range 32).any fun m => s.on (TEL_MARG_VALID m) && s.rd (TEL_MARG_RID m) == rid

end Sys2Proof.Machine
end

