-- ==== Sys2Proof/Machine/Msg.lean ====
section
/-!
DEFINITION. The layouts of messages in frames: the type table, the fields of headers, the units of a payload
(R113 to R117), the check of a received frame (R86), and the group numbering of the bond field (R81, R93).
-/
namespace Sys2Proof.Machine

/-- A field of a message's header unit, given as the spec gives it: [hi : lo]. -/
def xf (m : XMsg) (hi lo : Nat) : Nat := bits m.hdr.toNat lo (hi + 1 - lo)

def msgTy (m : XMsg) : Nat := xf m 7 0

/-- What R115 gives of a type: class, whether Kalvon-B may send it, whether Kalvon-T may, and its data units. -/
def typeRow (ty : Nat) : Option (Nat × Bool × Bool × Nat) :=
  let m := 0; let c := 1; let k := 3
  if ty = 0x10 then some (m, false, true, 0) else if ty = 0x11 then some (m, false, true, 4) else if ty = 0x12 then some (m, false, true, 4)
  else if ty = 0x13 then some (m, false, true, 1) else if ty = 0x18 then some (m, true, false, 4) else if ty = 0x19 then some (m, true, false, 0)
  else if ty = 0x1A then some (m, true, false, 1) else if ty = 0x1B then some (m, true, false, 0) else if ty = 0x20 then some (c, false, true, 0)
  else if ty = 0x21 then some (c, false, true, 0) else if ty = 0x22 then some (c, false, true, 0) else if ty = 0x23 then some (c, false, true, 4)
  else if ty = 0x24 then some (c, false, true, 0) else if ty = 0x28 then some (c, true, false, 4) else if ty = 0x29 then some (c, true, false, 4)
  else if ty = 0x2A then some (c, true, false, 0) else if ty = 0x2B then some (c, true, false, 0) else if ty = 0x2C then some (c, true, false, 0)
  else if ty = 0x30 then some (c, true, false, 0) else if ty = 0x31 then some (c, true, false, 0) else if ty = 0x38 then some (c, false, true, 0)
  else if ty = 0x39 then some (c, false, true, 4) else if ty = 0x40 then some (k, true, true, 0) else if ty = 0x41 then some (k, true, true, 0)
  else if ty = 0x42 then some (k, true, true, 0) else if ty = 0x48 then some (k, true, false, 0) else if ty = 0x50 then some (k, true, false, 0)
  else if ty = 0x51 then some (k, true, false, 1) else if ty = 0x52 then some (k, true, false, 0) else if ty = 0x53 then some (k, true, false, 0)
  else if ty = 0x54 then some (k, false, true, 0) else if ty = 0x58 then some (k, true, false, 0) else if ty = 0x59 then some (k, false, true, 1)
  else if ty = 0x70 then some (k, true, true, 1) else if ty = 0x71 then some (k, true, false, 1) else if ty = 0x72 then some (k, false, true, 1)
  else none

/-- The reserved fields of IDENT that R134 names as checked are 0: the unlisted bits of its header. The capability bits that R135
reserves for later minor versions are not checked (R12, R13). -/
def identClean (m : XMsg) : Bool := xf m 15 10 == 0 && xf m 127 98 == 0

/-- The units of a message, header first. -/
def msgUnits (m : XMsg) : List Unit128 := m.hdr :: m.data

/-- A payload made of units, unit u in bits [128u + 127 : 128u] (R113). -/
def packUnits : List Unit128 → Nat
  | [] => 0
  | u :: us => u.toNat + packUnits us <<< 128

/-- Unit u of a payload. -/
def unitAt (p : BitVec 1024) (u : Nat) : Unit128 := p.extractLsb' (128 * u) 128

/-- The messages of a payload from unit u on, for a class and a sender, and whether a message was discarded
(R114); at most `n` units are left. -/
def readUnits (p : BitVec 1024) (cls : Nat) (fromB : Bool) : Nat → Nat → List XMsg × Bool
  | 0, _ => ([], false)
  | n + 1, u =>
    if 8 ≤ u then ([], false)
    else
      let h := unitAt p u
      let ty := bits h.toNat 0 8
      if ty = 0 then ([], false)
      else
        match typeRow ty with
        | none => ([], true)
        | some (c, b, t, k) =>
          let m : XMsg := { hdr := h, data := (List.range k).map fun i => unitAt p (u + 1 + i) }
          if c ≠ cls || (if fromB then !b else !t) || 8 < u + 1 + k || (ty == 0x70 && !identClean m) then ([], true)
          else
            let (ms, bad) := readUnits p cls fromB n (u + 1 + k)
            (m :: ms, bad)

/-- The control bits of a frame (R85). -/
def frameCtl (f : Frame) : Nat := b2n f.nakp + 2 * b2n f.naks + 4 * b2n f.ctrl + 8 * b2n f.retry

/-- The CRC-12 of a frame: payload bits 0 to 1023, then control bits 0 to 3 (R86). -/
def frameCrc (f : Frame) : Nat := crcUp 12 0x80F 4 (frameCtl f) (crcUp 12 0x80F 1024 f.payload.toNat 0xFFF)

/-- The check word: control bits, then the CRC (R85). -/
def frameCheck (f : Frame) : Nat := frameCtl f + 16 * frameCrc f

/-- The 16 bits that logical wire w carries in a frame: data wire i carries payload bits 64b + i (R84), wire 64
the check word. -/
def frameColumn (f : Frame) (check w : Nat) : Nat :=
  if w = 64 then check else pack ((List.range 16).map fun b => (b, 1, bits f.payload.toNat (64 * b + w) 1))

/-- A link control frame's payload: type in byte 0, sequence number in byte 1 (R99). -/
def ctlPayload (ty sq : Nat) (body : BitVec 1008) : BitVec 1024 := BitVec.ofNat 1024 (ty % 256 + (sq % 256) * 256 + body.toNat <<< 16)

/-! ## Groups (R81, R93) -/

def gTile (g : Nat) : Nat := g / 128
/-- True for a group from Kalvon-B to Kalvon-T. -/
def gBT (g : Nat) : Bool := 64 ≤ g % 128
def gSet (g : Nat) : Nat := g % 64 / 8
def gPhase (g : Nat) : Nat := g % 8
/-- The group of a tile, direction, set and phase. -/
def gOf (tile : Nat) (bt : Bool) (set phase : Nat) : Nat := 128 * tile + (if bt then 64 else 0) + 8 * (set % 8) + phase % 8
/-- The primary NAK client of a group: the one whose frame was sealed 11 KCLK before (R93, R94; assumption 15). -/
def gClient (g : Nat) : Nat := gOf (gTile g) (!gBT g) (gSet g) (gPhase g + 5)
/-- The group that carries the NAKs of g (R93). -/
def gCarrier (g : Nat) : Nat := gOf (gTile g) (!gBT g) (gSet g) (gPhase g + 3)

/-- The role class of a group's set by KB_BND_ROLE (R111); in calibration set index 0 of every tile is class K (R458). -/
def State.cls (s : State) (g : Nat) : Nat :=
  if s.rd TST_STATUS_CSTATE ≠ 0 ∧ gSet g = 0 then 3 else bits (s.word (BND_ROLE_TB (gTile g)).key).toNat (2 * gSet g + (if gBT g then 16 else 0)) 2

/-- The class in which Kalvon-T seals: by the role words it has received; before them, class-K sets only (R101). -/
def State.clsT (s : State) (g : Nat) : Nat :=
  match s.bond.tRoles.find? fun e => e.1 = gTile g with
  | some e => bits e.2 (2 * gSet g + (if gBT g then 16 else 0)) 2
  | none => s.cls g

def State.grp (s : State) (g : Nat) : Group := Sparse.get (fun _ => Group.reset) s.bond.groups g

def State.setGrp (s : State) (g : Nat) (x : Group) : State :=
  { s with bond := { s.bond with groups := Sparse.set (fun _ => Group.reset) s.bond.groups g x } }

/-- A group is in service (R109). -/
def State.serving (s : State) (g : Nat) : Bool := s.rd (BND_GSTAT_STATE g) == 0 && (if gBT g then s.bond.driveB else s.bond.driveT)

/-- Both halves run at half rate: before RATE_SWITCH, and for good with default taps (R91, R101). -/
def State.half (s : State) : Bool := s.on BND_STATUS_RATE || s.rd BND_STATUS_STATE ≤ 4

/-- The KCLK from a take to the presentation, and what each retry adds (R88, R91). -/
def State.latency (s : State) : Nat := if s.half then 20 else 12
def State.retryTime (s : State) : Nat := if s.half then 48 else 24

/-- Bits that a wire carries in the 2,048 KCLK of the wire check: a beat on each strobe edge, or one for each KCLK at half rate
(R84, R91, R101). -/
def State.checkBits (s : State) : Nat := if s.half then 2048 else 4096

/-- The KCLK count of the half that seals into a group. -/
def State.sendCount (s : State) (g : Nat) : Nat := if gBT g then s.kclk else s.tclk

/-- A count at which a group seals (R87, R91). -/
def State.isSlot (s : State) (g c : Nat) : Bool := if s.half then c % 16 == 2 * gPhase g else c % 8 == gPhase g

/-- The first sealing slot of a group at or after a count. -/
def State.slotFrom (s : State) (g c : Nat) : Nat := (findUp (fun x => s.isSlot g x) 16 c).getD c

/-- KB_BND_SPMAP as it reads: spares beyond the build read 0x7D (R110). -/
def State.spmapRead (s : State) (g : Nat) : Nat :=
  (List.range 4).foldl (fun m k => if s.spares ≤ k then setBits m (8 * k) 8 0x7D else m) (s.rd (BND_SPMAP g))

/-- A checksum byte list: one state byte and the four spare map bytes of each group (R103). -/
def State.mapBytes (s : State) : List Nat :=
  (List.range s.groups).flatMap fun g => s.rd (BND_GSTAT_STATE g) :: bytesOf 4 (s.spmapRead g)

/-- Groups in service. -/
def State.usable (s : State) : Nat := countUp (fun g => s.serving g) s.groups

end Sys2Proof.Machine
end

