-- ==== Sys2Proof/Machine/BondOps.lean ====
section
/-!
DEFINITION. Operations of the bond field: tokens, spares and repairs, group recovery and failure, heirs, local
retry, sealing and presenting frames (R84 to R104, R470, R471).
-/
namespace Sys2Proof.Machine

/-- KCLK in 1 ms, and in 1 s. -/
def msK : Nat := 1562500
def secK : Nat := 1562500000

/-! ## Tokens (R102 to R104) -/

/-- The width token (R103). -/
def State.widthToken (s : State) : Nat :=
  pack [(31, 1, s.rd BND_STATUS_RATE), (19, 12, s.usable), (0, 16, crc16 s.mapBytes)]

/-- Class-K sets of both directions (R102). -/
def State.kSets (s : State) : Nat := countUp (fun g => g % 8 == 0 && s.cls g == 3) s.groups

/-- The role token (R102). -/
def State.roleToken (s : State) : Nat :=
  pack [(16, 8, s.kSets), (0, 16, crc16 ((List.range s.tiles).flatMap fun t => bytesOf 4 (s.word (BND_ROLE_TB t).key).toNat))]

/-- TOKEN_SET with the current incarnation number and tokens (R99, R104). -/
def State.sendTokenSet (s : State) : State :=
  s.ctlToT 0x07 (pack [(0, 16, s.inc), (16, 32, s.rd BND_WTOKEN), (48, 32, s.rd BND_RTOKEN)])

/-- The width token recomputed and written to Caddy (R97, R98, R103). -/
def State.newWidthToken (s : State) : State :=
  let t := s.widthToken
  let s1 := (s.wr BND_STATUS_USABLE s.usable).wr BND_WTOKEN t
  if !s1.caddyOpen then s1 else { s1 with hdr := { s1.hdr with wtok := t } }

/-! ## Spares (R96, R109, R110) -/

/-- What a spare of a group serves: SPMAP's byte. -/
def State.spare (s : State) (g k : Nat) : Nat := bits (s.rd (BND_SPMAP g)) (8 * k) 8

def State.setSpare (s : State) (g k v : Nat) : State := s.wr (BND_SPMAP g) (setBits (s.rd (BND_SPMAP g)) (8 * k) 8 v)

/-- A usable free spare: free, of the build, and not marked marginal (R96 rule 2). -/
def State.spareFree (s : State) (g k : Nat) : Bool :=
  k < s.spares && s.spare g k == 0x7F && !s.listed (mkRid 1 (g * 128 + k))

/-- SPFREE and SPUSED; SPLOW when a group in service comes to have no usable free spare left, or leaves CHECK without one
(R107). -/
def State.spareCounts (s : State) (g : Nat) : State :=
  let free := countUp (fun k => s.spareFree g k) s.spares
  let used := countUp (fun k => s.spare g k ≤ 64) s.spares
  let was := s.rd (BND_GSTAT_SPFREE g)
  let first := s.rd BND_STATUS_STATE == 6
  ((s.wr (BND_GSTAT_SPFREE g) free).wr (BND_GSTAT_SPUSED g) used).raiseIf (free == 0 && (first || was != 0) && s.serving g) EV_BND_SPLOW (some g)

/-- The spare that carries a logical wire. -/
def State.spareOf (s : State) (g w : Nat) : Option Nat := findUp (fun k => s.spare g k == w) s.spares 0

/-- Failed wires moved to spares in order of wire number, the check wire last; none when a wire finds no spare
(R96, R101). A spare that carries a failed wire goes out of use (rule 4). -/
def State.mapWires (s : State) (g : Nat) : List Nat → Option State
  | [] => some s
  | w :: ws =>
    let s1 := match s.spareOf g w with
      | some k => s.setSpare g k 0x7E
      | none => s
    match findUp (fun k => s1.spareFree g k) s1.spares 0 with
    | some k => State.mapWires (s1.setSpare g k w) g ws
    | none => none

/-- Wires of a group that the wire check found bad, with the listed ones of R442: logical wires below 65 in
order; spares from 65 on are put out of use first. -/
def State.checkWires (s : State) (g : Nat) (errs : List Nat) : Option State :=
  let bad := fun w => errs.contains w || s.listed (if w < 65 then mkRid 0 (g * 128 + w) else mkRid 1 (g * 128 + (w - 65)))
  let s1 := (List.range s.spares).foldl (fun s k => if bad (65 + k) && s.spare g k == 0x7F then s.setSpare g k 0x7E else s) s
  let viaBad := fun w => match s.spareOf g w with
    | some k => bad (65 + k)
    | none => false
  let need := (List.range 65).filter fun w => viaBad w || ((s1.spareOf g w).isNone && bad w)
  s1.mapWires g need

/-! ## The wire check (R101) -/

/-- `n` bits of PRBS-15 (x^15 + x^14 + 1) from a register, the first in bit 0: the bit that leaves is bit 14, and the bit that enters is
bit 14 XOR bit 13. -/
def prbs15 : Nat → Nat → Nat
  | 0, _ => 0
  | n + 1, r => b2n (bitAt r 14) + 2 * prbs15 n ((2 * r) % 2 ^ 15 + b2n (xor (bitAt r 14) (bitAt r 13)))

/-- What wire w of a group carries in CHECK: PRBS-15 seeded with the wire number + 1 (R101). -/
def State.checkPattern (s : State) (w : Nat) : Nat := prbs15 s.checkBits (w + 1)

/-- The wires with any error in the wire check. `seen` gives what was sampled on a wire where it is not what was driven; a wire that it
does not list was sampled as driven. -/
def State.failedWires (s : State) (seen : List (Nat × Nat)) : List Nat :=
  (seen.filter fun e => e.2 % 2 ^ s.checkBits != s.checkPattern e.1).map (·.1)

/-! ## Group failure, recovery and heirs (R93, R98, R470) -/

/-- GROUP_STATE to Kalvon-T (R99). -/
def State.sendGroupState (s : State) (g st cause : Nat) : State :=
  s.ctlToT 0x14 (pack [(0, 16, g), (16, 8, st), (24, 8, cause)])

/-- The seals of a group's held frames from a seal on, in order. -/
def Group.sealsFrom (x : Group) (r : Nat) : List Nat := (x.held.filter fun h => r ≤ h.orig).map (·.orig)

/-- The failed wires of one group, from what every group sampled. -/
def State.failedOf (s : State) (seen : List (Nat × List (Nat × Nat))) (g : Nat) : List Nat :=
  match seen.find? fun e => e.1 = g with
  | some e => s.failedWires e.2
  | none => []

/-- Seals of a group whose frames the receiving half has yet to see replayed. -/
def Group.owing (x : Group) : List Nat := (match x.kept with | some (o, _, _) => [o] | none => []) ++ x.missed

/-- A count has come to a point of which a frame carries bits [31:0]. -/
def reached (point count : Nat) : Bool := (count + 2 ^ 32 - point % 2 ^ 32) % 2 ^ 32 < 2 ^ 31

/-- The seals of a failed group's frames with what is left of each, in order: those that left the hold before they were
presented, and the held ones (R470 rules 4 and 5). A frame that the group carried for another counts as one of its own, and keeps the
place of its messages. -/
def Group.unsent (x : Group) (g : Nat) : List (Nat × CarryItem) :=
  ((x.owing.filter fun o => !(x.held.any fun h => h.orig = o)).map fun o => (o, { g := g, orig := o, frame := none })) ++
    x.held.map fun h => (h.orig, { g := (h.src.getD (g, h.orig)).1, orig := (h.src.getD (g, h.orig)).2, frame := some h.frame })

/-- The frames that an heir carries: from R on, of which HEIR and GROUP_RPT give bits [31:0]; then those that the group was yet to
reseal as an heir itself (R470). -/
def Group.carryFrom (x : Group) (g r : Nat) : List CarryItem :=
  ((x.unsent g).filter fun e => reached r e.1).map (·.2) ++ x.heir.flatMap (·.items)

/-- The oldest seal whose messages have not been presented (R470 rule 2); with every frame presented and frames of another group still to
carry, the next seal. -/
def Group.unpresented (x : Group) (g : Nat) : Option Nat :=
  match ((x.unsent g).filter fun e => decide (x.next ≤ e.1)).head? with
  | some e => some e.1
  | none => if x.heir.isEmpty then none else some x.next

/-- Nothing of a failed group is left to carry: it keeps no frame (R470 step 4). -/
def Group.carried (x : Group) (c : Nat) : Group := { x with held := [], run := [], missed := [], kept := none, heir := [], heirRx := [], next := c + 1 }

/-- The heir of a failed group (R470 rule 3). -/
def State.heirOf (s : State) (g : Nat) : Option Nat :=
  let ok := fun h => h != g && s.serving h && !(s.grp h).stopped && gBT h == gBT g && s.cls h == s.cls g
  match findUp (fun h => ok h && gTile h == gTile g) s.groups 0 with
  | some h => some h
  | none => findUp ok s.groups 0

/-- The messages of a group's frames from R on are lost (R470 rule 5): the sending half sets PROTO once for each
such frame. -/
def State.loseFrames (s : State) (g : Nat) (r : Nat) : State :=
  let x := s.grp g
  let n := (x.carryFrom g r).length
  let s1 := (List.range n).foldl (fun s _ => s.raise (if gBT g then EV_BNDX_PROTO else EV_KT_XPR_PROTO)) s
  s1.setGrp g (x.carried (s.sendCount g))

/-- A group takes over a failed group's frames: its sending half's list, or its receiving half's. A second failed group waits behind the
first (assumption 62). -/
def State.addJob (s : State) (h : Nat) (sends : Bool) (j : HeirJob) : State :=
  let x := s.grp h
  if j.items.isEmpty then s else s.setGrp h (if sends then { x with heir := x.heir ++ [j] } else { x with heirRx := x.heirRx ++ [j] })

/-- Kalvon-B chooses the heir of a failed group whose oldest frame to carry is R, and sends HEIR (R470 rule 3). -/
def State.appointHeir (s : State) (g r : Nat) : State :=
  match s.heirOf g with
  | none => s.loseFrames g r
  | some h =>
    let items := (s.grp g).carryFrom g r
    let x := s.slotFrom h (s.kclk + 64)
    (s.addJob h (gBT g) { g := g, x := x, items := items }).ctlToT 0x18
      (pack [(0, 16, g), (16, 16, h), (32, 32, r), (64, 32, x), (96, 8, items.length)])

/-- A direction without a class-K group in service (R98): all traffic is held and a full reset requested. -/
def State.checkClassK (s : State) (bt : Bool) : State :=
  if (List.range s.groups).any fun g => gBT g == bt && s.cls g == 3 && s.serving g then s else s.holdAll.requestReset 5 2

/-- The substitute carrier of a client whose carrier g failed (R93). -/
def State.newCarrier (s : State) (client : Nat) : Option Nat :=
  (((List.range 7).map fun i => gOf (gTile client) (!gBT client) (gSet client + 1 + i) (gPhase client + 3)).find? fun c =>
    s.serving c && (s.grp c).subst.isNone)

/-- One group fails (R98, R470): out of service with its cause, its frames kept for an heir; a group that fails in training has carried
no message. TOKEN_SET goes out once the token exchange has begun it (R104). Its clients are
those of R93, returned with those left without a carrier. -/
def State.failOne (s : State) (g cause : Nat) : State × List (Nat × Nat) :=
  if s.rd (BND_GSTAT_STATE g) = 2 then (s, [])
  else
    let x := s.grp g
    let trained := decide (7 ≤ s.rd BND_STATUS_STATE)
    let x1 := { x with stopped := true, run := [], repair := none, todo := [], subst := none }
    let s1 := ((s.wr (BND_GSTAT_STATE g) 2).wr (BND_GSTAT_CAUSE g) cause).setGrp g (if trained then x1 else x1.carried (s.sendCount g))
    let sa := (s1.raise EV_BND_GFAIL (some g)).newWidthToken
    let s2 := (if 2 ≤ sa.bond.tokens then sa.sendTokenSet else sa).sendGroupState g 2 cause
    let s3 := if gBT g || !trained then s2 else match x.unpresented g with
      | some r => s2.appointHeir g r
      | none => s2
    let reassign := fun (acc : State × List (Nat × Nat)) (client : Nat) =>
      if acc.1.rd (BND_GSTAT_STATE client) = 2 then acc
      else match acc.1.newCarrier client with
        | some c => (acc.1.setGrp c { acc.1.grp c with subst := some client }, acc.2)
        | none => (acc.1, acc.2 ++ [(client, 6)])
    let clients := (if s3.serving (gClient g) || s3.rd (BND_GSTAT_STATE (gClient g)) = 1 then [gClient g] else []) ++ x.subst.toList
    let (s4, more) := clients.foldl reassign (s3, [])
    (s4.checkClassK (gBT g), more)

/-- Groups fail one after the other, with those that lose their carrier (R93); `n` bounds the chain. -/
def State.failAll : Nat → List (Nat × Nat) → State → State
  | 0, _, s => s
  | _, [], s => s
  | n + 1, (g, c) :: rest, s => let (s1, more) := s.failOne g c; State.failAll n (rest ++ more) s1

/-- A group fails, with what follows from it. -/
def State.failGroup (s : State) (g cause : Nat) : State := State.failAll (2 * s.groups) [(g, cause)] s

/-- Group recovery starts, or the group fails past GREC_MAX (R98). GREC_MAX is 1 to 255. The group leaves service, and its repairs are
dropped, those that wait too (R97, R105). -/
def State.recoverGroup (s : State) (g : Nat) : State :=
  let x := s.grp g
  if s.rd (BND_GSTAT_STATE g) ≠ 0 then s
  else
    let recent := x.recs.filter fun t => s.kclk - t < secK
    if s.rd BND_CTL_GREC_MAX ≤ recent.length then s.failGroup g 5
    else
      let s1 := (s.wr (BND_GSTAT_STATE g) 1).setGrp g { x with stopped := true, run := [], repair := none, todo := [], recs := recent ++ [s.kclk] }
      ((s1.wr BND_STATUS_USABLE s1.usable).raise EV_BND_GREC).sendGroupState g 1 0

/-! ## Repair (R96, R97) -/

/-- A repair of a wire starts onto the lowest usable free spare; without one the group fails (R96, R97). A
repair ordered for a group in recovery is dropped. -/
def State.startRepair (s : State) (g w : Nat) : State :=
  if s.rd (BND_GSTAT_STATE g) ≠ 0 then s
  else
    match findUp (fun k => s.spareFree g k) s.spares 0 with
    | none => s.failGroup g 2
    | some k =>
      let m := s.slotFrom g (s.kclk + 64)
      let p : Repair := { w := w, k := k, m := m, s := m + 1024, driven := false, agree := 0, ready := false, bad := false }
      (s.setGrp g { s.grp g with repair := some p }).ctlToT 0x10
        (pack [(0, 16, g), (16, 8, w), (24, 8, k), (32, 32, m), (64, 32, m + 1024)])

/-- Insert a wire into the waiting repairs, in order of wire number (R96 rule 5). -/
def insertWire (w : Nat) : List Nat → List Nat
  | [] => [w]
  | v :: vs => if w < v then w :: v :: vs else if w = v then v :: vs else v :: insertWire w vs

/-- A logical wire failed (R96 rules 3 to 6). A spare in use goes out of use at once, also where another repair is running (rule 4). -/
def State.wireFailed (s : State) (g w : Nat) : State :=
  if (s.grp g).repair.any fun p => p.w = w then s
  else
    let s1 := match s.spareOf g w with
      | some k => (s.setSpare g k 0x7E).spareCounts g
      | none => s
    let x := s1.grp g
    if x.repair.isSome then s1.setGrp g { x with todo := insertWire w x.todo } else s1.startRepair g w

/-- An unused spare is taken out of use (R96 rule 1). -/
def State.spareOut (s : State) (g k : Nat) : State :=
  if s.spare g k = 0x7F then (s.setSpare g k 0x7E).spareCounts g else s

/-- A spare becomes unusable by a marginal verdict; a wire it carries is repaired again (R436). -/
def State.spareMarginal (s : State) (g k : Nat) : State :=
  let v := s.spare g k
  if v ≤ 64 then s.wireFailed g v else s.spareOut g k

/-- WFAIL; 0 or 1 acts as 2 (R106). -/
def State.wfail (s : State) : Nat := max 2 (s.rd BND_CTL_WFAIL)

/-- An error of logical wire w (below 65) or of spare w − 65 of a group, as Kalvon-B counts it: the count, the
tracker with its signature, the pre-emptive replacement of a marginal wire, and the outright threshold (R96,
R432, R434, R436). -/
def State.wireError (s : State) (g w sig : Nat) : State :=
  let x := s.grp g
  let errs := (x.errs.filter fun e => s.kclk - e.2 < msK) ++ [(w, s.kclk)]
  let s1 := (s.count (BND_WERR g w)).setGrp g { x with errs := errs }
  let rid := if w < 65 then mkRid 0 (g * 128 + w) else mkRid 1 (g * 128 + (w - 65))
  let (s2, marginal) := s1.tagError rid sig
  let waiting := (s2.grp g).todo.length + b2n (s2.grp g).repair.isSome
  let free := decide (waiting < countUp (fun k => s2.spareFree g k) s2.spares)
  let s3 := if !marginal then s2
    else if w < 65 then (if free then (s2.preempt rid).wireFailed g w else s2.noSpare rid)
    else if s2.spare g (w - 65) ≤ 64 && !free then s2.noSpare rid
    else (s2.preempt rid).spareMarginal g (w - 65)
  if s3.wfail ≤ (errs.filter fun e => e.1 = w).length then
    (if w < 65 then s3.wireFailed g w else s3.spareOut g (w - 65))
  else s3

/-! ## Local retry (R94, R95) -/

/-- How long a sender holds a frame after its original seal (R91, R94). -/
def State.holdTime (s : State) : Nat := if s.half then 128 else 64

/-- A reseal in a replay run: r grows by the run and by the retries of its NAK's carrier (R94 step 5). The first reseal after a recovery
counts as the take instead (R471); `lat` is the latency. -/
def HeldFrame.resealed (h : HeldFrame) (c add lat : Nat) : HeldFrame :=
  match h.due with
  | some _ => { h with last := c, r := h.r + add }
  | none => { h with last := c, r := 0, due := some (c + lat) }

/-- A NAK names the frame of a group sealed or resealed at `n`: a replay run of it and of every later held frame
starts, or recovery if the frame is no longer held, is older than 64 KCLK (128 at half rate), or a frame's r reaches
CHAIN_MAX in the run (2 to 7; 0 or 1 acts as 2). `k` is how often the frame that carried the NAK was retried (R94 step 5). Kalvon-B
counts every NAK that it receives (R110). -/
def State.startRun (s : State) (g n k : Nat) : State :=
  let s0 := if gBT g then s.count (BND_GRETRY g) else s
  let x := s.grp g
  if s.rd (BND_GSTAT_STATE g) ≠ 0 then s0
  else
  match x.held.find? fun h => h.last = n && s.sendCount g - h.orig ≤ s.holdTime with
  | none => s0.recoverGroup g
  | some named =>
    let o := named.orig
    let s1 := s0.setGrp g { x with run := x.sealsFrom o, runHead := true, runAdd := k + 1 }
    let s2 := s1.raiseIf (gBT g) EV_BND_RETRY
    if x.held.any fun h => o ≤ h.orig && max 2 (s.rd BND_CTL_CHAIN_MAX) ≤ (h.resealed 0 (k + 1) 0).r then s2.recoverGroup g else s2

/-- The receiver of a failed frame of g asks for its replay in the carrier's next frame (R93, R94). -/
def State.askRetry (s : State) (g : Nat) : State :=
  let c := gCarrier g
  let s1 := if s.rd (BND_GSTAT_STATE c) ≠ 2 then s.setGrp c { s.grp c with nakp := true }
    else match findUp (fun h => (s.grp h).subst == some g && s.rd (BND_GSTAT_STATE h) != 2) s.groups 0 with
      | some h => s.setGrp h { s.grp h with naks := true }
      | none => s
  if gBT g then s1.raise EV_KT_BND_RETRY else (s1.count (BND_GRETRY g)).raise EV_BND_RETRY

/-! ## Sealing (R87, R113) -/

/-- The class of an item. -/
def itemCls : XItem → Nat
  | .msg c _ => c
  | .ctrl _ _ => 3
  | .ctrlOn _ _ _ _ => 3
  | .stream _ => 2

/-- An item may go into a group: by its class, or by the tile and set index it names. -/
def itemFits (cls g : Nat) : XItem → Bool
  | .ctrlOn t s _ _ => t == gTile g && s == gSet g
  | i => itemCls i == cls

/-- The messages of a class at the front of a queue that fit into the units left; and the queue without them. -/
def takeUnits (cls : Nat) : Nat → List XItem → List XMsg × List XItem
  | _, [] => ([], [])
  | room, .msg c m :: q =>
    if c = cls then
      if (msgUnits m).length ≤ room then
        let (ms, rest) := takeUnits cls (room - (msgUnits m).length) q
        (m :: ms, rest)
      else ([], .msg c m :: q)
    else let (ms, rest) := takeUnits cls room q; (ms, .msg c m :: rest)
  | room, .ctrlOn t s ty b :: q => let (ms, rest) := takeUnits cls room q; (ms, .ctrlOn t s ty b :: rest)
  | room, i :: q => if itemCls i = cls then ([], i :: q) else let (ms, rest) := takeUnits cls room q; (ms, i :: rest)

/-- The payload of a new frame of a group of a class from a queue: a control frame or a stream frame alone, or messages;
whether it is a control frame; the queue left. -/
def nextPayload (cls g sq : Nat) (q : List XItem) : BitVec 1024 × Bool × List XItem :=
  match takeFirst (itemFits cls g) q with
  | (some (.ctrl ty b), rest) => (ctlPayload ty sq b, true, rest)
  | (some (.ctrlOn _ _ ty b), rest) => (ctlPayload ty sq b, true, rest)
  | (some (.stream p), rest) => (p, false, rest)
  | (some (.msg _ _), _) => let (ms, rest) := takeUnits cls 8 q; (BitVec.ofNat 1024 (packUnits (ms.flatMap msgUnits)), false, rest)
  | (none, _) => (0, false, q)

/-- A frame sealed into a group at count c: kept for 64 KCLK (128 at half rate), longer while the group is out of
service (R94, R470), and driven on the wires. Its messages were taken in the KCLK before, but those of a frame that it carries for a
failed group, whose reseal counts as the take (R471). -/
def State.sealFrame (s : State) (g c : Nat) (f : Frame) (src : Option (Nat × Nat) := none) : State :=
  let x := s.grp g
  let h1 : HeldFrame := { orig := c, last := c, frame := f, r := 0, due := some (if src.isSome then c + s.latency else c + s.latency - 1), src := src }
  let held := x.held.filter (fun h => c - h.orig < s.holdTime || x.run.contains h.orig) ++ [h1]
  let s1 := s.setGrp g { x with held := held, nakp := false, naks := false }
  { s1 with bond := { s1.bond with wires := s1.bond.wires ++ [(g, c, f)] } }

/-- The payload of a WAKE frame: in WAKE the B→T groups of the class-K sets carry it in every frame (R101). -/
def State.wakePayload (s : State) (g c : Nat) : BitVec 1024 :=
  ctlPayload 0x01 s.bond.seqB (BitVec.ofNat 1008 (pack [(0, 32, c), (32, 8, gTile g), (40, 8, gSet g), (48, 8, 1)]))

/-- Messages taken in one KCLK go into groups of ascending number (R113): a group that seals in a count in which a higher one of its
class and direction has taken messages takes none. -/
def State.mayTake (s : State) (cls g c : Nat) : Bool :=
  let last := Sparse.get (fun _ => (0, 0)) s.bond.takes (2 * cls + b2n (gBT g))
  !(last.1 == c && decide (g < last.2))

/-- The group has taken from its half's queue, if the queue has changed. -/
def State.tookAt (s : State) (cls g c : Nat) (took : Bool) : State :=
  if took then { s with bond := { s.bond with takes := Sparse.set (fun _ => (0, 0)) s.bond.takes (2 * cls + b2n (gBT g)) (c, g) } } else s

/-- A new frame of a group: its NAKs, and what its half has for its class. While all traffic is held, only class K
carries messages (assumption 14). -/
def State.sealNew (s : State) (g c : Nat) : State :=
  let x := s.grp g
  let mk := fun (p : BitVec 1024) (ctrl : Bool) => ({ payload := p, nakp := x.nakp, naks := x.naks, ctrl := ctrl, retry := false } : Frame)
  if gBT g then
    if s.rd BND_STATUS_STATE = 1 ∧ s.cls g = 3 then
      let s1 := s.sealFrame g c (mk (s.wakePayload g c) true)
      { s1 with bond := { s1.bond with seqB := (s1.bond.seqB + 1) % 256 } }
    else if (s.held && s.cls g != 3) || !s.mayTake (s.cls g) g c then s.sealFrame g c (mk 0 false)
    else
      let (p, ctrl, q) := nextPayload (s.cls g) g s.bond.seqB s.bond.xBT
      let s1 := { s with bond := { s.bond with xBT := q, seqB := (s.bond.seqB + b2n ctrl) % 256 } }
      (s1.tookAt (s.cls g) g c (q.length != s.bond.xBT.length)).sealFrame g c (mk p ctrl)
  else if (s.tHold && s.clsT g != 3) || !s.mayTake (s.clsT g) g c then s.sealFrame g c (mk 0 false)
  else
    let (p, ctrl, q) := nextPayload (s.clsT g) g s.bond.seqT s.bond.xTB
    let s1 := { s with bond := { s.bond with xTB := q, seqT := (s.bond.seqT + b2n ctrl) % 256 } }
    (s1.tookAt (s.clsT g) g c (q.length != s.bond.xTB.length)).sealFrame g c (mk p ctrl)

/-- A sealing slot of a group (R87): the next frame of a replay run, resealed unchanged, so that a NAK due in this
slot is not sent (R94, assumption 15); from X on a frame of a group it is the heir of, whole and with RETRY = 0 (R470); or a new
frame. -/
def State.sealSlot (s : State) (g c : Nat) : State :=
  let x := s.grp g
  match x.run with
  | o :: rest =>
    match x.held.find? fun h => h.orig = o with
    | some h =>
      let held := x.held.map fun h => if h.orig = o then h.resealed c x.runAdd s.latency else h
      let s1 := s.setGrp g { x with held := held, run := rest, runHead := false, nakp := false, naks := false }
      { s1 with bond := { s1.bond with wires := s1.bond.wires ++ [(g, c, { h.frame with retry := x.runHead })] } }
    | none => s.setGrp g { x with run := rest, nakp := false, naks := false }
  | [] =>
    match x.heir with
    | { g := fg, x := at_, items := it :: rest } :: jobs =>
      if reached at_ c then
        let f := match it.frame with
          | some f => { f with nakp := x.nakp, naks := x.naks, retry := false }
          | none => { payload := 0, nakp := x.nakp, naks := x.naks, ctrl := false, retry := false }
        let s1 := s.setGrp g { x with heir := if rest.isEmpty then jobs else { g := fg, x := at_, items := rest } :: jobs }
        (s1.sealFrame g c f (some (it.g, it.orig))).raiseIf it.frame.isNone (if gBT g then EV_BNDX_PROTO else EV_KT_XPR_PROTO)
      else s.sealNew g c
    | _ => s.sealNew g c

end Sys2Proof.Machine
end

