-- ==== Sys2Proof/Machine/Present.lean ====
section
/-!
DEFINITION. Presenting frames: the order of ordering streams (R122), lateness of items with a KCNT (R118, R471),
localised errors (R94), and the receiving half's part of local retry and repair.
-/
namespace Sys2Proof.Machine

/-! ## Late items (R118, R471) -/

/-- An item presented at `count` for `kcnt` is late (R118). -/
def isLate (kcnt count : Nat) : Bool :=
  let d := (kcnt + 2 ^ 32 - count % 2 ^ 32) % 2 ^ 32
  d == 0 || 2 ^ 31 ≤ d

/-- The KCLK in which a late TRIG goes out, as Kalvon-B computes it: the first after its presentation, and after the last late TRIG's,
that no TRIG has which Kalvon-T holds or which is on its way and in time (R118). -/
def State.lateSlot (s : State) (count : Nat) : Nat :=
  let taken := fun c => (s.xing.trigs.any fun t => t.kcnt == c % 2 ^ 32) ||
    s.bond.items.any fun i => i.ty == 0x50 && i.kcnt == c % 2 ^ 32 && !isLate i.kcnt count
  let from_ := max count s.bond.lateRel + 1
  (findUp (fun c => !taken c) (s.xing.trigs.length + s.bond.items.length + 1) from_).getD from_

/-- The partitions to which a late PERMIT or OPP is reported: those of the domains with USED = 1 and OWNV = 1, or
partition 0 (R471). -/
def State.domainParts (s : State) : List Nat :=
  let ps := ((List.range 16).filter fun d => s.on (PAC_DOM_USED d) && s.on (PAC_DOM_OWNV d)).map fun d => s.rd (PAC_DOM_PART d)
  if ps.isEmpty then [0] else ps.eraseDups

/-- Kalvon-B computes the lateness of an item presented in Kalvon-T at `count` and records the lapse (R471). -/
def State.lateItem (s : State) (m : XMsg) (count : Nat) : State :=
  let ty := msgTy m
  let kcnt := xf m 47 16
  match s.bond.items.find? fun i => i.ty = ty && i.kcnt = kcnt && (ty ≠ 0x50 || i.word = xf m 127 64) with
  | none => s
  | some it =>
    let s1 := { s with bond := { s.bond with items := eraseOne it s.bond.items } }
    if isLate kcnt count then
      let release := if ty = 0x50 then s.lateSlot count else count + 1
      let late := (release + 2 ^ 32 - kcnt) % 2 ^ 32
      let item := if ty = 0x50 then 0 else if ty = 0x51 then 1 else 2
      let parts := if ty = 0x50 then [bits it.word 48 8] else s.domainParts
      let s2 := if ty = 0x50 then { s1 with bond := { s1.bond with lateRel := release } } else s1
      parts.foldl (fun s p => s.lapse { part := p, rank := 3, cause := 0x11, flags := 0, fna := s.fna,
                                        b8 := item * 2 ^ 14 + it.entry, w12 := late, inst := (it.cyc, it.ang) }) s2
    else s1

/-! ## Presentation in order (R122) -/

/-- The ordering stream of a message within its class: the bank for M and C, one stream for K. -/
def streamOf (cls : Nat) (m : XMsg) : Nat := if cls = 3 then 0 else xf m 12 8

/-- The messages of a frame the sender holds. -/
def heldMsgs (cls : Nat) (fromB : Bool) (f : Frame) : List XMsg := if f.ctrl then [] else (readUnits f.payload cls fromB 8 0).1

/-- The seals of a group whose frames have not been presented and hold back what follows them: those that wait for a replay, and in a
group out of service every frame, which waits for the recovery's end or for an heir (R122). -/
def State.waitedFor (s : State) (g : Nat) (x : Group) : List Nat :=
  (if s.rd (BND_GSTAT_STATE g) = 0 then x.owing else x.held.map (·.orig)).filter fun o => decide (x.next ≤ o)

/-- A message must wait: an earlier frame of its class and direction that has not been presented carries a
message of its stream. -/
def State.mustWait (s : State) (bt : Bool) (w : WaitMsg) : Bool :=
  (s.bond.groups.any fun e =>
    gBT e.1 == bt && s.cls e.1 == w.cls && (s.waitedFor e.1 e.2).any fun o =>
      (decide (o < w.orig) || (o == w.orig && decide (e.1 < w.g))) &&
        match e.2.held.find? fun h => h.orig = o with
        | some h => h.src.isNone && (heldMsgs w.cls bt h.frame).any fun m => streamOf w.cls m == streamOf w.cls w.m
        | none => false)

/-- The waiting messages of a half that may be presented now, and those that wait on; a message also waits behind
an earlier waiting one of its stream. -/
def State.split (s : State) (bt : Bool) : List WaitMsg → List WaitMsg → List XMsg × List WaitMsg
  | _, [] => ([], [])
  | back, w :: ws =>
    if s.mustWait bt w || back.any fun b => b.cls == w.cls && streamOf b.cls b.m == streamOf w.cls w.m then
      let (ms, rest) := State.split s bt (back ++ [w]) ws
      (ms, w :: rest)
    else
      let (ms, rest) := State.split s bt back ws
      (w.m :: ms, rest)

/-- Insert by seal and group (R113). -/
def insertWait (w : WaitMsg) : List WaitMsg → List WaitMsg
  | [] => [w]
  | v :: vs => if w.orig < v.orig ∨ (w.orig = v.orig ∧ w.g < v.g) then w :: v :: vs else v :: insertWait w vs

/-- Every waiting message of a direction that may go is presented. -/
def State.release (s : State) (bt : Bool) : State :=
  if bt then
    let (ms, rest) := s.split true [] s.bond.waitT
    { s with bond := { s.bond with waitT := rest, inT := s.bond.inT ++ ms } }
  else
    let (ms, rest) := s.split false [] s.bond.waitB
    { s with bond := { s.bond with waitB := rest, inB := s.bond.inB ++ ms } }

/-- Link control frames that Kalvon-B sends, and that Kalvon-T sends (R99). -/
def ctlFromB : List Nat := [0x01, 0x03, 0x04, 0x05, 0x07, 0x08, 0x10, 0x12, 0x14, 0x15, 0x16, 0x18]
def ctlFromT : List Nat := [0x02, 0x06, 0x11, 0x13, 0x17, 0x19]

/-- A good frame of group g with original seal o: a link control frame, a stream frame, or messages (R94, R99,
R114, R120). `at12` is the KCLK of presentation, which Kalvon-B knows (R471). -/
def State.present (s : State) (g o at12 : Nat) (f : Frame) : State :=
  let bt := gBT g
  let cls := s.cls g
  let x := s.grp g
  let s0 := s.setGrp g { x with next := max x.next (o + 1) }
  -- a frame resealed after a recovery may have been presented before
  if o < x.next then s
  else if f.ctrl && !(if bt then ctlFromB else ctlFromT).contains (bits f.payload.toNat 0 8) then
    s0.raise (if bt then EV_KT_XPR_PROTO else EV_BNDX_PROTO)
  else if f.ctrl then
    let e := (bits f.payload.toNat 0 8, f.payload.extractLsb' 16 1008)
    if bt then { s0 with bond := { s0.bond with ctlT := s0.bond.ctlT ++ [e] } } else { s0 with bond := { s0.bond with ctlB := s0.bond.ctlB ++ [e] } }
  else if cls = 2 then
    if bt then { s0 with bond := { s0.bond with strT := s0.bond.strT ++ [f.payload] } } else { s0 with bond := { s0.bond with strB := s0.bond.strB ++ [f.payload] } }
  else
    let (ms, bad) := readUnits f.payload cls bt 8 0
    let s1 := s0.raiseIf bad (if bt then EV_KT_XPR_PROTO else EV_BNDX_PROTO)
    let ws := ms.map fun m => ({ orig := o, g := g, cls := cls, m := m } : WaitMsg)
    let s2 := if bt then { s1 with bond := { s1.bond with waitT := ws.foldl (fun q w => insertWait w q) s1.bond.waitT } }
      else { s1 with bond := { s1.bond with waitB := ws.foldl (fun q w => insertWait w q) s1.bond.waitB } }
    let s3 := if bt then (ms.filter fun m => msgTy m = 0x50 || (msgTy m = 0x51 && xf m 64 64 = 0) || msgTy m = 0x52).foldl (fun s m => s.lateItem m at12) s2 else s2
    s3.release bt

/-! ## Localised errors (R94, R434) -/

/-- The bits that differ between the kept copy and the replay, as (logical wire, beat); wire 64 is the check wire.
Each counts one localised error (R94 rule 4). -/
def wrongBits (kept good : Frame) (keptCheck : Nat) : List (Nat × Nat) :=
  (List.range 65).flatMap fun w =>
    let d := frameColumn kept keptCheck w ^^^ frameColumn good (frameCheck good) w
    if d = 0 then [] else ((List.range 16).filter fun b => bitAt d b).map fun b => (w, b)

/-- The pad site of a data wire, and of the check wire (R83). -/
def padOf (w : Nat) : Nat := if w < 32 then w else if w < 64 then w + 7 else 36

/-- The data wire at a pad site. -/
def wireAt (q : Nat) : Option Nat := if q < 32 then some q else if 39 ≤ q ∧ q < 71 then some (q - 7) else none

/-- In beat b, the wires at both neighbouring pads of wire w toggled opposite to it (R434). The beat before beat 0 is
the last beat of the frame sealed before, where the group still holds it. -/
def crosstalk (good : Frame) (before : Option Frame) (w b : Nat) : Bool :=
  let now := fun u => bitAt (frameColumn good (frameCheck good) u) b
  let was := fun u => if b = 0 then before.any fun f => bitAt (frameColumn f (frameCheck f) u) 15
    else bitAt (frameColumn good (frameCheck good) u) (b - 1)
  let rose := fun u => !was u && now u
  let fell := fun u => was u && !now u
  match wireAt (padOf w - 1), wireAt (padOf w + 1) with
  | some u, some v => (b != 0 || before.isSome) && ((rose w && fell u && fell v) || (fell w && rose u && rose v))
  | _, _ => false

/-- All eight units of a frame are in use. -/
def fullFrame (cls : Nat) (fromB : Bool) (f : Frame) : Bool :=
  if f.ctrl then true else if cls = 2 then bits f.payload.toNat 24 7 == 120
  else ((heldMsgs cls fromB f).flatMap msgUnits).length == 8

/-- The group's set sealed full frames in each of the 8 KCLK before a seal (R434). -/
def State.burst (s : State) (g o : Nat) : Bool :=
  (List.range 8).all fun i =>
    (List.range 8).any fun p =>
      let g' := gOf (gTile g) (gBT g) (gSet g) p
      (s.grp g').held.any fun h => h.orig + i + 1 == o && fullFrame (s.cls g) (gBT g) h.frame

/-- The signature of a bond wire's error (R434). -/
def State.wireSig (s : State) (g o : Nat) (cross : Bool) : Nat := s.cls g + 4 * b2n cross + 8 * b2n (s.burst g o)

/-- Localised errors of a frame of g: Kalvon-B counts its own (T→B); Kalvon-T counts its own and reports them in
WIRE_RPT (B→T) (R97, R99, R112). -/
def State.localise (s : State) (g o : Nat) (ws : List (Nat × Bool)) : State :=
  if ws.isEmpty then s
  else if gBT g then
    let s1 := ws.foldl (fun s w => s.count (KT_BND_WERR g w.1)) s
    s1.ctlToB 0x13 (pack [(0, 16, g), (16, 72, pack ((List.range 69).map fun w => (w, 1, b2n (ws.any fun e => e.1 == w))))])
  else ws.foldl (fun s w => s.wireError g w.1 (s.wireSig g o w.2)) s

/-- The spare of a repair carries its wire in frames sealed at c: it is driven, c is at or after M, and the receiving half knows of the
repair (R97). -/
def State.underRepair (s : State) (g c : Nat) (p : Repair) : Bool :=
  p.driven && decide (p.m ≤ c) && (!gBT g || (s.grp g).tRepair.isSome)

/-- The check word as it was sampled (R85). -/
def rxCheck (rx : RxFrame) : Nat := frameCtl rx.frame + 16 * rx.crc.toNat

/-- What the free spares show in any frame: one that differs from the check wire as sampled is a mismatch (R96 rule 1). -/
def State.checkSpares (s : State) (g o c : Nat) (rx : RxFrame) : State :=
  let obs := (List.range s.spares).filterMap fun k => (rx.spares[k]?).map fun v => (k, v.toNat)
  let under := fun k => (s.grp g).repair.any fun p => p.k == k && s.underRepair g c p
  let bad := obs.filter fun e => s.spare g e.1 == 0x7F && !under e.1 && e.2 != rxCheck rx
  s.localise g o (bad.map fun e => (65 + e.1, false))

/-- The comparison of a repair's spare with its wire in a frame sealed at c that passes its check, from M to S − 64 (R97): after 64
agreeing frames in a row the receiving half is ready. A frame that differs starts the row again, and once the half is ready it is
reported as disagreement, for good (assumption 63). -/
def State.checkRepair (s : State) (g c : Nat) (f : Frame) (sp : List (BitVec 16)) : State :=
  match (s.grp g).repair with
  | none => s
  | some p =>
    match sp[p.k]? with
    | none => s
    | some v =>
      if !s.underRepair g c p || p.bad || decide (p.s ≤ c + 64) then s
      else
        let good := v.toNat == frameColumn f (frameCheck f) p.w
        let p1 := { p with agree := if good then p.agree + 1 else 0 }
        let ready := decide (64 ≤ p1.agree)
        let was := decide (64 ≤ p.agree)
        -- Kalvon-T reports by REPAIR_RDY; what Kalvon-B sees itself stands at once
        if gBT g then
          let s1 := s.setGrp g { s.grp g with repair := some p1 }
          if ready && !was then s1.ctlToB 0x11 (pack [(0, 16, g), (16, 8, 0)])
          else if was && !good then s1.ctlToB 0x11 (pack [(0, 16, g), (16, 8, 1)]) else s1
        else s.setGrp g { s.grp g with repair := some { p1 with ready := ready, bad := was && !good } }

/-! ## Receiving a frame (R94, R470) -/

/-- NAK bits of a frame that passed its check after `k` retries (R85, R94 rules 2 and 5); the seal named lies 11 KCLK back, 22 at half
rate (assumption 16). -/
def State.actNaks (s : State) (g o k : Nat) (f : Frame) : State :=
  let back := if s.half then 22 else 11
  let s1 := if f.nakp then s.startRun (gClient g) (o - back) k else s
  if f.naks then
    match (s1.grp g).subst with
    | some c => s1.startRun c (o - back) k
    | none => s1
  else s1

/-- The r of a frame that the sender holds, and the KCLK in which it is presented (R94 step 5, R471). -/
def State.retriesOf (s : State) (g o : Nat) : Nat :=
  match (s.grp g).held.find? fun h => h.orig = o with
  | some h => h.r
  | none => 0

def State.presentAt (s : State) (g o : Nat) : Nat :=
  match (s.grp g).held.find? fun h => h.orig = o with
  | some h => h.due.getD (o + s.latency - 1) + s.retryTime * h.r
  | none => o + s.latency - 1

/-- A good frame whose original seal is o, sealed or resealed at c: its NAKs act, a repair's spare is compared, and it is presented, as a
frame of the failed group that g carries if it is one; with the last of those the failed group keeps no frame (R470). -/
def State.accept (s : State) (g o c : Nat) (f : Frame) (sp : List (BitVec 16)) : State :=
  -- the NAKs of a frame resealed after a recovery have been acted on if it was presented before
  let s0 := if (s.grp g).next ≤ o then s.actNaks g o (s.retriesOf g o) f else s
  let due := s.presentAt g o
  let s1 := s0.checkRepair g c f sp
  let x := s1.grp g
  match x.heirRx with
  | { g := fg, x := at_, items := it :: rest } :: jobs =>
    if reached at_ o && decide (x.next ≤ o) then
      let s2 := s1.setGrp g { x with heirRx := if rest.isEmpty then jobs else { g := fg, x := at_, items := rest } :: jobs, next := o + 1 }
      let s3 := s2.present it.g it.orig due f
      if rest.isEmpty then s3.setGrp fg ((s3.grp fg).carried (s3.sendCount fg)) else s3
    else s1.present g o due f
  | _ => s1.present g o due f

/-- The original seal of the frame sealed or resealed at count c (R94 rule 2). -/
def Group.origOf (x : Group) (c : Nat) : Nat :=
  match x.held.find? fun h => h.last = c with
  | some h => h.orig
  | none => x.missed.headD c

/-- A frame of group g sampled after a seal at count c, with its spares already looked at, in a group in service (R94). -/
def State.receiveGood (s0 : State) (g c : Nat) (rx : RxFrame) (heads : Bool) : State :=
    let x := s0.grp g
    let o := x.origOf c
    let f := rx.frame
    let pass := rx.strobe && rx.crc.toNat == frameCrc f
    let discard := if x.missed.contains o then x.missed else x.missed ++ [o]
    match x.kept with
    | some (k, copy, head) =>
      if pass && f.retry then
        -- the replay as it was sealed when the copy was taken: RETRY marks only the head of a run
        let sent := { f with retry := head }
        let before := (x.held.find? fun h => h.orig + (if s0.half then 16 else 8) = k).map (·.frame)
        let wrong := (wrongBits copy.frame sent (rxCheck copy)).map fun e => (e.1, crosstalk sent before e.1 e.2)
        ((s0.setGrp g { x with kept := none }).localise g k wrong).accept g k c f rx.spares
      else if !pass && heads then (s0.setGrp g { x with kept := some (k, rx, true) }).askRetry g
      else s0.setGrp g { x with missed := discard }
    | none =>
      let s1 := s0.setGrp g { x with missed := x.missed.filter (· != o) }
      if pass then s1.accept g o c f rx.spares
      else (s1.setGrp g { s1.grp g with kept := some (o, rx, heads) }).askRetry g

/-- Kalvon-T has not aligned a B→T group since its reset: it is looking for 8 frames in a row that pass (R100, R101). -/
def State.unaligned (s : State) (g : Nat) : Bool := gBT g && decide (s.rd KT_BND_STATUS_STATE ≤ 1) && decide ((s.grp g).tGood < 8)

/-- A frame of group g sampled after a seal at count c (R94). Nothing is taken from a group out of service; a T→B group whose strobe has
failed fails (R96 rule 6); before a B→T group is aligned its good frames are counted, and the eighth in a row is the first presented. -/
def State.receive (s : State) (g c : Nat) (rx : RxFrame) : State :=
  let heads := match s.bond.wires.find? fun w => w.1 = g ∧ w.2.1 = c with
    | some (_, _, t) => t.retry
    | none => false
  let s0 := { s with bond := { s.bond with wires := s.bond.wires.filter fun w => !(w.1 == g && w.2.1 == c) } }
  let x := s.grp g
  if s.rd (BND_GSTAT_STATE g) ≠ 0 then s0
  else if !rx.strobe && !gBT g then s0.failGroup g 1
  else if s.unaligned g then
    let good := if rx.strobe && rx.crc.toNat == frameCrc rx.frame then x.tGood + 1 else 0
    let s1 := s0.setGrp g { x with tGood := good }
    if good = 8 then s1.accept g (x.origOf c) c rx.frame rx.spares else s1
  else
    let s1 := s0.checkSpares g (x.origOf c) c rx
    if s1.rd (BND_GSTAT_STATE g) ≠ 0 then s1 else s1.receiveGood g c rx heads

end Sys2Proof.Machine
end

