-- ==== Sys2Proof/Machine/Bond.lean ====
section
/-!
DEFINITION. The commands of the bond field: training (R100, R101), frames and local retry (R87, R94, R95), repair
(R97), group recovery and heirs (R98, R470), tokens (R104), and the link control frames of R99.
-/
namespace Sys2Proof.Machine

/-! ## Shared steps of training -/

/-- The boot stops with a cause (R374): all traffic is held. -/
def State.stopBoot (s : State) (c : Nat) : State := ((s.wr IMG_BOOT_STOP 1).wr IMG_BOOT_STOPC c).holdAll

/-- A tap target of step 3; the default is 32 (R89). -/
def State.tapOf (s : State) (g w : Nat) : Nat := Sparse.get (fun _ => 32) s.boot.taps (69 * g + w)

/-- Boot step 4 begins (R101): Kalvon-B drives the B→T groups at half rate; KB_BND_STATUS shows WAKE. Factory
spare assignments count as repairs already made (R388). With default taps the field stays at half rate (R91). -/
def State.startTraining (s : State) : State :=
  let s1 := { s with bond := { s.bond with driveB := true } }
  let s2 := (s1.wr IMG_BOOT_STEP 4).wr BND_STATUS_STATE 1
  let s3 := s2.boot.facMaps.foldl (fun (s : State) (e : Nat × Nat) => s.wr (BND_SPMAP e.1) e.2) s2
  if s3.rd BND_STATUS_TAPSRC = 2 then (s3.wr BND_STATUS_RATE 1).raise EV_BND_HALF else s3

/-- TAPS for every B→T group, and Kalvon-B's own targets (R101). -/
def State.sendTaps (s : State) : State :=
  let s1 := s.boot.taps.foldl (fun (s : State) (e : Nat × Nat) => s.wr (BND_TAP_TARGET (e.1 / 69) (e.1 % 69)) e.2) s
  ((List.range s.groups).filter fun g => gBT g).foldl
    (fun s g => s.ctlToT 0x03 (pack ((0, 16, g) :: (List.range 69).map fun w => (16 + 8 * w, 8, s.tapOf g w)))) s1

/-- CAL with a new start count, a multiple of 16 at least 51,200 KCLK ahead (R458). -/
def State.sendCal (s : State) : State :=
  let c := (s.kclk + 51200 + 15) / 16 * 16
  ({ s with test := { s.test with calS := c, calTries := s.test.calTries + 1, calAcked := false } }).ctlToT 0x16
    (pack [(0, 32, c), (32, 8, s.rd TST_CCTL_DWELL), (40, 8, s.rd TST_CCTL_HMIN)])

/-- WAKE ends: TAPS, or ALIGN at half rate (R91, R101); CAL in calibration (R458). -/
def State.wakeEnds (s : State) : State :=
  if s.rd TST_STATUS_CSTATE = 1 then s.sendCal
  else if s.on BND_STATUS_RATE then (s.wr BND_STATUS_STATE 5).wr KT_BND_STATUS_STATE 5 else (s.wr BND_STATUS_STATE 2).sendTaps

/-- The class-K sets of the B→T direction, as (tile, set). -/
def State.kSetsBT (s : State) : List (Nat × Nat) :=
  ((List.range s.groups).filter fun g => gBT g && g % 8 == 0 && s.cls g == 3 && s.rd (BND_GSTAT_STATE g) == 0).map fun g => (gTile g, gSet g)

/-- A link control frame that a half acts on leaves the frames presented to it. -/
def State.tookT (s : State) (ty body : Nat) : State := { s with bond := { s.bond with ctlT := eraseOne (ty, BitVec.ofNat 1008 body) s.bond.ctlT } }
def State.tookB (s : State) (ty body : Nat) : State := { s with bond := { s.bond with ctlB := eraseOne (ty, BitVec.ofNat 1008 body) s.bond.ctlB } }

/-- The states of R101 in which Kalvon-T may act on a link control frame of a type (R99, assumption 64): WAKE in any state (R100), the frames
of training in their place in it, what concerns groups and roles once tokens are exchanged, GROUP_STATE and HOLD once it is awake. -/
def mayActT (ty st : Nat) : Bool :=
  if ty = 0x01 then true
  else if ty = 0x03 ∨ ty = 0x04 then [1, 2, 3].contains st
  else if ty = 0x05 then [6, 7].contains st
  else if ty = 0x14 ∨ ty = 0x15 then [1, 2, 3, 4, 5, 6, 7, 8].contains st
  else [7, 8].contains st

/-- The states of R101 in which Kalvon-B may act on one: WAKE_ACK in WAKE, the others from TOKEN on. -/
def mayActB (ty st : Nat) : Bool := if ty = 0x02 then st == 1 else [7, 8].contains st

/-- Kalvon-T acts on a link control frame, or ignores it and sets PROTO (R99). -/
def State.actT (s : State) (ty body : Nat) (f : State → State) : State :=
  let s1 := s.tookT ty body
  if mayActT ty (s.rd KT_BND_STATUS_STATE) then f s1 else s1.raise EV_KT_XPR_PROTO

/-- Kalvon-B acts on a link control frame, or ignores it and sets PROTO (R99). -/
def State.actB (s : State) (ty body : Nat) (f : State → State) : State :=
  let s1 := s.tookB ty body
  if mayActB ty (s.rd BND_STATUS_STATE) then f s1 else s1.raise EV_BNDX_PROTO

/-- Training goes on while the boot is not stopped (R374). -/
def State.inTraining (s : State) (st : Nat) : Bool := s.rd BND_STATUS_STATE == st && !s.on IMG_BOOT_STOP

/-- Calibration ends in FAILED: the field stays at half rate (R458). -/
def State.calFail (s : State) : State :=
  (({ s with test := { s.test with runB := .none_ } }).wr TST_STATUS_CSTATE 6).wr TST_STATUS_BUSY 0

/-- A token mismatch (R104). -/
def State.mismatch (s : State) : State :=
  let s1 := s.wr BND_STATUS_STATE 9
  let s2 := if (List.range s.groups).any fun g => gBT g && s.cls g == 3 && s.serving g then s1.ctlToT 0x15 0 else s1
  let s3 := { s2 with bond := { s2.bond with groups := s2.bond.groups.map fun (e : Nat × Group) => (e.1, { e.2 with repair := none, todo := [] }) } }
  (s3.holdAll.raise EV_BND_MISMATCH).requestReset 5 1

/-! ## Training events -/

/-- Whether a register key is a tap that steps in its half: T→B groups in Kalvon-B, B→T groups in Kalvon-T (R89). -/
def isTapKey (key : Nat) : Bool :=
  (0x2000000 ≤ key && key < 0x4000000 && 0x100 ≤ key % 0x1000 && key % 0x1000 < 0x214 && !gBT (key / 0x1000 - 0x2000)) ||
  (0x4000000 ≤ key && key < 0x6000000 && 0x100 ≤ key % 0x1000 && key % 0x1000 < 0x214 && gBT (key / 0x1000 - 0x4000))

/-- One step of a tap register toward a value. -/
def tapStep (x : Word) (goal : Nat) : Word :=
  let t := bits x.toNat 0 6
  putField x 0 6 (if t < goal then t + 1 else if goal < t then t - 1 else t)

/-- Where the taps of a half are going: to their targets, or to one value in calibration, which is 0 before the sweep
(R458). None: they do not step. -/
inductive TapGoal where
  | targets | zero | stay
  deriving DecidableEq, Repr

def State.tapGoalB (s : State) : TapGoal :=
  if s.rd TST_STATUS_CSTATE = 1 then (if s.test.calAcked then .zero else .stay) else if s.rd TST_STATUS_CSTATE = 2 then .stay else .targets

def State.tapGoalT (s : State) : TapGoal :=
  if s.rd KT_TST_STATUS_CSTATE = 2 then .stay else if s.test.calT.isSome then .zero else .targets

/-- The tap registers that step in a half: those of the wires it receives (R89). -/
def State.tapKeys (s : State) (atB : Bool) : List Nat :=
  ((List.range s.groups).filter fun g => gBT g != atB).flatMap fun g =>
    (List.range (65 + s.spares)).map fun w => if atB then (BND_TAP_TAP g w).key else (KT_BND_TAP_TAP g w).key

/-- The taps of one half make a step. -/
def State.stepTaps (s : State) (atB : Bool) : State :=
  match (if atB then s.tapGoalB else s.tapGoalT) with
  | .stay => s
  | .zero => (s.tapKeys atB).foldl (fun (s : State) k => s.setWord k (tapStep (s.word k) 0)) s
  | .targets =>
    let keys := (s.regs.filter fun (e : Nat × Word) => isTapKey e.1 && decide (e.1 < 0x4000000) == atB).map fun (e : Nat × Word) => e.1
    keys.foldl (fun (s : State) k => s.setWord k (tapStep (s.word k) (bits (s.word k).toNat 8 6))) s

/-- Every tap is at its target, and Kalvon-T has every target it was sent. -/
def State.tapsThere (s : State) : Bool :=
  (s.regs.all fun e => !isTapKey e.1 || bits e.2.toNat 0 6 == bits e.2.toNat 8 6) &&
  (s.boot.taps.all fun e => !gBT (e.1 / 69) || s.rd (KT_BND_TAP_TARGET (e.1 / 69) (e.1 % 69)) == e.2)

/-- TAP_STEP (R89): each tap that differs from its target moves one step; in STEP, when all are there, RATE names
the count at which full rate starts, a multiple of 16 at least 256 KCLK ahead (R101). In calibration the end of APPLY
does the same and begins VERIFY (R458). -/
def execTapStep (s : State) : Host.Outcome State Fault Refusal :=
  let s1 := (s.stepTaps true).stepTaps false
  let s0 := if s1.rd KT_BND_STATUS_STATE = 2 then s1.wr KT_BND_STATUS_STATE 3 else s1
  let s2 := if s0.inTraining 2 then s0.wr BND_STATUS_STATE 3 else s0
  s.done <| s.onB fun _ =>
    if s2.inTraining 3 && s2.tapsThere then
      let c := (s2.kclk + 256 + 15) / 16 * 16
      let s3 := if s2.rd TST_STATUS_CSTATE = 3 then s2.wr TST_STATUS_CSTATE 4 else s2
      (({ s3 with bond := { s3.bond with rateAt := some c } }).wr BND_STATUS_STATE 4).ctlToT 0x04 (pack [(0, 32, c)])
    else s2

/-- RATE_SWITCH (R101): at the count named, both halves switch every group to full rate; ALIGN begins. -/
def execRateSwitch (s : State) : Host.Outcome State Fault Refusal :=
  s.done <| s.onB fun s =>
    if s.inTraining 4 && s.bond.rateAt.isSome then
      (({ s with bond := { s.bond with rateAt := none } }).wr BND_STATUS_STATE 5).wr KT_BND_STATUS_STATE 5
    else s

/-- ALIGN_DONE (R90): depth 1 to 4 found for a group, or 0 when none meets the rule; a group whose strobe does not toggle fails for that
(R96 rule 6). When every group has ended, CHECK begins. -/
def execAlignDone (g depth : Nat) (strobe : Bool) (s : State) : Host.Outcome State Fault Refusal :=
  onGroup g s fun s => s.onB fun s =>
    if s.inTraining 5 then
      let s0 := (s.wr (BND_GSTAT_DEPTH g) (if depth ≤ 4 then depth else 0)).setGrp g { s.grp g with aligned := true }
      let s1 := if strobe then s0 else s0.failGroup g 1
      if (List.range s1.groups).all fun h => (s1.grp h).aligned || s1.rd (BND_GSTAT_STATE h) == 2 then
        (s1.wr BND_STATUS_STATE 6).wr KT_BND_STATUS_STATE 6
      else s1
    else s

/-- One group at the end of CHECK: failed alignment, spares mapped, or no spare (R101). -/
def State.checkGroup (s : State) (seen : List (Nat × List (Nat × Nat))) (g : Nat) : State :=
  if s.rd (BND_GSTAT_STATE g) = 2 then s
  else if s.rd (BND_GSTAT_DEPTH g) = 0 then s.failGroup g 3
  else
    match s.checkWires g (s.failedOf seen g) with
    | some s1 => s1.spareCounts g
    | none => s.failGroup g 2

/-- CHECK_WINDOW_END (R101, R103, R104): what each group sampled is compared with PRBS-15, and the wires that failed are mapped to spares;
the tokens are computed; boot step 5 begins with TOKEN_REQ. Without a class-K set in a direction the boot stops
with cause bond wake. -/
def execCheckWindowEnd (seen : List (Nat × List (Nat × Nat))) (s : State) : Host.Outcome State Fault Refusal :=
  s.done <| s.onB fun s =>
    if s.inTraining 6 && s.rd TST_STATUS_CSTATE == 0 then
      let s1 := (List.range s.groups).foldl (fun s g => s.checkGroup seen g) s
      let left := fun bt => (List.range s1.groups).any fun g => gBT g == bt && s1.cls g == 3 && s1.serving g
      if left true && left false then
        let s2 := (s1.wr BND_RTOKEN s1.roleToken).newWidthToken
        let s3 := if !s2.caddyOpen then s2 else { s2 with hdr := { s2.hdr with rtok := s2.rd BND_RTOKEN } }
        let s4 := ((s3.wr BND_STATUS_STATE 7).wr KT_BND_STATUS_STATE 7).wr IMG_BOOT_STEP 5
        ({ s4 with bond := { s4.bond with tokens := 1 } }).ctlToT 0x05 0
      else (s1.stopBoot 3).requestReset 5 4
    else s

/-- BOND_WAKE_TIMEOUT (R101): class-K sets that have not answered WAKE are replaced by those that have; with none
left the boot stops at step 4 with cause bond wake and a full reset is requested. -/
def execBondWakeTimeout (s : State) : Host.Outcome State Fault Refusal :=
  s.done <| s.onB fun s =>
    if s.inTraining 1 then
      let silent := s.kSetsBT.filter fun k => !s.bond.acked.contains k
      if s.rd TST_STATUS_CSTATE ≠ 0 then (if s.rd TST_STATUS_CSTATE = 1 ∧ s.test.calTries = 0 then s.calFail else s)
      else if s.bond.acked.isEmpty then (s.stopBoot 3).requestReset 5 4
      else
        let gs := silent.flatMap fun k => (List.range 8).map fun p => (gOf k.1 true k.2 p, 7)
        (State.failAll (2 * s.groups) gs s).wakeEnds
    else s

/-- WAKE in Kalvon-T (R100, R101): in any state it aligns, sets its count so that WAKE reads its carried count
+ 19, drives the T→B groups and answers WAKE_ACK on the T→B set of the same tile and set index. -/
def execWake (tile set count rev : Nat) (s : State) : Host.Outcome State Fault Refusal :=
  let body := pack [(0, 32, count), (32, 8, tile), (40, 8, set), (48, 8, rev)]
  s.done <| s.onT fun s =>
    if s.on KT_TST_STATUS_TMODE then s
    else
      let s1 := (s.tookT 0x01 body).wr KT_BND_STATUS_STATE 1
      let ack := XItem.ctrlOn tile set 0x02 (BitVec.ofNat 1008 body)
      { s1 with tclk := count + 19, bond := { s1.bond with driveT := true, xTB := s1.bond.xTB ++ [ack] } }

/-- WAKE_ACK in Kalvon-B (R101): the T→B group set has answered; when every class-K set has, WAKE ends. -/
def execWakeAck (tile set count rev : Nat) (s : State) : Host.Outcome State Fault Refusal :=
  let body := pack [(0, 32, count), (32, 8, tile), (40, 8, set), (48, 8, rev)]
  s.done <| s.onB fun s => s.actB 0x02 body fun s1 =>
    if s1.on IMG_BOOT_STOP then s1
    else
      let a := if s1.bond.acked.contains (tile, set) then s1.bond.acked else s1.bond.acked ++ [(tile, set)]
      let s2 := { s1 with bond := { s1.bond with acked := a } }
      if s2.kSetsBT.all fun k => a.contains k then s2.wakeEnds else s2

/-- TAPS in Kalvon-T (R99, R101): the tap targets of the received wires of one B→T group. -/
def execTaps (g : Nat) (taps : List Nat) (s : State) : Host.Outcome State Fault Refusal :=
  onGroup g s fun s => s.onT fun s =>
    let body := pack ((0, 16, g) :: (List.range 69).map fun w => (16 + 8 * w, 8, taps.getD w 0))
    s.actT 0x03 body fun s => (List.range 69).foldl (fun s w => s.wr (KT_BND_TAP_TARGET g w) (taps.getD w 0)) (s.wr KT_BND_STATUS_STATE 2)

/-- RATE in Kalvon-T (R101): the count at which full rate starts. -/
def execRate (count : Nat) (s : State) : Host.Outcome State Fault Refusal :=
  s.done <| s.onT fun s => s.actT 0x04 (pack [(0, 32, count)]) fun s =>
    let s1 := s.wr KT_BND_STATUS_STATE 4
    { s1 with bond := { s1.bond with rateAt := some count } }

/-! ## Tokens (R104) and roles -/

/-- TOKEN_RPT with what Kalvon-T holds. -/
def State.tokenReport (s : State) : State :=
  s.ctlToB 0x06 (pack [(0, 16, s.rd KT_BND_HELD_INC), (16, 32, s.rd KT_BND_WTOKEN), (48, 32, s.rd KT_BND_RTOKEN)])

/-- TOKEN_REQ in Kalvon-T (R104): answered with TOKEN_RPT. -/
def execTokenReq (s : State) : Host.Outcome State Fault Refusal :=
  s.done <| s.onT fun s => s.actT 0x05 0 fun s => (s.wr KT_BND_STATUS_STATE 7).tokenReport

/-- TOKEN_SET in Kalvon-T (R104): the values are held and reported. -/
def execTokenSet (inc wtok rtok : Nat) (s : State) : Host.Outcome State Fault Refusal :=
  s.done <| s.onT fun s => s.actT 0x07 (pack [(0, 16, inc), (16, 32, wtok), (48, 32, rtok)]) fun s =>
    (((s.wr KT_BND_HELD_INC inc).wr KT_BND_WTOKEN wtok).wr KT_BND_RTOKEN rtok).tokenReport

/-- IDENT from Kalvon-B (R134, R135): identity, version, HLP-S 1.1, tiles; every capability of R135. -/
def msgIdentB (s : State) : XMsg :=
  { hdr := BitVec.ofNat 128 (pack [(0, 8, 0x70), (8, 2, 1), (16, 16, 0x7A11), (32, 16, 0x0C01), (48, 32, 0x00010002), (80, 8, 1), (88, 8, 1), (96, 2, s.buildWord % 4)]),
    data := [0x054001FF] }

/-- TOKEN_RPT in Kalvon-B (R104): after TOKEN_REQ, all zero is answered with TOKEN_SET and anything else is a
mismatch; after TOKEN_SET the exchange is complete and IDENT is sent (R136). -/
def execTokenRpt (inc wtok rtok : Nat) (s : State) : Host.Outcome State Fault Refusal :=
  s.done <| s.onB fun s => s.actB 0x06 (pack [(0, 16, inc), (16, 32, wtok), (48, 32, rtok)]) fun s1 =>
    if s1.on IMG_BOOT_STOP then s1
    else if s1.bond.tokens = 1 then
      if inc = 0 ∧ wtok = 0 ∧ rtok = 0 then ({ s1 with bond := { s1.bond with tokens := 2 } }).sendTokenSet else s1.mismatch
    else if s1.bond.tokens = 2 then
      ({ s1 with bond := { s1.bond with tokens := 3, identTries := 1 } }).sendT 3 (msgIdentB s1)
    else s1

/-- TOKEN_SILENCE_TIMEOUT (R104): no good T→B class-K frame for 4,096 KCLK in TAPS, STEP, RATE, TOKEN or ACTIVE. -/
def execTokenSilenceTimeout (s : State) : Host.Outcome State Fault Refusal :=
  s.done <| s.onB fun s => if s.rd TST_STATUS_CSTATE = 0 ∧ [2, 3, 4, 7, 8].contains (s.rd BND_STATUS_STATE) then s.mismatch else s

/-- CLASS_K_LOSS_TIMEOUT (R104): Kalvon-T holds all traffic, sets LOSS and waits for WAKE. -/
def execClassKLossTimeout (s : State) : Host.Outcome State Fault Refusal :=
  s.done <| s.onT fun s => (({ s with tHold := true }).wr KT_BND_STATUS_STATE 9).raise EV_KT_BND_LOSS

/-- ROLES in Kalvon-T (R99, R101): the role word of one tile. -/
def execRoles (tile word : Nat) (s : State) : Host.Outcome State Fault Refusal :=
  s.done <| s.onT fun s => s.actT 0x08 (pack [(0, 16, tile), (16, 32, word)]) fun s =>
    let s1 := s.wr KT_BND_STATUS_STATE 8
    { s1 with bond := { s1.bond with tRoles := Sparse.set (fun _ => 0) s1.bond.tRoles tile word } }

/-- HOLD in Kalvon-T (R27, R99): all traffic is held; any repair is abandoned. -/
def execHold (s : State) : Host.Outcome State Fault Refusal :=
  s.done <| s.onT fun s => s.actT 0x15 0 fun s =>
    let s1 := s.wr KT_BND_STATUS_STATE 9
    { s1 with tHold := true, bond := { s1.bond with groups := s1.bond.groups.map fun (e : Nat × Group) => (e.1, { e.2 with tRepair := none }) } }

/-! ## Frames -/

/-- FRAME_SEAL (R87): in its sealing slot, the sending half seals a frame of the group. A group out of service
seals none, and in CHECK the wires carry PRBS-15 (R101). -/
def execFrameSeal (g at_ : Nat) (s : State) : Host.Outcome State Fault Refusal :=
  onGroup g s fun s =>
    if gBT g then
      s.onB fun s => if s.bond.driveB ∧ s.isSlot g at_ ∧ s.rd (BND_GSTAT_STATE g) = 0 ∧ s.rd BND_STATUS_STATE ≠ 6 then s.sealSlot g at_ else s
    else
      s.onT fun s => if s.bond.driveT ∧ s.isSlot g at_ ∧ (s.grp g).tState = 0 ∧ s.rd KT_BND_STATUS_STATE ≠ 6 then s.sealSlot g at_ else s

/-- FRAME_RECEIVE (R94): the frame sealed at a count is checked in the receiving half. -/
def execFrameReceive (g sealed : Nat) (rx : RxFrame) (s : State) : Host.Outcome State Fault Refusal :=
  onGroup g s fun s => if gBT g then s.onT fun s => s.receive g sealed rx else s.onB fun s => s.receive g sealed rx

/-- RETRY_WAIT_TIMEOUT (R95): the receiver has waited 64 KCLK for a RETRY frame. -/
def execRetryWaitTimeout (g : Nat) (s : State) : Host.Outcome State Fault Refusal :=
  onGroup g s fun s => s.onB fun s => if (s.grp g).kept.isSome then s.recoverGroup g else s

/-- GROUP_RECOVERY_DONE (R98): with the depth of training and the check passed the group returns to service and
its held frames are resealed first, each reseal counting as the take (R471); otherwise it fails. -/
def execGroupRecoveryDone (g depth : Nat) (strobe : Bool) (seen : List (Nat × Nat)) (s : State) : Host.Outcome State Fault Refusal :=
  onGroup g s fun s => s.onB fun s =>
    if s.rd (BND_GSTAT_STATE g) ≠ 1 then s
    else if !strobe then s.failGroup g 1
    else if depth = 0 ∨ 4 < depth then s.failGroup g 3
    else if depth ≠ s.rd (BND_GSTAT_DEPTH g) then s.failGroup g 4
    else
      match s.checkWires g (s.failedWires seen) with
      | none => s.failGroup g 2
      | some s1 =>
        let x := s1.grp g
        let seals := x.sealsFrom 0
        let s2 := (s1.wr (BND_GSTAT_STATE g) 0).setGrp g
          { x with stopped := false, run := seals, runHead := true, kept := none, missed := seals, errs := [],
                   held := x.held.map fun h => { h with r := 0, due := none } }
        ((s2.spareCounts g).newWidthToken.sendTokenSet).sendGroupState g 0 0

/-! ## Repair -/

/-- REPAIR_SPARE_DRIVE (R97): at M the transmitting half drives the wire's bits on the spare. -/
def execRepairSpareDrive (g : Nat) (s : State) : Host.Outcome State Fault Refusal :=
  onGroup g s fun s =>
    match (s.grp g).repair with
    | some p => if gBT g ∨ (s.grp g).tRepair.isSome then s.setGrp g { s.grp g with repair := some { p with driven := true } } else s
    | none => s

/-- REPAIR_READY_CHECK (R97): at S − 64, a repair that is not ready, or in disagreement, is cancelled; the spare
goes out of use and the repair starts again with the next. -/
def execRepairReadyCheck (g : Nat) (s : State) : Host.Outcome State Fault Refusal :=
  onGroup g s fun s => s.onB fun s =>
    match (s.grp g).repair with
    | some p =>
      if p.ready && !p.bad then s
      else
        let s1 := (s.setGrp g { s.grp g with repair := none }).ctlToT 0x12 (pack [(0, 16, g)])
        ((s1.setSpare g p.k 0x7E).spareCounts g).startRepair g p.w
    | none => s

/-- REPAIR_SWITCH (R97): at S both halves switch the wire onto the spare; REPAIR is set, the width token updated,
written to Caddy and sent; the next waiting repair starts. -/
def execRepairSwitch (g : Nat) (s : State) : Host.Outcome State Fault Refusal :=
  onGroup g s fun s => s.onB fun s =>
    let x := s.grp g
    match x.repair with
    | some p =>
      if p.ready && !p.bad then
        let s1 := s.setGrp g { x with repair := none, tRepair := none, tMap := setBits x.tMap (8 * p.k) 8 p.w,
                                      errs := x.errs.filter fun e => e.1 != p.w }
        let s2 := ((s1.setSpare g p.k p.w).spareCounts g).raise EV_BND_REPAIR
        let s3 := s2.newWidthToken.sendTokenSet
        match (s3.grp g).todo with
        | w :: ws => (s3.setGrp g { s3.grp g with todo := ws }).startRepair g w
        | [] => s3
      else s
    | none => s

/-- REPAIR in Kalvon-T (R97): the wire, the spare, M and S of a repair to come. -/
def execRepair (g w k m sw : Nat) (s : State) : Host.Outcome State Fault Refusal :=
  onGroup g s fun s => s.onT fun s => s.actT 0x10 (pack [(0, 16, g), (16, 8, w), (24, 8, k), (32, 32, m), (64, 32, sw)]) fun s1 =>
    s1.setGrp g { s1.grp g with tRepair := some (w, k, m, sw) }

/-- REPAIR_RDY in Kalvon-B (R97): the receiving half agrees or disagrees. -/
def execRepairRdy (g : Nat) (bad : Bool) (s : State) : Host.Outcome State Fault Refusal :=
  onGroup g s fun s => s.onB fun s => s.actB 0x11 (pack [(0, 16, g), (16, 8, b2n bad)]) fun s1 =>
    match (s1.grp g).repair with
    | some p => s1.setGrp g { s1.grp g with repair := some { p with ready := !bad, bad := bad } }
    | none => s1

/-- REPAIR_CANCEL in Kalvon-T (R97): the spare returns to check copying; it goes out of use. -/
def execRepairCancel (g : Nat) (s : State) : Host.Outcome State Fault Refusal :=
  onGroup g s fun s => s.onT fun s => s.actT 0x12 (pack [(0, 16, g)]) fun s1 =>
    let x := s1.grp g
    match x.tRepair with
    | some (_, k, _, _) => s1.setGrp g { x with tRepair := none, tMap := setBits x.tMap (8 * k) 8 0x7E }
    | none => s1

/-- WIRE_RPT in Kalvon-B (R97): the wires of a B→T group in which Kalvon-T localised an error in one retry. The
beat is not reported, so the crosstalk bit of the signature is 0 (assumption 18). -/
def execWireRpt (g mask : Nat) (s : State) : Host.Outcome State Fault Refusal :=
  onGroup g s fun s => s.onB fun s => s.actB 0x13 (pack [(0, 16, g), (16, 72, mask)]) fun s1 =>
    ((List.range 69).filter fun w => bitAt mask w).foldl (fun s w => s.wireError g w (s.cls g)) s1

/-! ## Group state and heirs -/

/-- GROUP_STATE in Kalvon-T (R98, R470): the group's state; a failed B→T group is answered with GROUP_RPT, which
carries the seal of its oldest frame not presented. -/
def execGroupState (g st cause : Nat) (s : State) : Host.Outcome State Fault Refusal :=
  onGroup g s fun s => s.onT fun s => s.actT 0x14 (pack [(0, 16, g), (16, 8, st), (24, 8, cause)]) fun s1 =>
    let s2 := s1.setGrp g { s1.grp g with tState := st, tRepair := if st = 0 then (s1.grp g).tRepair else none }
    if st = 2 ∧ gBT g then
      match (s2.grp g).unpresented g with
      | some r => s2.ctlToB 0x19 (pack [(0, 16, g), (16, 8, 0), (24, 32, r)])
      | none => s2.ctlToB 0x19 (pack [(0, 16, g), (16, 8, 1)])
    else s2

/-- GROUP_RPT in Kalvon-B (R470): with R, the heir of the failed B→T group is chosen and HEIR sent. -/
def execGroupRpt (g : Nat) (none_ : Bool) (r : Nat) (s : State) : Host.Outcome State Fault Refusal :=
  onGroup g s fun s => s.onB fun s => s.actB 0x19 (if none_ then pack [(0, 16, g), (16, 8, 1)] else pack [(0, 16, g), (16, 8, 0), (24, 32, r)]) fun s1 =>
    if !none_ && gBT g && s1.rd (BND_GSTAT_STATE g) == 2 then s1.appointHeir g r else s1

/-- HEIR in Kalvon-T (R470): the sending half of a T→B group reseals the failed group's frames on the heir from X
on; the receiving half of a B→T group takes the first N frames of the heir from X on as the failed group's. -/
def execHeir (g h r x n : Nat) (s : State) : Host.Outcome State Fault Refusal :=
  onGroup h s fun s => s.onT fun s => s.actT 0x18 (pack [(0, 16, g), (16, 16, h), (32, 32, r), (64, 32, x), (96, 8, n)]) fun s1 =>
    s1.addJob h (!gBT h) { g := g, x := x, items := ((s1.grp g).carryFrom g r).take n }

/-- HEIR_RESEAL_START (R470): X is reached; from now on the heir's sealing slots carry the failed group's frames. -/
def execHeirResealStart (g : Nat) (s : State) : Host.Outcome State Fault Refusal :=
  onGroup g s fun s =>
    match (s.grp g).heir with
    | j :: js => s.setGrp g { s.grp g with heir := { j with x := min j.x (s.sendCount g) } :: js }
    | [] => s

end Sys2Proof.Machine
end

