-- ==== Sys2Proof/Machine/Clock.lean ====
section
/-!
DEFINITION. The running count (R255 to R257), stamps (R262, R263), instants and the KCLK in which they are reached.
-/
namespace Sys2Proof.Machine

/-- F in units of 2^-40 au (R255). -/
def State.fnow (s : State) : Nat :=
  s.cycle <<< 56 + s.angle <<< 40 + s.rd TIM_ANGLE_FRAC <<< 24 + s.time.fracLo

def State.setF (s : State) (f : Nat) : State :=
  let s1 := (s.wr TIM_CYC_LO (bits f 56 32)).wr TIM_CYC_HI_CYCLE (bits f 88 16)
  let s2 := (s1.wr TIM_ANGLE_ANGLE (bits f 40 16)).wr TIM_ANGLE_FRAC (bits f 24 16)
  { s2 with time := { s2.time with fracLo := f % 2 ^ 24 } }

def State.incr (s : State) : Nat := s.rd TIM_INC_LO + s.rd TIM_INC_HI_INC <<< 32

def State.setIncr (s : State) (i : Nat) : State := (s.wr TIM_INC_LO (i % 2 ^ 32)).wr TIM_INC_HI_INC (i >>> 32)

/-- A quotient rounded to the nearest integer, halves upward. -/
def roundDiv (a b : Int) : Int := if b = 0 then 0 else (2 * a + b) / (2 * b)

/-- The nominal increment of a period (R255). -/
def incNom (p : Nat) : Nat := if p = 0 then 0 else (2 ^ 57 + p) / (2 * p)

/-- The epoch in KCLK (R259). -/
def State.epochK (s : State) : Nat := s.rd TIM_EPOCH_EPER * 3125 / 2

/-- The KCLK of the next expected marker. -/
def State.nextMarker (s : State) : Nat := s.time.marker + s.epochK

/-- An instant (R257) as one number: c × 65,536 + a. -/
def instant (c a : Nat) : Nat := c * 65536 + a

/-- An instant is reached (R257). -/
def State.reached (s : State) (i : Nat) : Bool := decide (i ≤ s.fnow >>> 40)

/-- How far an instant lies ahead is at least `k` KCLK of the period in force. -/
def State.ahead (s : State) (i k : Nat) : Bool := decide (s.fnow * s.rd TIM_PCUR_P + k * 2 ^ 56 ≤ (i <<< 40) * s.rd TIM_PCUR_P)

/-- An instant lies within a number of µs of fabric time, of the period in force. -/
def State.withinUs (s : State) (i us : Nat) : Bool :=
  decide (2 * (i <<< 40) * s.rd TIM_PCUR_P ≤ 2 * s.fnow * s.rd TIM_PCUR_P + us * 3125 * 2 ^ 56)

/-- KB_TIM_CTL.ROLE (R261): 1 leader, 2 root; anything else follows. -/
def State.tRole (s : State) : Nat := let r := s.rd TIM_CTL_ROLE; if r = 1 ∨ r = 2 then r else 0

def State.tst (s : State) : Nat := s.rd TIM_STATUS_STATE

/-- The continuation at a marker (R260). -/
def State.continuation (s : State) : Nat :=
  if s.tRole = 2 ∧ s.tst = 2 then s.time.f0 + (s.epochK / max 1 (s.rd TIM_PCUR_P)) <<< 56 else s.time.f0 + s.epochK * s.incr

/-- A marker at which F would be `due` is the one that starts cycle `ce` (R273), or a later one. C_eff starts at a marker of the
root, so of the markers of a rack the one nearest to it is meant (assumption 76). -/
def State.startsCycle (s : State) (due ce : Nat) : Bool := decide (ce <<< 56 ≤ due + s.epochK * s.incr / 2)

/-- The period change that the marker with F = `due` brings into force (R273). -/
def State.changeAt (s : State) (due : Nat) : Option (Nat × Nat) :=
  match s.time.pchg with
  | some (p, ce) => if s.startsCycle due ce && decide (due < ce <<< 56 + s.epochK * s.incr / 2) then some (p, ce) else none
  | none => none

/-- The increment from a marker on that starts a period: that of the correction, where it was made for this period (R265). -/
def incAfter (c : Option Corr) (p : Nat) : Nat :=
  match c with
  | some c => if c.period = p then c.inc else incNom p
  | none => incNom p

/-- F at the next marker and the increment after it, by the correction held (R267) or by the continuation (R260), or at the
start of a new period (R273). -/
def State.nextF (s : State) : Nat × Nat :=
  let (f0, inc) := match s.time.held with
    | some c => (c.f0, c.inc)
    | none => (s.continuation, s.incr)
  match s.changeAt f0 with
  | some (p, ce) => (ce <<< 56, incAfter s.time.held p)
  | none => (f0, inc)

/-- The KCLK in which an instant is reached, by the time base in force and that of the next marker (R118, R267); none
while time does not run. -/
def State.kOf (s : State) (i : Nat) : Option Nat :=
  let x := i <<< 40
  let f := s.fnow
  let up := fun (a d : Nat) => (a + d - 1) / d
  if s.incr = 0 then none
  else if x ≤ f then some s.kclk
  else
    let k := s.kclk + up (x - f) s.incr
    if k < s.nextMarker ∨ s.nextMarker ≤ s.kclk then some k
    else
      let (f0, inc) := s.nextF
      if x ≤ f0 then some s.nextMarker else if inc = 0 then none else some (s.nextMarker + up (x - f0) inc)

/-- The marker at which the correction held steps forward over an instant (R270, R288). -/
def State.passAt (s : State) (i : Nat) : Option Nat :=
  match s.time.held with
  | some c => if c.step && decide (s.continuation < i <<< 40) && decide (i <<< 40 ≤ c.f0) then some s.nextMarker else none
  | none => none

/-- A forward step at a marker has passed over instants: the triggers that wait for them are marked with its KCLK
(R288). `c` is what the continuation would have given. -/
def State.passTrigs (s : State) (c : Nat) : State :=
  let mark := fun (t : PTrig) => if !t.done && decide (c < t.inst <<< 40) && decide (t.inst <<< 40 ≤ s.fnow) then { t with passed := some s.kclk } else t
  { s with pour := { s.pour with armed := s.pour.armed.map fun a => { a with slot := a.slot.map fun sl => { sl with trigs := sl.trigs.map mark } } } }

/-! ## The operating point (R41, R359) -/

/-- The operating point of a pending change whose instant is reached, once its OPP message is out (R31, R359 step 3). -/
def State.takeOpp (s : State) : State :=
  match s.pace.opp with
  | some (inst, o, true) =>
    if s.reached inst then
      ((({ s with pace := { s.pace with opp := none } }.wr PAC_STATUS_OPP o).wr PAC_STATUS_OPPPEND 0).wr PAC_STATUS_OPPNEXT 0).raise EV_PAC_OPPCHG
    else s
  | _ => s

/-! ## Stamps (R262, R263) -/

/-- LCLK parts and external delays, in units of F: an LCLK is 128 ÷ 106.25 ns, a KCLK 0.64 ns, a delay unit
10 ps, so an LCLK is 32 ÷ 17 KCLK and a delay unit 1 ÷ 64 KCLK; the fraction of a unit is dropped. -/
def State.extF (s : State) (lclk ext : Nat) : Nat :=
  let p := s.rd TIM_PCUR_P
  if p = 0 then 0 else (lclk * 2048 + ext * 17) * 2 ^ 56 / (p * 1088)

/-- The 48 bits of a stamp: CYCLE[23:0], ANGLE, FRAC[39:32]. -/
def stampOf (f : Nat) : Nat := bits f 32 48

/-- Bytes of a stamp in a message: CYCLE in bytes 0 to 2, ANGLE in bytes 3 and 4, FRAC in byte 5 (R262). -/
def stampBytes (f : Nat) : Nat := pack [(0, 24, bits f 56 24), (24, 16, bits f 40 16), (40, 8, bits f 32 8)]

/-- A stamp read from its 6 bytes. -/
def readStamp (x : Nat) : Nat := pack [(0, 8, bits x 40 8), (8, 16, bits x 24 16), (24, 24, bits x 0 24)]

/-- F at a transmit stamp: the flit is handed to the gearbox now (R263). -/
def State.txStamp (s : State) (n : Nat) : Nat :=
  s.fnow + 6 * s.incr + s.extF (s.rd (LNK_LAT_TXD n)) (s.rd (TIM_LADJ_TXEXT n))

/-- F at a receive stamp: the flit is presented now (R263). -/
def State.rxStamp (s : State) (n : Nat) : Nat :=
  s.fnow - 14 * s.incr - s.extF (s.rd (LNK_LAT_RXD n)) (s.rd (TIM_LADJ_RXEXT n))

/-- The time-transfer messages get their stamps as their flit leaves (R263): TT_REQ notes t1 and its flit, TT_RSP
takes t3, TT_CYC takes the cycle of the t3 that its TT_RSP took. -/
def State.stampByp (s : State) (n num : Nat) (u : Unit128) : Unit128 × State :=
  let x := u.toNat
  let ty := bits x 0 8
  if ty = 0x20 then
    let f := s.txStamp n
    (u, { s with time := { s.time with tt := s.time.tt.map fun e => if e.seq = bits x 8 8 then { e with t1 := some f, flit := num } else e } })
  else if ty = 0x21 then
    let f := s.txStamp n
    let t3 := (s.time.t3.filter fun (e : Nat × Nat × Nat) => !(e.1 == n && e.2.1 == bits x 8 8)) ++ [(n, bits x 8 8, f)]
    (BitVec.ofNat 128 (setBits x 72 48 (stampBytes f)), { s with time := { s.time with t3 := t3 } })
  else if ty = 0x22 then
    match takeFirst (fun (e : Nat × Nat × Nat) => e.1 == n && e.2.1 == bits x 8 8) s.time.t3 with
    | (some e, rest) => (BitVec.ofNat 128 (setBits x 16 48 (e.2.2 >>> 56)), { s with time := { s.time with t3 := rest } })
    | (none, _) => (u, s)
  else (u, s)

/-- A flit of a link that carries a TT_REQ has been replayed (R264). -/
def State.markReplayed (s : State) (n num : Nat) : State :=
  if n = s.rd TIM_CTL_PARENT then
    { s with time := { s.time with tt := s.time.tt.map fun e => if e.t1.isSome && e.flit = num then { e with replayed := true } else e } }
  else s

end Sys2Proof.Machine
end

