-- ==== Sys2Proof/Machine/Codec.lean ====
section
/-!
DEFINITION. The codes of the links: RS(272,256) over GF(2^10) (R139 to R142), the CRC-64 of flits and tiles (R144,
R222), and AES-256-GCM as NIST FIPS 197 and SP 800-38D define it (R193; assumption 21).
-/
namespace Sys2Proof.Machine

/-! ## GF(2^10) and RS(272,256) (R139, R140) -/

/-- One shift-and-add step of a product in GF(2^10), x^10 = x^3 + 1. -/
def gfMulGo : Nat → Nat → Nat → Nat → Nat
  | 0, _, _, acc => acc
  | n + 1, a, b, acc =>
    let a2 := if a.testBit 9 then (2 * a % 1024) ^^^ 0x9 else 2 * a
    gfMulGo n a2 (b / 2) (if b % 2 = 1 then acc ^^^ a else acc)

def gfMul (a b : Nat) : Nat := gfMulGo 10 a b 0

def gfPowGo : Nat → Nat → Nat → Nat → Nat
  | 0, _, _, acc => acc
  | n + 1, a, e, acc => gfPowGo n (gfMul a a) (e / 2) (if e % 2 = 1 then gfMul acc a else acc)

def gfPow (a e : Nat) : Nat := gfPowGo 10 a (e % 1023) 1

def gfInv (a : Nat) : Nat := gfPow a 1022

/-- Polynomials: coefficients from x^0 upward. -/
def polyEval (p : List Nat) (x : Nat) : Nat := p.foldr (fun c acc => c ^^^ gfMul x acc) 0

/-- p times (x + r). -/
def polyMulRoot (p : List Nat) (r : Nat) : List Nat :=
  (List.range (p.length + 1)).map fun i => (if i = 0 then 0 else p.getD (i - 1) 0) ^^^ gfMul r (p.getD i 0)

/-- g(x), the product of (x − α^j), j = 0 to 15; α = 2. -/
def rsGen : List Nat := (List.range 16).foldl (fun p j => polyMulRoot p (gfPow 2 j)) [1]

/-- The 16 parity symbols p_0 to p_15 of 256 message symbols (R140). -/
def rsParity (ms : List Nat) : List Nat :=
  -- the register holds the coefficients of x^15 down to x^0
  ms.foldl (fun reg m =>
    let fb := m ^^^ reg.headD 0
    (List.range 16).map fun i => (if i = 15 then 0 else reg.getD (i + 1) 0) ^^^ gfMul fb (rsGen.getD (15 - i) 0))
    (List.replicate 16 0)

/-- The codeword of 256 message symbols. -/
def rsEncode (ms : List Nat) : List Nat := ms ++ rsParity ms

/-- Syndromes S_0 to S_15 of a received word. -/
def rsSyndromes (cs : List Nat) : List Nat :=
  (List.range 16).map fun j => let x := gfPow 2 j; cs.foldl (fun acc c => gfMul acc x ^^^ c) 0

/-- One round of the search for the error locator: (locator, previous, length, gap, previous discrepancy). -/
def bmStep (syn : List Nat) (st : List Nat × List Nat × Nat × Nat × Nat) (n : Nat) : List Nat × List Nat × Nat × Nat × Nat :=
  let (c, b, l, m, bd) := st
  let d := (List.range (l + 1)).foldl (fun acc i => acc ^^^ gfMul (c.getD i 0) (if i ≤ n then syn.getD (n - i) 0 else 0)) 0
  if d = 0 then (c, b, l, m + 1, bd)
  else
    let k := gfMul d (gfInv bd)
    let c1 := (List.range (max c.length (b.length + m))).map fun i => c.getD i 0 ^^^ (if m ≤ i then gfMul k (b.getD (i - m) 0) else 0)
    if 2 * l ≤ n then (c1, c, n + 1 - l, 1, d) else (c1, b, l, m + 1, bd)

/-- The error locator and its length. -/
def rsLocator (syn : List Nat) : List Nat × Nat :=
  let (c, _, l, _, _) := (List.range 16).foldl (bmStep syn) ([1], [1], 0, 1, 1)
  (c, l)

/-- A received word corrected, with the positions of its symbol errors; none with more than 8 (R142). -/
def rsDecode (cs : List Nat) : Option (List Nat × List Nat) :=
  let syn := rsSyndromes cs
  if syn.all (· == 0) then some (cs, [])
  else
    let (lam, l) := rsLocator syn
    let pos := (List.range 272).filter fun k => polyEval lam (gfPow 2 (1023 - (271 - k))) == 0
    if 8 < l ∨ pos.length ≠ l then none
    else
      let omega := (List.range l).map fun i => (List.range (i + 1)).foldl (fun acc j => acc ^^^ gfMul (lam.getD j 0) (syn.getD (i - j) 0)) 0
      let deriv := (List.range lam.length).map fun i => if i % 2 = 0 then lam.getD (i + 1) 0 else 0
      let fixed := pos.foldl (fun cs k =>
        let x := gfPow 2 (271 - k)
        let xi := gfInv x
        let e := gfMul x (gfMul (polyEval omega xi) (gfInv (polyEval deriv xi)))
        cs.set k (cs.getD k 0 ^^^ e)) cs
      if (rsSyndromes fixed).all (· == 0) then some (fixed, pos) else none

/-- The message symbols of a flit, and the flit of message symbols (R140). -/
def flitSymbols (f : BitVec 2560) : List Nat := (List.range 256).map fun i => bits f.toNat (10 * i) 10

def symbolsFlit (ms : List Nat) : BitVec 2560 := BitVec.ofNat 2560 (pack ((List.range 256).map fun i => (10 * i, 10, ms.getD i 0)))

/-! ## CRC-64 (R144, R222) -/

def poly64 : Nat := 0x42F0E1EBA9EA3693

/-- The CRC-64 of a flit: bits 0 to 2,495. -/
def flitCrc (f : BitVec 2560) : Nat := crcUp 64 poly64 2496 f.toNat (2 ^ 64 - 1)

/-- A flit with its CRC-64 in place. -/
def sealFlit (x : Nat) : BitVec 2560 :=
  let f := BitVec.ofNat 2560 (x % 2 ^ 2496)
  BitVec.ofNat 2560 (f.toNat + flitCrc f <<< 2496)

def flitGood (f : BitVec 2560) : Bool := bits f.toNat 2496 64 == flitCrc f

/-- The tile check: prefix and payload bytes, each bit 0 first, inverted at the end (R222). -/
def crc64Bytes (bs : List Nat) : Nat := (2 ^ 64 - 1) ^^^ bs.foldl (fun r b => crcUp 64 poly64 8 b r) (2 ^ 64 - 1)

/-! ## AES-256-GCM -/

def aesX2 (a : Nat) : Nat := if a.testBit 7 then (2 * a % 256) ^^^ 0x1B else 2 * a

def aesMulGo : Nat → Nat → Nat → Nat → Nat
  | 0, _, _, acc => acc
  | n + 1, a, b, acc => aesMulGo n (aesX2 a) (b / 2) (if b % 2 = 1 then acc ^^^ a else acc)

def aesMul (a b : Nat) : Nat := aesMulGo 8 a b 0

def aesInv (a : Nat) : Nat :=
  let a2 := aesMul a a; let a4 := aesMul a2 a2; let a8 := aesMul a4 a4; let a16 := aesMul a8 a8
  let a32 := aesMul a16 a16; let a64 := aesMul a32 a32; let a128 := aesMul a64 a64
  aesMul a2 (aesMul a4 (aesMul a8 (aesMul a16 (aesMul a32 (aesMul a64 a128)))))

/-- The S-box of FIPS 197: the inverse, then the affine map. -/
def aesSub (a : Nat) : Nat :=
  let b := aesInv a
  let rot := fun k => ((b <<< k) % 256) ||| (b >>> (8 - k))
  b ^^^ rot 1 ^^^ rot 2 ^^^ rot 3 ^^^ rot 4 ^^^ 0x63

/-- The key schedule of AES-256: 60 words of four bytes, from the last upward while it grows. -/
def aesExpand (key : List Nat) : List (List Nat) :=
  let w0 := (List.range 8).map fun i => (key.drop (4 * i)).take 4
  (List.range 52).foldl (fun ws n =>
    let i := n + 8
    let t := ws.getD (i - 1) []
    let t1 := if i % 8 = 0 then
        let r := ((t.drop 1) ++ t.take 1).map aesSub
        r.set 0 (r.getD 0 0 ^^^ 2 ^ (i / 8 - 1))
      else if i % 8 = 4 then t.map aesSub else t
    ws ++ [List.zipWith (· ^^^ ·) (ws.getD (i - 8) []) t1]) w0

/-- AES-256 of one block of 16 bytes. -/
def aesBlock (ws : List (List Nat)) (blk : List Nat) : List Nat :=
  let rk := fun r => (List.range 4).flatMap fun c => ws.getD (4 * r + c) []
  let add := fun (r : Nat) (s : List Nat) => List.zipWith (· ^^^ ·) s (rk r)
  let shift := fun (s : List Nat) => (List.range 16).map fun i => s.getD ((i + 4 * (i % 4)) % 16) 0
  let mix := fun (s : List Nat) => (List.range 16).map fun i =>
    let c := i / 4 * 4
    let at_ := fun k => s.getD (c + (i + k) % 4) 0
    aesX2 (at_ 0) ^^^ aesX2 (at_ 1) ^^^ at_ 1 ^^^ at_ 2 ^^^ at_ 3
  let s13 := (List.range 13).foldl (fun s r => add (r + 1) (mix (shift (s.map aesSub)))) (add 0 blk)
  add 14 (shift (s13.map aesSub))

/-- Bytes as a number, first byte highest. -/
def beNum (bs : List Nat) : Nat := bs.foldl (fun a b => a * 256 + b) 0

def beBytes (n x : Nat) : List Nat := (bytesOf n x).reverse

/-- The product of GHASH; bit 0 is the highest. -/
def ghMulGo : Nat → Nat → Nat → Nat → Nat
  | 0, _, _, z => z
  | n + 1, x, v, z =>
    let z1 := if x.testBit n then z ^^^ v else z
    ghMulGo n x (if v % 2 = 1 then (v / 2) ^^^ (0xE1 <<< 120) else v / 2) z1

def ghMul (x y : Nat) : Nat := ghMulGo 128 x y 0

/-- Blocks of 16 bytes, the last padded with zeros. -/
def blocksOf (bs : List Nat) : List (List Nat) :=
  (List.range ((bs.length + 15) / 16)).map fun i => let b := (bs.drop (16 * i)).take 16; b ++ List.replicate (16 - b.length) 0

/-- GHASH over additional data and ciphertext. -/
def ghash (h : Nat) (aad ct : List Nat) : Nat :=
  let bs := blocksOf aad ++ blocksOf ct ++ [beBytes 8 (8 * aad.length) ++ beBytes 8 (8 * ct.length)]
  bs.foldl (fun y b => ghMul (y ^^^ beNum b) h) 0

/-- The key stream over bytes, counting from 2. -/
def gcmStream (ws : List (List Nat)) (iv bs : List Nat) : List Nat :=
  ((List.range ((bs.length + 15) / 16)).flatMap fun i =>
    List.zipWith (· ^^^ ·) ((bs.drop (16 * i)).take 16) (aesBlock ws (iv ++ beBytes 4 (i + 2))))

/-- Ciphertext and tag. -/
def gcmSeal (key iv aad pt : List Nat) : List Nat × List Nat :=
  let ws := aesExpand key
  let h := beNum (aesBlock ws (List.replicate 16 0))
  let ct := gcmStream ws iv pt
  (ct, List.zipWith (· ^^^ ·) (beBytes 16 (ghash h aad ct)) (aesBlock ws (iv ++ [0, 0, 0, 1])))

/-- Plaintext, if the tag is right. -/
def gcmOpen (key iv aad ct tag : List Nat) : Option (List Nat) :=
  let ws := aesExpand key
  let h := beNum (aesBlock ws (List.replicate 16 0))
  let t := List.zipWith (· ^^^ ·) (beBytes 16 (ghash h aad ct)) (aesBlock ws (iv ++ [0, 0, 0, 1]))
  if t = tag then some (gcmStream ws iv ct) else none

end Sys2Proof.Machine
end

