-- ==== Sys2Proof/Machine/Ecc.lean ====
section
/-!
DEFINITION. Check bits of stored words and the retirement of memory banks (R203, R324, R437, R438). The memories are
those of Upset; a bank is numbered 0 to 15, and 16 is the spare.
-/
namespace Sys2Proof.Machine

/-- Words of a bank (R203, R284, R324, R438). -/
def bankWords (mem : Nat) : Nat := if mem = 0 then 4096 else if mem = 1 then 64 else if mem = 2 then 1024 else 32

/-- The fields of a memory's spare bank (R445): RET, SPOUT and COPY. -/
def bankRet (mem : Nat) : Fld :=
  if mem = 0 then TEL_BSPR_RTE_RET else if mem = 1 then TEL_BSPR_POR_RET else if mem = 2 then TEL_BSPR_PRG_RET else TEL_BSPR_RPL_RET (mem - 4)

def bankSpout (mem : Nat) : Fld :=
  if mem = 0 then TEL_BSPR_RTE_SPOUT else if mem = 1 then TEL_BSPR_POR_SPOUT else if mem = 2 then TEL_BSPR_PRG_SPOUT else TEL_BSPR_RPL_SPOUT (mem - 4)

def bankCopy (mem : Nat) : Fld :=
  if mem = 0 then TEL_BSPR_RTE_COPY else if mem = 1 then TEL_BSPR_POR_COPY else if mem = 2 then TEL_BSPR_PRG_COPY else TEL_BSPR_RPL_COPY (mem - 4)

/-- The resource identifier of a bank (R432). -/
def bankRid (mem bank : Nat) : Nat := if mem < 3 then mkRid (4 + mem) bank else mkRid 7 ((mem - 4) * 32 + bank)

def State.emod (s : State) (f : EccSt → EccSt) : State := { s with ecc := f s.ecc }

/-- The check bits of a place: 0 good, 1 a single-bit error, 2 uncorrectable, 3 marked uncorrectable by the copy of a bank
(R437 step 3). -/
def State.eccAt (s : State) (mem place : Nat) : Nat := Sparse.get (fun _ => 0) s.ecc.words (mem * 2 ^ 24 + place)

def State.setEcc (s : State) (mem place v : Nat) : State :=
  s.emod fun e => { e with words := Sparse.set (fun _ => 0) e.words (mem * 2 ^ 24 + place) v }

/-- Errors that have come about: a second error in a word makes it uncorrectable; a marked word stays so. -/
def State.upset (s : State) (us : List Upset) : State :=
  us.foldl (fun s u => if u.addr < 2 ^ 24 then s.setEcc u.mem u.addr (max (s.eccAt u.mem u.addr) (min 2 (s.eccAt u.mem u.addr + (if u.two then 2 else 1)))) else s) s

/-- The spare bank serves a bank: RET names it and no copy of memories 0 to 2 is under way. -/
def State.spareServes (s : State) (mem bank : Nat) : Bool := s.rd (bankRet mem) == bank && !s.on (bankCopy mem)

/-- Where the word at an address sits. A flit sent since its bank's retirement was decided sits in the spare (R438). -/
def State.placeOf (s : State) (mem addr : Nat) : Nat :=
  let w := bankWords mem
  if mem < 3 then (if s.spareServes mem (addr / w) then 16 * w + addr % w else addr)
  else
    let b := addr / w % 16
    if s.rd (bankRet mem) = b ∧ Sparse.get (fun _ => 0) s.ecc.copying mem ≤ addr + 1 then 16 * w + addr % w else addr % 512

/-- The check bits of the word at an address; with the spare out of use, those of the bank that it served are
uncorrectable (R437). -/
def State.wordErr (s : State) (mem addr : Nat) : Nat :=
  let p := s.placeOf mem addr
  if 16 * bankWords mem ≤ p ∧ s.on (bankSpout mem) then 2 else s.eccAt mem p

/-- A word written with fresh check bits. While its bank is copied it goes to both banks (R437 step 2). -/
def State.eccWrite (s : State) (mem addr : Nat) : State :=
  let p := s.placeOf mem addr
  if s.eccAt mem p = 0 then s else s.setEcc mem p 0

/-- A retirement trigger of a bank (R437, R438); `pre` says that a marginal verdict asked for it. -/
def State.retireBank (s : State) (mem bank : Nat) (pre : Bool) (next : Nat) : State :=
  let rid := bankRid mem bank
  if bank = 16 then s.wr (bankSpout mem) 1
  else if s.on (bankCopy mem) && (if mem < 3 then Sparse.get (fun _ => 0) s.ecc.copying mem == bank + 1 else s.rd (bankRet mem) == bank) then s
  else if s.rd (bankRet mem) ≠ 0x1F ∨ s.on (bankCopy mem) ∨ s.on (bankSpout mem) then s.noSpare rid
  else
    let s1 := (if pre then s.preempt rid else s).wr (bankCopy mem) 1
    if mem < 3 then s1.emod fun e => { e with copying := Sparse.set (fun _ => 0) e.copying mem (bank + 1) }
    else (s1.wr (bankRet mem) bank).emod fun e => { e with copying := Sparse.set (fun _ => 0) e.copying mem (next + 1) }

/-- A corrected error: it is tracked, and BCE of them within 1 s retire the bank (R432, R437). -/
def State.corrected (s : State) (mem bank row next : Nat) : State :=
  let (s1, marg) := s.tagError (bankRid mem bank) (row % 16)
  let recent := s1.ecc.corr.filter (fun c => decide (s1.kclk < c.2.2 + secK)) ++ [(mem, bank, s1.kclk)]
  let mine := fun (c : Nat × Nat × Nat) => decide (c.1 = mem ∧ c.2.1 = bank)
  let ovr := decide (max 1 (s1.rd TEL_FCTL_BCE) ≤ (recent.filter mine).length)
  let s2 := s1.emod fun e => { e with corr := if ovr then recent.filter (fun c => !mine c) else recent }
  if marg then s2.retireBank mem bank true next else if ovr then s2.retireBank mem bank false next else s2

/-- An uncorrectable word of a bank: BANKU, and the bank is retired on its first one (R437). -/
def State.uncorrected (s : State) (mem bank next : Nat) : State :=
  let s1 := s.raise EV_TELF_BANKU (some (bankRid mem bank))
  if s1.ecc.failed.contains (mem, bank) then s1
  else (s1.emod fun e => { e with failed := e.failed ++ [(mem, bank)] }).retireBank mem bank false next

/-- A word read: a single-bit error is corrected and written back. A word that the copy marked is no error of the spare bank
itself, and retires nothing. The flag says that the word is uncorrectable.
`next` is the next flit of the link, for a replay buffer. -/
def State.eccRead (s : State) (mem addr : Nat) (next : Nat := 0) : State × Bool :=
  let p := s.placeOf mem addr
  let e := s.wordErr mem addr
  let bank := p / bankWords mem
  if e = 0 then (s, false)
  else if e = 1 then ((s.setEcc mem p 0).corrected mem bank (p % bankWords mem) next, false)
  else if e = 3 then (s.raise EV_TELF_BANKU (some (bankRid mem bank)), true)
  else (s.uncorrected mem bank next, true)

/-- The check bits that the copy of a bank leaves in the spare: single-bit errors are corrected on the way, and an
uncorrectable word stays so (R437 steps 1 and 3). -/
def State.copyEcc (s : State) (mem bank : Nat) : State :=
  let w := bankWords mem
  let base := mem * 2 ^ 24
  let old := s.ecc.words.filter fun (e : Nat × Nat) => decide (base + 16 * w ≤ e.1 ∧ e.1 < base + 17 * w)
  let bad := s.ecc.words.filter fun (e : Nat × Nat) => decide (base + bank * w ≤ e.1 ∧ e.1 < base + (bank + 1) * w ∧ 2 ≤ e.2)
  let s1 := old.foldl (fun s (e : Nat × Nat) => s.setEcc mem (e.1 - base) 0) s
  bad.foldl (fun s (e : Nat × Nat) => s.setEcc mem (e.1 - base - bank * w + 16 * w) 3) s1

/-! ## Lanes of Blend in use (R318, R320) -/

/-- Lanes of a group that are retired and not served by its spare. -/
def State.uncovered (s : State) (g : Nat) : Nat :=
  countUp (fun l => bitAt (s.rd (BLD_LRET g)) l) 32 - b2n (s.on (BLD_LSPR_SPUSE g) && !s.on (BLD_LSPR_SPOUT g))

/-- DEGR counts the groups with a lane moved by R318. -/
def State.countDegr (s : State) : State := s.wr BLD_STATUS_DEGR (countUp (fun g => s.rd (BLD_LRET g) != 0 && s.uncovered g != 0) 64)

/-- BANK_COPY_DONE (R437 step 4): the last word of the bank under copy is copied, and the spare bank serves its addresses. -/
def execBankCopyDone (mem bank : Nat) (s : State) : Host.Outcome State Fault Refusal :=
  s.done <| s.onB fun s =>
    if mem < 3 ∧ bank < 16 ∧ s.on (bankCopy mem) ∧ Sparse.get (fun _ => 0) s.ecc.copying mem = bank + 1 then
      let s1 := (s.copyEcc mem bank).emod fun e => { e with copying := Sparse.set (fun _ => 0) e.copying mem 0 }
      ((s1.wr (bankRet mem) bank).wr (bankCopy mem) 0).raise EV_TELF_BANKRET (some (bankRid mem bank))
    else s

end Sys2Proof.Machine
end

