-- ==== Sys2Proof/Machine/Route.lean ====
section
/-!
DEFINITION. The route stage (chapter 07 of spec/): the selection of an output link, order holds, partitions,
fences, and what a message meets on its way in.
-/
namespace Sys2Proof.Machine

def State.lk (s : State) (n : Nat) : LinkSt := Sparse.get (fun _ => LinkSt.reset) s.lnk n

def State.setLk (s : State) (n : Nat) (l : LinkSt) : State := { s with lnk := Sparse.set (fun _ => LinkSt.reset) s.lnk n l }

/-- The slots of a message (R172). -/
def rmLen (m : RMsg) : Nat := 1 + m.body.length

/-- The tray index of an FNA (R198). -/
def trayOf (fna : Nat) : Nat := bits fna 4 16

/-! ## Usable links (R205) -/

/-- A link is usable for routed traffic. -/
def State.linkUsable (s : State) (l : Nat) : Bool :=
  l < s.links && s.rd (LNK_STATUS_STATE l) == 5 && s.rd (LNK_RSTAT_DSTATE l) != 2 &&
    !bitAt (s.rd RTE_DRAIN_LO + s.rd RTE_DRAIN_HI <<< 32) l

/-- The usable links as a mask. -/
def State.usableMask (s : State) : Nat := pack ((List.range 64).map fun l => (l, 1, b2n (s.linkUsable l)))

/-- A link in QUARANTINE carries VC6 messages to its observed partner, unless it is drained. -/
def State.quarantineOk (s : State) (l : Nat) (m : RMsg) : Bool :=
  l < s.links && s.rd (LNK_STATUS_STATE l) == 6 && m.vc == 6 && s.rd (LNK_OBS_FNA l) == m.dst &&
    !bitAt (s.rd RTE_DRAIN_LO + s.rd RTE_DRAIN_HI <<< 32) l

/-! ## Selection (R201 to R204) -/

/-- The output of a selection: a link; no usable position yet; or no route. -/
inductive Sel where
  | link (l : Nat)
  | wait
  | none_
  deriving DecidableEq, Repr

/-- The pin hash (R204). -/
def State.pinHash (s : State) (m : RMsg) : Nat :=
  crc16 (s.rd RTE_CTL_HSALT :: (bytesOf 3 m.dst ++ bytesOf 3 m.src ++ bytesOf 2 (m.flow % 4096)))

/-- The links of a table entry, positions 0 to CNT (R203). -/
def entryLinks (w : Nat) : List Nat := (List.range (bits w 28 2 + 1)).map fun i => bits w (6 * i) 6

/-- The links set in a mesh mask, in ascending number (R204). -/
def maskLinks (mask : Nat) : List Nat := (List.range 64).filter fun l => bitAt mask l

/-- The first link that satisfies a test, from the home position upward and around. -/
def fromHome (ok : Nat → Bool) (ls : List Nat) (h : Nat) : Option Nat :=
  if ls.isEmpty then none else (List.range ls.length).findSome? fun i => match ls[(h % ls.length + i) % ls.length]? with
    | some l => if ok l then some l else none
    | none => none

/-- The mesh direction from this device to a stack of its tray (R202); none for itself. -/
def meshDir (self dst : Nat) : Option Nat :=
  let x := self % 4; let y := self / 4 % 4; let dx := dst % 4; let dy := dst / 4 % 4
  if x < dx then some 0 else if dx < x then some 1 else if y < dy then some 2 else if dy < y then some 3 else none

/-- A word of the table or of the mesh as it stood before some changes: the first change of the word says so. -/
def State.viewWord (s : State) (hs : List Hold) (key : Nat) : Nat :=
  match hs.find? fun h => h.key = key with
  | some h => h.old.toNat
  | none => (s.word key).toNat

/-- The usable links before some changes. -/
def State.viewUsable (s : State) (hs : List Hold) : Nat :=
  match hs with
  | h :: _ => h.usable
  | [] => s.usableMask

def tblKey (i : Nat) : Nat := (RTE_TBL_VALID i).key

/-- A table entry that routes, as it stood before some changes; one with an uncorrectable word is invalid (R203). -/
def State.viewEntry (s : State) (hs : List Hold) (i : Nat) : Option (List Nat) :=
  let w := s.viewWord hs (tblKey i)
  if bitAt w 31 && decide (s.wordErr 0 i < 2) then some (entryLinks w) else none

def State.viewMesh (s : State) (hs : List Hold) (d : Nat) : List Nat :=
  maskLinks (s.viewWord hs (RTE_MESH_LO d).key + s.viewWord hs (RTE_MESH_HI d).key <<< 32)

/-- The selection for a message in a view of the changes `hs` not yet made. -/
def State.selectIn (s : State) (hs : List Hold) (m : RMsg) : Sel :=
  let u := s.viewUsable hs
  let ok := fun l => bitAt u l || s.quarantineOk l m
  let h := s.pinHash m
  let entry := fun i => match s.viewEntry hs i with
    | some ls => (match fromHome ok ls h with
      | some l => Sel.link l
      | none => Sel.wait)
    | none => Sel.none_
  if 2 ^ 20 ≤ m.dst then .none_
  else if trayOf m.dst = trayOf s.fna then
    match meshDir s.fna m.dst with
    | none => .none_
    | some d =>
      match fromHome ok (s.viewMesh hs d) h with
      | some l => .link l
      | none => match s.viewEntry hs (trayOf s.fna) with
        | some _ => entry (trayOf s.fna)
        | none => .wait
  else entry (trayOf m.dst)

/-- The selection in force: changes that wait for a hold to close are not made yet (R206). -/
def State.select (s : State) (m : RMsg) : Sel := s.selectIn s.route.queued m

/-! ## Order holds (R206) -/

/-- The links from which flows of one bundle move, between two lists of positions. -/
def movedLinks (okOld okNew : Nat → Bool) (old new : List Nat) : List Nat :=
  ((List.range (max 1 old.length * max 1 new.length)).filterMap fun h =>
    match fromHome okOld old h with
    | some a => if fromHome okNew new h = some a then none else some a
    | none => none).eraseDups

/-- The bundles of the device: the mesh directions, and the table entries that hold something. -/
def State.tableIdx (s : State) : List Nat :=
  s.regs.filterMap fun (e : Nat × Word) => if 0x40000 ≤ e.1 ∧ e.1 < 0x80000 then some ((e.1 - 0x40000) / 4) else none

/-- The positions that messages of a mesh direction take in a view: those of the direction while one of them is usable, else
those of the detour (R202). -/
def State.viewBundle (s : State) (hs : List Hold) (d : Nat) : List Nat :=
  let mesh := s.viewMesh hs d
  if mesh.any fun l => bitAt (s.viewUsable hs) l then mesh else (s.viewEntry hs (trayOf s.fna)).getD mesh

/-- The marks of the change at the head of `h :: hs`: for every link whose flows move, its next flit; a link with
nothing unacknowledged needs none. -/
def State.marksOf (s : State) (h : Hold) (hs : List Hold) : List (Nat × Nat) :=
  let okO := fun l => bitAt h.usable l
  let okN := fun l => bitAt (s.viewUsable hs) l
  let mesh := (List.range 4).flatMap fun d => movedLinks okO okN (s.viewBundle (h :: hs) d) (s.viewBundle hs d)
  let tbl := s.tableIdx.flatMap fun i => movedLinks okO okN ((s.viewEntry (h :: hs) i).getD []) ((s.viewEntry hs i).getD [])
  (mesh ++ tbl).eraseDups.filterMap fun l => if (s.lk l).ackAbs < (s.lk l).txAbs then some (l, (s.lk l).txAbs) else none

/-- The holds open: a change without marks is kept behind an open hold, since that hold's selection is the one before it, but
holds nothing itself. -/
def openHolds (hs : List Hold) : Nat := (hs.filter fun h => !h.marks.isEmpty).length

/-- KB_RTE_STAT.HOLDS follows the holds open. -/
def State.setHolds (s : State) (hs q : List Hold) : State :=
  ({ s with route := { s.route with holds := hs, queued := q } }).wr RTE_STAT_HOLDS (openHolds hs)

/-- The partitions whose messages use a link in a view: those that wait for it, and those that it is sending. -/
def State.partsOn (s : State) (hs : List Hold) (l : Nat) : List Nat :=
  ((s.route.pool.filter fun p => s.selectIn hs p.m == .link l).map fun p => p.m.part) ++ (s.lk l).msgs.map fun x => x.m.part

/-- Flows of partitions have moved onto links. Where a link now carries messages of another partition too, the bandwidth
share of both lapses, once for each link (R45, R249 cause 0x20). -/
def State.shareMoved (s : State) (hs : List Hold) (moved : List (Nat × Nat)) : State :=
  let lost := moved.eraseDups.flatMap fun e => ((s.partsOn hs e.2).filter (· != e.1)).flatMap fun q => [e, (q, e.2)]
  lost.eraseDups.foldl (fun s (e : Nat × Nat) =>
    s.lapse { part := e.1, rank := 4, cause := 0x20, flags := 0, fna := s.fna, b8 := e.2, w12 := 0, inst := (s.cycle, s.angle) }) s

/-- The lapses of a change that takes effect (R45). -/
def State.shareLapses (s : State) (h : Hold) (hs : List Hold) : State :=
  s.shareMoved hs (s.route.pool.filterMap fun p => match s.selectIn (h :: hs) p.m, s.selectIn hs p.m with
    | .link a, .link b => if a ≠ b then some (p.m.part, b) else none
    | _, _ => none)

/-- A change of selection opens a hold, or waits while 64 are open. -/
def State.noteChange (s : State) (usable key : Nat) (old : Word) : State :=
  let h : Hold := { usable := usable, key := key, old := old, marks := [] }
  if 64 ≤ openHolds s.route.holds then s.setHolds s.route.holds (s.route.queued ++ [h])
  else
    let ms := s.marksOf h []
    (if ms.isEmpty && s.route.holds.isEmpty then s else s.setHolds (s.route.holds ++ [{ h with marks := ms }]) s.route.queued).shareLapses h []

/-- Marks that their links have passed clear; a hold without marks closes, and a waiting change takes its place;
`n` bounds the changes that take effect. -/
def State.settle : Nat → State → State
  | 0, s => s
  | n + 1, s =>
    let live := (s.route.holds.map fun h => { h with marks := h.marks.filter fun m => (s.lk m.1).ackAbs < m.2 }).dropWhile fun h => h.marks.isEmpty
    match s.route.queued with
    | h :: q =>
      if openHolds live < 64 then
        let s1 := s.setHolds live q
        let ms := s1.marksOf h q
        State.settle n ((if ms.isEmpty && live.isEmpty then s1 else s1.setHolds (live ++ [{ h with marks := ms }]) q).shareLapses h q)
      else if live = s.route.holds then s else s.setHolds live s.route.queued
    | [] => if live = s.route.holds then s else s.setHolds live []

/-- An effect after which the usable links may differ. -/
def State.reselect (s : State) (f : State → State) : State :=
  let u := s.usableMask
  let s1 := f s
  let s2 := if s1.usableMask = u then s1 else s1.noteChange u 0 0
  s2.settle (s2.route.queued.length + 1)

/-- A message is held: under some open hold its old link has a mark and its link under the next selection differs. -/
def State.isHeld (s : State) (m : RMsg) : Bool :=
  let hs := s.route.holds
  (List.range hs.length).any fun i =>
    match hs[i]?, s.selectIn (hs.drop i ++ s.route.queued) m, s.selectIn (hs.drop (i + 1) ++ s.route.queued) m with
    | some h, .link a, .link b => a != b && h.marks.any fun x => x.1 == a
    | _, _, _ => false

/-! ## Receive buffers (R185) -/

/-- Replace element i of a list. -/
def setAt {α : Type} (l : List α) (i : Nat) (a : α) : List α := l.set i a

/-- A message leaves the receive buffer of the link it came from: its slots are owed to the partner. -/
def State.freeSlots (s : State) (from_ : Option Nat) (m : RMsg) : State :=
  match from_ with
  | none => s
  | some n =>
    let l := s.lk n
    s.setLk n { l with used := l.used.set m.vc (l.used.getD m.vc 0 - rmLen m), owed := l.owed.set m.vc (l.owed.getD m.vc 0 + rmLen m) }

/-! ## Partitions (R211, R212) -/

/-- A valid rule of a partition covers an FNA. -/
def State.allowed (s : State) (part fna : Nat) : Bool :=
  (List.range 4096).any fun r =>
    s.on (RTE_RULE_A_VALID r) && s.rd (RTE_RULE_A_PART r) == part &&
      (bits fna 0 20 &&& s.rd (RTE_RULE_B_MASK r)) == (s.rd (RTE_RULE_A_BASE r) &&& s.rd (RTE_RULE_B_MASK r))

/-- The TSEQ of a tile message, 0 for others (R212, R230). -/
def rmTseq (m : RMsg) : Nat := if m.mtype = 1 then bits (m.body.headD 0).toNat 0 32 else 0

/-! ## What fences and HOLDALL stop (R213, R215) -/

/-- The fence entry of an FNA. -/
def State.fenceOf (s : State) (fna : Nat) : Option Nat :=
  findUp (fun e => s.on (RTE_FENCE_A_VALID e) && s.rd (RTE_FENCE_A_FNA e) == fna) 512 0

/-- (a − b) mod 65,536 is 0, or 32,768 or more. -/
def notAfter (a b : Nat) : Bool := let d := (a + 65536 - b % 65536) % 65536; d == 0 || 32768 ≤ d

/-- A fence entry rejects a message. -/
def State.fenceRejects (s : State) (m : RMsg) : Bool :=
  match s.fenceOf m.src with
  | some e => notAfter m.sinc (s.rd (RTE_FENCE_B_INC e))
  | none => false

/-- What HOLDALL keeps from being forwarded or delivered is reported as a lapse (R215, R249 cause 0x12). -/
def State.stallLapse (s : State) (m : RMsg) : State :=
  s.lapse { part := m.part, rank := 3, cause := 0x12, flags := 4 * b2n (m.dst == s.fna), fna := m.src, b8 := m.flow, w12 := rmTseq m, inst := (s.cycle, s.angle) }

/-- A message that the source's allow-list refuses is reported as a lapse (R212); `dest` says that the end that sends it is a
flow's destination. -/
def State.denyLapse (s : State) (m : RMsg) (dest : Bool) : State :=
  s.lapse { part := m.part, rank := 2, cause := 0x05, flags := 4 * b2n dest, fna := m.dst, b8 := m.flow, w12 := rmTseq m, inst := (s.cycle, s.angle) }

/-- A message for this device: the destination check, then the local function (R201 step 2). -/
def State.arriveLocal (s : State) (from_ : Option Nat) (m : RMsg) : State :=
  if s.allowed m.part m.src then { s with route := { s.route with local_ := s.route.local_ ++ [(from_, m)] } }
  else
    let s1 := ((s.raise EV_RTE_DENYDST).count (RTE_PDENY (m.part % 256))).freeSlots from_ m
    s1.lapse { part := m.part, rank := 2, cause := 0x05, flags := 4, fna := m.src, b8 := m.flow, w12 := rmTseq m, inst := (s.cycle, s.angle) }

/-- A message that a local function takes, with the link it came from. -/
def State.takeLocal (s : State) (m : RMsg) : State :=
  match takeFirst (fun e => decide (e.2 = m)) s.route.local_ with
  | (some e, rest) => ({ s with route := { s.route with local_ := rest } }).freeSlots e.1 m
  | (none, _) => s

/-- The table entry that the selection for a message reads, if it reads one. -/
def State.tableIndex (s : State) (m : RMsg) : Option Nat :=
  if 2 ^ 20 ≤ m.dst then none
  else if trayOf m.dst = trayOf s.fna then
    match meshDir s.fna m.dst with
    | none => none
    | some d =>
      if (fromHome (fun l => bitAt (s.viewUsable s.route.queued) l || s.quarantineOk l m) (s.viewMesh s.route.queued d) (s.pinHash m)).isSome then none
      else some (trayOf s.fna)
  else some (trayOf m.dst)

/-- The check bits of the entry that a lookup reads (R203): a single-bit error is corrected, another sets TBLERR. -/
def State.tableRead (s : State) (m : RMsg) : State :=
  match s.tableIndex m with
  | none => s
  | some i => let (s1, bad) := s.eccRead 0 i; s1.raiseIf bad EV_RTE_TBLERR (some i)

/-- A message that waits for an output link; one without a route is discarded with NOROUTE. The flag is false
then. -/
def State.enterPool (s0 : State) (from_ : Option Nat) (m : RMsg) : State × Bool :=
  let s := s0.tableRead m
  match s.select m with
  | .none_ => ((s.raise EV_RTE_NOROUTE).freeSlots from_ m, false)
  | _ => ({ s with route := { s.route with pool := s.route.pool ++ [{ from_ := from_, m := m }] } }, true)

/-- What a local function learns when it originates a message. -/
inductive Sent where
  | ok
  | denied
  | noRoute
  deriving DecidableEq, Repr

/-- A message that a local function originates (R200, R201, R212, R216). HOLDALL lets only VC6 messages for this device
through that no entry rejects; one for this device is held here, one for another in the route stage (R215). -/
def State.originate (s : State) (m0 : RMsg) : State × Sent :=
  let m := { m0 with src := s.fna, sinc := s.inc, hops := max 1 (s.rd RTE_CTL_HOPS) }
  if !s.allowed m.part m.dst then ((s.raise EV_RTE_DENYSRC).count (RTE_PDENY (m.part % 256)), .denied)
  else if s.on RTE_STAT_SELF then ({ s with route := { s.route with own := s.route.own ++ [m] } }, .ok)
  else if m.dst = s.fna then
    (if s.on RTE_STAT_HOLDALL && !(m.vc == 6 && !s.fenceRejects m) then (({ s with route := { s.route with own := s.route.own ++ [m] } }).stallLapse m, .ok)
     else (s.arriveLocal none m, .ok))
  else
    let (s1, ok) := s.enterPool none m
    (if ok && s.on RTE_STAT_HOLDALL then s1.stallLapse m else s1, if ok then .ok else .noRoute)

/-- HOLDALL has ended: the messages held here go on, unless this device is fenced (R215, R216). -/
def State.releaseOwn (s : State) : State :=
  if s.on RTE_STAT_SELF || s.on RTE_STAT_HOLDALL then s
  else s.route.own.foldl (fun (s : State) m => if m.dst = s.fna then s.arriveLocal none m else (s.enterPool none m).1)
    { s with route := { s.route with own := [] } }

/-! ## Fences (R213 to R216) -/

/-- A bypass message queued on a link; each direction queues up to 32 (R188). One that comes while 32 are queued, a FENCE or
UNFENCE to be relayed among them (R215), is dropped: DESIGN CHOICE (assumption 72; R188 does not say). -/
def State.sendByp (s : State) (n : Nat) (u : Unit128) : State :=
  let l := s.lk n
  if l.byp.length < 32 then s.setLk n { l with byp := l.byp ++ [u] } else s

/-- A link in ACTIVE or QUARANTINE. -/
def State.linkUp (s : State) (n : Nat) : Bool := n < s.links && (s.rd (LNK_STATUS_STATE n) == 5 || s.rd (LNK_STATUS_STATE n) == 6)

/-- A bypass message on every link in ACTIVE or QUARANTINE but one. -/
def State.floodByp (s : State) (but : Option Nat) (u : Unit128) : State :=
  ((List.range s.links).filter fun n => s.linkUp n && some n != but).foldl (fun s n => s.sendByp n u) s

/-- FENCE or UNFENCE as a bypass message (R215). -/
def fenceMsg (un : Bool) (fna inc gen : Nat) : Unit128 :=
  BitVec.ofNat 128 (pack [(0, 8, if un then 0x31 else 0x30), (8, 20, fna), (32, 16, inc), (48, 16, gen)])

/-- FENCES counts the valid entries. -/
def State.countFences (s : State) : State := s.wr RTE_STAT_FENCES (countUp (fun e => s.on (RTE_FENCE_A_VALID e)) 512)

/-- This device is fenced by a fence stored for its own FNA (R216). -/
def State.selfFence (s : State) (fna inc : Nat) : State :=
  if fna = s.fna && notAfter s.inc inc then (s.wr RTE_STAT_SELF 1).raise EV_RTE_SELFFENCE else s

end Sys2Proof.Machine
end

