-- ==== Sys2Proof/Machine/Remote.lean ====
section
/-!
DEFINITION. Memory and coherence requests at homes: the home map (R125), the base fabric port's memory channels
(R126), requests to remote homes as MREQ (R242), and answers to fabric requesters as MRSP (R244).
-/
namespace Sys2Proof.Machine

/-- The line address of a message (R116). -/
def msgLaddr (m : XMsg) : Nat := xf m 77 32

/-- A field of a header replaced. -/
def putHdr (h : Unit128) (lo w v : Nat) : Unit128 := BitVec.ofNat 128 (setBits h.toNat lo w v)

/-- The home window of a line: the lowest-numbered valid window that holds its address (R125). -/
def State.homeWindow (s : State) (la : Nat) : Option Nat :=
  let g := la >>> 14
  findUp (fun n => s.on (BND_HMAP_TGT_VALID n) && s.rd (BND_HMAP_TGT_CACHE n) != 3 &&
    decide (s.rd (BND_HMAP_BASE n) ≤ g) && decide (g ≤ s.rd (BND_HMAP_LIMIT n))) 16 0

/-- The line's home is a remote device. -/
def State.remoteHome (s : State) (la : Nat) : Bool :=
  match s.homeWindow la with
  | some n => s.on (BND_HMAP_TGT_REMOTE n)
  | none => false

/-! ## Remote requests (R242 to R244) -/

/-- RHOLD in KCLK; 0 acts as 1. -/
def State.rhold (s : State) : Nat := max 1 (s.rd DLV_RCTL_RHOLD) * 156250

/-- A TAG that is not outstanding and was not used within 2 × RHOLD (R242). -/
def State.freeTag (s : State) : Option Nat :=
  ((List.range 65536).map fun i => (s.dlv.nextTag + i) % 65536).find? fun t =>
    !(s.xing.homes.any fun h => h.remote.isSome && h.rid == t) &&
    !(s.dlv.tags.any fun (e : Nat × Nat) => e.1 == t && decide (s.kclk < e.2 + 2 * s.rhold))

/-- The slots of a request or response after the route header (R242). -/
def tagBody (tag : Nat) (retry : Bool) (m : XMsg) : List Unit128 :=
  BitVec.ofNat 128 (pack [(0, 16, tag), (16, 1, b2n retry)]) :: putHdr m.hdr 16 10 0 :: m.data

/-- MREQ to a remote home; its FLOW is a free value (assumption 3). A refusal by the allow-list is a lapse (R212). -/
def State.mreq (s : State) (fna part tag : Nat) (retry : Bool) (m : XMsg) : State × Sent :=
  let (flow, s1) := s.draw 12
  let s2 := { s1 with dlv := { s1.dlv with tags := s1.dlv.tags.filter (fun (e : Nat × Nat) => e.1 != tag) ++ [(tag, s1.kclk)] } }
  let r : RMsg := { vc := 0, dst := fna, src := 0, flow := flow, part := part, hops := 0, mtype := 0x10, sinc := 0, body := tagBody tag retry m }
  match s2.originate r with
  | (s3, .denied) => (s3.denyLapse r false, .denied)
  | x => x

/-- KB_DLV_RSPC counts the response cache entries. -/
def State.countRsp (s : State) : State := s.wr DLV_RSPC_USED s.dlv.cache.length

/-- MRSP to a fabric requester (R242, R244); a cached request keeps its response for RHOLD. -/
def State.mrsp (s : State) (src part tag sinc : Nat) (m : XMsg) : State :=
  let cache := s.dlv.cache.map fun e => if e.src = src ∧ e.sinc = sinc ∧ e.tag = tag ∧ e.rsp.isNone then { e with rsp := some m } else e
  let (flow, s1) := s.draw 12
  let s2 := { s1 with dlv := { s1.dlv with cache := cache } }
  let r : RMsg := { vc := 1, dst := src, src := 0, flow := flow, part := part, hops := 0, mtype := 0x11, sinc := 0, body := tagBody tag false m }
  match s2.originate r with
  | (s3, .denied) => s3.denyLapse r true
  | (s3, _) => s3

/-! ## Answers (R116, R126, R133) -/

/-- A class M type; the others are class C. -/
def isM (ty : Nat) : Bool := ty < 0x20

/-- An answer to Kalvon-T: BANK, XID, the cause of an error. -/
def mkAns (ty bank xid arg : Nat) (data : List Unit128) : XMsg :=
  { hdr := BitVec.ofNat 128 (pack [(0, 8, ty), (8, 5, bank), (16, 10, xid), (86, 8, arg)]), data := data }

/-- A request that failed: RSP_ERR or GNT_ERR with the cause to whoever asked. -/
def State.refuseReq (s : State) (who : Asker) (m : XMsg) (cause : Nat) : State :=
  let ty := if isM (msgTy m) then 0x1B else 0x2C
  match who with
  | .client xid _ => s.sendT (if isM (msgTy m) then 0 else 1) (mkAns ty (msgLaddr m % 32) xid cause [])
  | .fabric src part tag sinc => s.mrsp src part tag sinc (mkAns ty (msgLaddr m % 32) 0 cause [])
  | .none_ => s

/-- The memory pair of a line: pair (b mod N) in ascending order of memory pairs (R126). -/
def memPair (la : Nat) : Nat := memPairList.getD ((la % 32) % memPairList.length) 0

/-- A message to the base die on a memory pair. -/
def State.toBase (s : State) (pair rid : Nat) (m : XMsg) : State :=
  let h := putHdr (putHdr m.hdr 16 16 0) 16 12 rid
  { s with xing := { s.xing with memOut := s.xing.memOut ++ [{ pair := pair, m := { m with hdr := h } }] } }

/-- A free RID of a pair (R126). -/
def State.freeRid (s : State) (pair : Nat) : Option Nat :=
  findUp (fun r => !(s.xing.homes.any fun h => h.remote.isNone && h.pair == pair && h.rid == r)) 4096 0

/-- A request to the home agent of the base die; it waits for a free RID. -/
def State.askBase (s : State) (who : Asker) (m : XMsg) : State :=
  let pair := memPair (msgLaddr m)
  match s.freeRid pair with
  | some rid =>
    let h : HomeReq := { remote := none, pair := pair, rid := rid, tries := 0, who := who, m := m }
    ({ s with xing := { s.xing with homes := s.xing.homes ++ [h] } }).toBase pair rid m
  | none => { s with xing := { s.xing with reqWait := s.xing.reqWait ++ [(who, m)] } }

/-- The line is busy at its home until the grant is forwarded (R130). -/
def State.markBusy (s : State) (la : Nat) : State :=
  if s.xing.busy.contains la then s else { s with xing := { s.xing with busy := s.xing.busy ++ [la] } }

/-- A request to a remote home (R125, R243). The line of an RD_S is busy once it has left (R130). -/
def State.askRemote (s : State) (who : Asker) (fna : Nat) (m : XMsg) : State :=
  match s.freeTag with
  | none => s.refuseReq who m 0x03
  | some tag =>
    let (s1, sent) := s.mreq fna (xf m 85 78) tag false m
    match sent with
    | .denied => s1.refuseReq who m 0x02
    | .noRoute => s1.refuseReq who m 0x03
    | .ok =>
      let s2 := if msgTy m = 0x20 then s1.markBusy (msgLaddr m) else s1
      let h : HomeReq := { remote := some fna, pair := 0, rid := tag, tries := 0, who := who, m := m }
      { s2 with xing := { s2.xing with homes := s2.xing.homes ++ [h] }, dlv := { s2.dlv with nextTag := (tag + 1) % 65536 } }

/-- The capability bits negotiated (R136). -/
def State.capB (s : State) (i : Nat) : Bool := bitAt (s.rd BND_CAPS) i

/-- A request of Kalvon-T or of a fabric requester goes to its home (R125, R130, R132). -/
def State.homeRequest (s : State) (who : Asker) (m : XMsg) : State :=
  let ty := msgTy m
  let la := msgLaddr m
  let mine := match who with
    | .client _ _ => true
    | _ => false
  match s.homeWindow la with
  | none => s.refuseReq who m 0x01
  | some n =>
    let remote := s.on (BND_HMAP_TGT_REMOTE n)
    let cache := s.rd (BND_HMAP_TGT_CACHE n)
    let grant := ty = 0x20 || ty = 0x21 || ty = 0x22
    if remote then
      if !mine then s.refuseReq who m 0x01
      else if isM ty then s.askRemote who (s.rd (BND_HMAP_TGT_FNA n)) m
      else if ty = 0x20 ∧ cache = 2 then
        if s.capB 1 then s.askRemote who (s.rd (BND_HMAP_TGT_FNA n)) m else s.refuseReq who m 0x06
      else s.refuseReq who m 0x04
    else if isM ty then s.askBase who m
    else if cache = 1 then (if mine && grant then (s.markBusy la).askBase who m else s.askBase who m)
    else s.refuseReq who m 0x04

end Sys2Proof.Machine
end

