-- ==== Sys2Proof/Machine/Home.lean ====
section
/-!
DEFINITION. The snoop directory of Kalvon-B (R128), lines busy at their home (R130), crossing races (R131), and
the answers of homes.
-/
namespace Sys2Proof.Machine

/-- Set and tag of a line (R127). -/
def setOf (la : Nat) : Nat := la % 2048
def tagOf (la : Nat) : Nat := la / 2048

/-! ## The directory -/

def State.dirEntry (s : State) (k : Nat) : DirEntry := Sparse.get (fun _ => DirEntry.empty) s.xing.dir k

/-- The line of a valid entry. -/
def State.dirLaddr (s : State) (k : Nat) : Nat := (s.dirEntry k).tag * 2048 + k / 16

/-- A directory entry replaced, with the counts of KB_BND_DIR_OCC. -/
def State.setDir (s : State) (k : Nat) (d : DirEntry) : State :=
  let s1 := { s with xing := { s.xing with dir := Sparse.set (fun _ => DirEntry.empty) s.xing.dir k d } }
  let valid := s1.xing.dir.filter fun (e : Nat × DirEntry) => e.2.st != 0
  (s1.wr BND_DIR_OCC_LINES valid.length).wr BND_DIR_OCC_RLINES ((valid.filter fun (e : Nat × DirEntry) => s.remoteHome (e.2.tag * 2048 + e.1 / 16)).length)

/-- The valid entry of a line. -/
def State.dirFind (s : State) (la : Nat) : Option Nat :=
  findUp (fun k => (s.dirEntry k).st != 0 && (s.dirEntry k).tag == tagOf la) 16 (16 * setOf la)

/-! ## Snoops across (R128, R130) -/

/-- A free snoop XID of a bank (R116). -/
def State.freeSnpXid (s : State) (bank : Nat) : Option Nat :=
  findUp (fun x => !(s.xing.acrossB.any fun b => b.laddr % 32 == bank && b.xid == x)) 16 0

/-- A snoop sent across. -/
def State.snoopT (s : State) (la entry xid : Nat) (inv : Bool) (home : Option (Nat × Nat)) : State :=
  let b : BSnoop := { laddr := la, entry := entry, xid := xid, inv := inv, home := home, overtaken := none }
  let m : XMsg := { hdr := BitVec.ofNat 128 (pack [(0, 8, if inv then 0x30 else 0x31), (8, 5, la % 32), (16, 10, xid), (32, 46, la)]), data := [] }
  ({ s with xing := { s.xing with acrossB := s.xing.acrossB ++ [b] } }).sendT 1 m

/-- SRSP or SRSP_DATA to the home agent, with the RID of its snoop. -/
def State.srspHome (s : State) (pair rid la : Nat) (data : Option (List Unit128)) : State :=
  let ty := match data with
    | some _ => 0x39
    | none => 0x38
  s.toBase pair rid { hdr := BitVec.ofNat 128 (pack [(0, 8, ty), (8, 5, la % 32), (32, 46, la)]), data := data.getD [] }

/-- A home snoop (or, marked by pair 0xFFFF, the snoop of a flush) that can be acted on now; none while its line is busy, or has a snoop across, or no XID is free. -/
def State.tryHomeSnoop (s : State) (pair : Nat) (m : XMsg) : Option State :=
  let la := msgLaddr m
  let rid := xf m 27 16
  let inv := msgTy m = 0x30
  if s.xing.busy.contains la || s.xing.acrossB.any fun b => b.laddr == la then none
  else
    match s.dirFind la with
    | none => some (if pair = 0xFFFF then s else s.srspHome pair rid la none)
    | some k =>
      if pair = 0xFFFF then (s.freeSnpXid (la % 32)).map fun x => s.snoopT la k x true none
      else if (s.dirEntry k).st = 1 ∧ !inv then some (s.srspHome pair rid la none)
      else (s.freeSnpXid (la % 32)).map fun x => s.snoopT la k x inv (some (pair, rid))

/-- Home snoops that waited are tried again, in order. -/
def State.homeWake (s : State) : State :=
  s.xing.homeWait.foldl (fun (s : State) (w : MemMsg) =>
    match s.tryHomeSnoop w.pair w.m with
    | some s1 => s1
    | none => { s with xing := { s.xing with homeWait := s.xing.homeWait ++ [w] } })
    { s with xing := { s.xing with homeWait := [] } }

/-- Requests that waited for an RID are tried again, in order. -/
def State.reqWake (s : State) : State :=
  s.xing.reqWait.foldl (fun (s : State) (w : Asker × XMsg) => s.askBase w.1 w.2) { s with xing := { s.xing with reqWait := [] } }

/-- The line is no longer busy. -/
def State.freeLine (s : State) (la : Nat) : State :=
  ({ s with xing := { s.xing with busy := s.xing.busy.filter (· != la) } }).homeWake

/-! ## Answers of homes -/

/-- A grant forwarded to Kalvon-T: the directory takes the line's state at the way that Kalvon-T named. -/
def State.forwardGrant (s : State) (la xid way ty : Nat) (data : List Unit128) : State :=
  let st := if ty = 0x28 then 1 else 2
  ((s.setDir (16 * setOf la + way) { tag := tagOf la, st := st }).sendT 1 (mkAns ty (la % 32) xid 0 data)).freeLine la

/-- The answer of a home to a request: to Kalvon-T, or to a fabric requester (R126, R130, R132). ARG is 0 in all but the errors
(R116). -/
def State.homeAnswer (s : State) (h : HomeReq) (m : XMsg) : State :=
  let ty := msgTy m
  let la := msgLaddr h.m
  let s1 := s.raiseIf (ty == 0x1B || ty == 0x2C) EV_BNDX_HOMEERR
  match h.who with
  | .none_ => s1
  | .fabric src part tag sinc => s1.mrsp src part tag sinc (mkAns ty (la % 32) 0 (if ty = 0x1B ∨ ty = 0x2C then xf m 93 86 else 0) m.data)
  | .client xid way =>
    if isM (msgTy h.m) then s1.sendT 0 (mkAns ty (la % 32) xid (if ty = 0x1B then xf m 93 86 else 0) m.data)
    else if ty = 0x28 ∨ ty = 0x29 then s1.forwardGrant la xid way (if h.remote.isSome then 0x28 else ty) m.data
    else if ty = 0x2A then s1.forwardGrant la xid way ty []
    else if ty = 0x2B then s1.sendT 1 (mkAns 0x2B (la % 32) xid 0 [])
    else (s1.sendT 1 (mkAns 0x2C (la % 32) xid (xf m 93 86) [])).freeLine la

/-- The request that an answer on a memory pair ends. -/
def State.homeDone (s : State) (pair : Nat) (m : XMsg) : State :=
  match takeFirst (fun (h : HomeReq) => h.remote.isNone && h.pair == pair && h.rid == xf m 27 16) s.xing.homes with
  | (some h, rest) => (({ s with xing := { s.xing with homes := rest } }).homeAnswer h m).reqWake
  | (none, _) => s

/-- A remote request that failed (R243). -/
def State.remoteFail (s : State) (h : HomeReq) (cause : Nat) : State :=
  let s1 := { s with xing := { s.xing with homes := eraseOne h s.xing.homes } }
  s1.homeAnswer h (mkAns (if isM (msgTy h.m) then 0x1B else 0x2C) (msgLaddr h.m % 32) 0 cause [])

/-! ## Messages without a route (R203, R205, R207) -/

/-- A request that this device sent and discards for want of a route is refused to its function with cause 0x03 (R205). -/
def State.refuseOwn (s : State) (m : RMsg) : State :=
  if m.src = s.fna ∧ m.mtype = 0x10 then
    (match s.xing.homes.find? fun h => h.remote == some m.dst && h.rid == bits (m.body.headD 0).toNat 0 16 with
     | some h => s.remoteFail h 0x03
     | none => s)
  else s

/-- A message that waits is discarded with NOROUTE (R205). -/
def State.dropNoRoute (s : State) (p : PoolMsg) : State :=
  ((({ s with route := { s.route with pool := eraseOne p s.route.pool } }).raise EV_RTE_NOROUTE).freeSlots p.from_ p.m).refuseOwn p.m

/-- The lookups of the messages that wait: each reads its entry (R203), and one whose entry is invalid now is discarded
(R205). -/
def State.sweepRoutes (s : State) : State :=
  let s1 := s.route.pool.foldl (fun s p => s.tableRead p.m) s
  (s1.route.pool.filter fun p => s1.select p.m == .none_).foldl (fun s p => s.dropNoRoute p) s1

/-- Messages that a flush of link `n` hands back are looked up, and enter ahead of every message that waits (R207); those
without a route are discarded (R205). Flows that move onto another link may share it (R45), and HOLDALL keeps them (R215). -/
def State.handBack (s : State) (n : Nat) (ms : List RMsg) : State :=
  let s0 := ms.foldl (fun s m => s.tableRead m) s
  let stay := ms.filter fun m => s0.select m != .none_
  let gone := ms.filter fun m => s0.select m == .none_
  let s1 : State := { s0 with route := { s0.route with pool := stay.map (fun m => ({ from_ := none, m := m } : PoolMsg)) ++ s0.route.pool } }
  let s2 := gone.foldl (fun (s : State) m => (s.raise EV_RTE_NOROUTE).refuseOwn m) s1
  let s3 := s2.shareMoved s2.route.queued (stay.filterMap fun m => match s2.select m with
    | .link b => if b = n then none else some (m.part, b)
    | _ => none)
  if s3.on RTE_STAT_HOLDALL then stay.foldl (fun s m => s.stallLapse m) s3 else s3

/-! ## WB, EVICT and snoop responses (R131, R132) -/

/-- The snoop across of a line. -/
def State.acrossOf (s : State) (la : Nat) : Option BSnoop := s.xing.acrossB.find? fun b => b.laddr = la

/-- WB or EVICT in Kalvon-B (R131, R132): with a snoop outstanding the entry becomes I and the data is kept;
otherwise it goes to the home, which answers WB_ACK. A remote home knows of no sharer, so an EVICT of its line is
answered at once. -/
def State.dropLine (s : State) (m : XMsg) : State :=
  let la := msgLaddr m
  let xid := xf m 25 16
  let k := 16 * setOf la + xf m 31 28
  let wb := msgTy m = 0x23
  if s.remoteHome la then
    if wb then (s.setDir k DirEntry.empty).refuseReq (.client xid 0) m 0x04
    else
      let s1 := s.setDir k DirEntry.empty
      match s1.acrossOf la with
      | some b => { s1 with xing := { s1.xing with acrossB := s1.xing.acrossB.map fun c => if c = b then { c with overtaken := some (xid, none) } else c } }
      | none => s1.sendT 1 (mkAns 0x2B (la % 32) xid 0 [])
  else
    let s1 := s.setDir k DirEntry.empty
    match s1.acrossOf la with
    | some b =>
      { s1 with xing := { s1.xing with acrossB := s1.xing.acrossB.map fun c => if c = b then { c with overtaken := some (xid, if wb then some m.data else none) } else c } }
    | none => s1.homeRequest (.client xid (xf m 31 28)) m

/-- RFLUSH reads 1 until every remote entry is answered (R132). -/
def State.rflushDone (s : State) : State :=
  if s.on BND_DIR_CTL_RFLUSH && !(s.xing.acrossB.any fun b => b.home.isNone && s.remoteHome b.laddr) &&
      !(s.xing.homeWait.any fun w => w.pair == 0xFFFF && s.remoteHome (msgLaddr w.m)) then s.wr BND_DIR_CTL_RFLUSH 0 else s

/-- The answer of Kalvon-T to a snoop: to the home agent with the data that overtook it, or with its own; data
that a flush returns is written to the home (R128, R131). -/
def State.snoopDone (s : State) (m : XMsg) : State :=
  match takeFirst (fun (b : BSnoop) => b.laddr % 32 == xf m 12 8 && b.xid == xf m 25 16) s.xing.acrossB with
  | (none, _) => s
  | (some b, rest) =>
    let s0 := { s with xing := { s.xing with acrossB := rest } }
    let own := if msgTy m = 0x39 then some m.data else none
    let (s1, data) := match b.overtaken with
      | some (xid, d) => (s0.sendT 1 (mkAns 0x2B (b.laddr % 32) xid 0 []), d)
      | none => (s0.setDir b.entry (if b.inv then DirEntry.empty else { s0.dirEntry b.entry with st := 1 }), own)
    let s2 := match b.home, data with
      | some (pair, rid), d => s1.srspHome pair rid b.laddr d
      | none, some d =>
        if s1.remoteHome b.laddr then s1
        else s1.askBase .none_ { hdr := BitVec.ofNat 128 (pack [(0, 8, 0x23), (8, 5, b.laddr % 32), (32, 46, b.laddr)]), data := d }
      | none, none => s1
    (s2.homeWake).rflushDone

/-! ## Flushes of the directory (R132, R138) -/

/-- SNP_INV for a valid entry; it waits as a home snoop does. A flush has no home to answer, which pair 0xFFFF
marks. -/
def State.flushEntry (s : State) (k : Nat) : State :=
  let la := s.dirLaddr k
  let m : XMsg := { hdr := BitVec.ofNat 128 (pack [(0, 8, 0x30), (8, 5, la % 32), (32, 46, la)]), data := [] }
  match s.tryHomeSnoop 0xFFFF m with
  | some s1 => s1
  | none => { s with xing := { s.xing with homeWait := s.xing.homeWait ++ [{ pair := 0xFFFF, m := m }] } }

/-- SNP_INV for every valid entry that satisfies a test. -/
def State.flushDir (s : State) (p : Nat → Bool) : State :=
  ((s.xing.dir.filter fun (e : Nat × DirEntry) => e.2.st != 0 && p e.1).map fun (e : Nat × DirEntry) => e.1).foldl (fun s k => s.flushEntry k) s

end Sys2Proof.Machine
end

