-- ==== Sys2Proof/Machine/LinkOps.lean ====
section
/-!
DEFINITION. Operations of a link (chapters 05 and 06 of spec/): states, attempts, retrains, declarations, flushes,
the neighbour exchange, the LSTATE handshake, spares and width.
-/
namespace Sys2Proof.Machine

def State.lmod (s : State) (n : Nat) (f : LinkSt → LinkSt) : State := s.setLk n (f (s.lk n))

/-- Physical lanes of a mask. -/
def lanesOf (mask : Nat) : List Nat := (List.range 5).filter fun q => bitAt mask q

def maskOf (ls : List Nat) : Nat := (List.range 5).foldl (fun m q => if ls.contains q then m ||| 2 ^ q else m) 0

/-- Width of a width code, and its code (R167): 0b00 x4, 0b01 x2, 0b10 x1, 0b11 none. -/
def widthOf (c : Nat) : Nat := if c = 0 then 4 else if c = 1 then 2 else if c = 2 then 1 else 0
def codeOf (w : Nat) : Nat := if w = 4 then 0 else if w = 2 then 1 else if w = 1 then 2 else 3

/-- The width that WMAX allows; 0b11 acts as x1. -/
def State.wmax (s : State) (n : Nat) : Nat := max 1 (widthOf (s.rd (LNK_CTL_WMAX n)))

/-- The largest width that a number of lanes and a limit allow. -/
def fitWidth (lanes limit : Nat) : Nat :=
  if 4 ≤ lanes ∧ 4 ≤ limit then 4 else if 2 ≤ lanes ∧ 2 ≤ limit then 2 else if 1 ≤ lanes ∧ 1 ≤ limit then 1 else 0

/-- A map register: lane of logical lane l in [3l+2:3l], 7 unused. -/
def mapLane (m l : Nat) : Nat := bits m (3 * l) 3
def packMap (ls : List Nat) : Nat := pack ((List.range 4).map fun l => (3 * l, 3, ls.getD l 7))
/-- The lanes of a map, in logical order. -/
def mapped (m : Nat) : List Nat := ((List.range 4).map fun l => mapLane m l).filter (· != 7)

def State.lst (s : State) (n : Nat) : Nat := s.rd (LNK_STATUS_STATE n)

/-- A link as it enters a state in a KCLK (R151): a retrain that was about to start is over, and flits go on only in EXCHANGE,
ACTIVE, QUARANTINE and INCOMPAT. -/
def LinkSt.atEntry (l : LinkSt) (k st : Nat) : LinkSt :=
  let up := 4 ≤ st && st < 8
  { l with flits := 0, retrainTx := 0, retrainWait := false, entered := k, txOn := l.txOn && up, rxOn := l.rxOn && up }

/-- Entry into a state (R151). -/
def State.enter (s : State) (n st : Nat) : State := (s.wr (LNK_STATUS_STATE n) st).lmod n fun l => l.atEntry s.kclk st

/-- The counts of the link that its sequence registers show. -/
def State.showSeq (s : State) (n : Nat) : State :=
  (s.wr (LNK_SEQ_TXNEXT n) ((s.lk n).txAbs % 4096)).wr (LNK_RSTAT_BUF n) (s.lk n).buf.length

/-- A link command for a CTRL flit (R157): type, slots, bytes from 2 upward. -/
def lcmd (ty slots body : Nat) : LCmd := { slots := slots, bytes := ty + slots * 256 + body <<< 16 }

def State.sendCmd (s : State) (n : Nat) (c : LCmd) : State := s.lmod n fun l => { l with cmds := l.cmds ++ [c] }

/-! ## Grace, flush and declarations (R191, R192) -/

/-- Slots of a message by VC. -/
def addVc (xs : List Nat) (v k : Nat) : List Nat := xs.set v (xs.getD v 0 + k)

/-- A partial message is discarded; it counts in RXDROP (R190, R192). -/
def State.dropPartial (s : State) (n : Nat) : State :=
  let l := s.lk n
  match l.part with
  | [] => s
  | h :: _ =>
    let v := bits h.toNat 0 3
    (s.setLk n { l with part := [], used := l.used.set v (l.used.getD v 0 - l.part.length), owed := addVc l.owed v l.part.length }).count (LNK_RXDROP n)

/-- A flush: every message with a slot in an unacknowledged flit, and every message started and not finished,
goes back to the route stage whole; bypass messages are discarded. A message with a slot in an uncorrectable flit is discarded
instead, counted by FLMSG and under BANKU (R438). A flush ends the session, also one that an LSTATE handshake under way
would have resumed (R182, R190). -/
def State.flushLink (s : State) (n : Nat) : State :=
  let l := s.lk n
  let bad := l.buf.filter fun f => s.wordErr (4 + n) f.num == 2
  let banks := l.msgs.filterMap fun x => (bad.find? fun f => f.msgs.contains x.id).map fun f => s.placeOf (4 + n) f.num / 32
  let back := (l.msgs.filter fun x => !bad.any fun f => f.msgs.contains x.id).map (·.m)
  let s1 := s.setLk n { l with buf := [], msgs := [], cur := none, run := [], byp := [], ackAbs := l.txAbs, session := none,
                               hsOwn := l.hsOwn.map fun x => (false, x.2) }
  let s2 := ((s1.dropPartial n).handBack n back).count (LNK_FLMSG n) l.msgs.length
  let s3 := ((((s2.wr (LNK_RSTAT_DSTATE n) 3).wr (LNK_LIVE_STATE n) 0).showSeq n).raise (EV_LNKR_FLUSH n))
  banks.foldl (fun (s : State) b => s.raise EV_TELF_BANKU (some (bankRid (4 + n) b))) s3

/-- The link is declared down with a cause (R191): grace starts. A link without a session has nothing to declare;
in grace it is down already. -/
def State.declareDown (s : State) (n dc : Nat) : State :=
  let d := s.rd (LNK_RSTAT_DSTATE n)
  if d = 3 ∨ d = 2 then s
  else ((((s.wr (LNK_RSTAT_DCAUSE n) dc).wr (LNK_RSTAT_DSTATE n) 2).lmod n fun l => { l with run := [] }).raise (EV_LNKR_LDOWN n))

/-- A link declared down by escalation, the age limit or SEQERR pauses in WAIT (R191). -/
def State.downWait (s : State) (n dc : Nat) : State := (s.declareDown n dc).enter n 8

/-- SEQERR (R178): the link is declared down at once. -/
def State.seqErr (s : State) (n : Nat) : State := (s.raise (EV_LNKR_SEQERR n)).downWait n 2

/-- A failed attempt (R154, R191). -/
def State.attemptFail (s : State) (n : Nat) (cause : Option Nat) : State :=
  let s1 := (s.raise (EV_LNKP_TFAIL n)).lmod n fun l => { l with fails := l.fails + 1, first := false }
  let s2 := match cause with
    | some c => s1.wr (LNK_STATUS_CAUSE n) c
    | none => s1.wrFree (LNK_STATUS_CAUSE n)
  (s2.declareDown n 0).enter n 8

/-! ## Training (R151 to R154) -/

/-- Training cancels what was pending (R166) and brings faulted lanes back into play (R161); RTTMIN of a parent link
starts anew (R264). Flits that wait in the gearbox's FIFO stay there and are sent when flits start again: DESIGN CHOICE
(assumption 67; R145 does not say what becomes of them). -/
def State.startTrainingOf (s : State) (n : Nat) (retrain : Bool) : State :=
  (if n = s.rd TIM_CTL_PARENT then { s with time := { s.time with rtts := [] } } else s).lmod n fun l =>
    { l with retrain := retrain, bad := 0, lanes := List.replicate 5 LaneRx.reset, stable := 0, switching := false, peerSw := false, peerTxw := 3, unc := 0,
             faults := [], narrowing := false, mirSpare := none, mirHold := false, mirOk := false, repair := false, txMir := [], wreq := none, txSw := none, rxSw := none, joinTx := 0,
             joinRx := 0, gotSeen := false, sentSeen := false, gotNbr := false, quarEnd := 0, cmds := [], rxCmds := [], run := [],
             hsSeen := false, hsOwn := none, hsDecided := false, hsDone := false, peerEnc := false, resumeNxt := none }

/-- LOCK (R152). -/
def State.enterLock (s : State) (n : Nat) : State :=
  let s1 := (List.range 5).foldl (fun s q => s.wr (LNK_PRBS_ERR n q) 0) (s.enter n 3)
  (s1.wr (LNK_LANES_RXOK n) 0).wr (LNK_LANES_TXOK n) 0

/-- A receive lane may be used (R151, R152, R161, R166): its SerDes is locked, it is not out of use, not retired and not
excluded by engine health. -/
def State.laneOk (s : State) (n q : Nat) : Bool :=
  bitAt (s.lk n).rxlock q && !bitAt (s.lk n).bad q && !bitAt (s.rd (LNK_LANES_RETIRED n)) q && !bitAt (s.rd (LNK_LANES_OEBAD n)) q

/-- A lane that may be used and has passed its PRBS window (R152). -/
def State.lanePassed (s : State) (n q : Nat) : Bool := s.laneOk n q && ((s.lk n).lanes.getD q LaneRx.reset).pass

/-- DETECT (R151): lanes neither excluded nor retired send training blocks; LOCK follows once a lane is locked. -/
def State.enterDetect (s : State) (n : Nat) : State :=
  let off := s.rd (LNK_LANES_OEBAD n) ||| s.rd (LNK_LANES_RETIRED n)
  let s1 := (s.enter n 2).lmod n fun l => { l with txen := maskOf ((List.range 5).filter fun q => !bitAt off q) }
  if (s1.lk n).rxlock = 0 then s1 else s1.enterLock n

/-- A read of an engine register is put to the management port with the addresses of KB_LNK_OE_ADDR (R155). -/
def State.oeAsk (s : State) (n addr : Nat) : State :=
  s.lmod n fun l => { l with oeReq := some (s.rd (LNK_OE_ADDR_PRTAD n), s.rd (LNK_OE_ADDR_DEVAD n), addr) }

/-- A sweep of the 11 engine registers starts (R156). -/
def State.oeStart (s : State) (n : Nat) : State := (s.lmod n fun l => { l with oeBlind := false }).oeAsk n 0x9000

/-- HEALTH (R151, R156): in the first attempt after a full reset the engine reads wait for HEALTH_WAIT_END. -/
def State.enterHealth (s : State) (n : Nat) : State :=
  let s1 := (((s.startTrainingOf n false).enter n 1).wr (LNK_LANES_OEBAD n) 0).lmod n fun l => { l with oeReq := none, oeBlind := false }
  if (s1.lk n).first then s1 else s1.oeStart n

/-- A link that may leave DOWN does (R151): EN and USED are 1, and boot has reached step 7. -/
def State.tryEnable (s : State) (n : Nat) : State :=
  if s.lst n = 0 ∧ s.on (LNK_CTL_EN n) ∧ !s.on (LNK_TST_BUSY n) ∧ s.on (LNK_EXP_USED n) ∧ 7 ≤ s.rd IMG_BOOT_STEP then s.enterHealth n else s

/-- LOCK of a retrain (R153): training blocks on every lane that is not retired. -/
def State.lockAgain (s : State) (n : Nat) : State :=
  ((s.startTrainingOf n true).lmod n fun l =>
    { l with txen := maskOf ((List.range 5).filter fun q => !bitAt (s.rd (LNK_LANES_RETIRED n)) q) }).enterLock n

/-- A retrain from ACTIVE, QUARANTINE or INCOMPAT (R153): a replay run is abandoned and new flits stop (R182). The side
that starts it (`own`) first sends RETRAIN in three CTRL flits, one each flit period; the partner enters LOCK at once. -/
def State.startRetrain (s : State) (n : Nat) (own : Bool) : State :=
  if s.lst n = 5 ∨ s.lst n = 6 ∨ s.lst n = 7 then
    let s1 := if s.rd (LNK_RSTAT_DSTATE n) = 0 then s.wr (LNK_RSTAT_DSTATE n) 1 else s
    if own then s1.lmod n fun l => if l.retrainTx ≠ 0 ∨ l.retrainWait then l else { l with retrainTx := 3, run := [] }
    else s1.lockAgain n
  else s

/-- Lock is lost (R148): a retrain, or before ACTIVE a failed attempt. -/
def State.lockLoss (s : State) (n : Nat) : State :=
  let s1 := s.raise (EV_LNKP_LOCKLOSS n)
  if s.lst n = 5 ∨ s.lst n = 6 ∨ s.lst n = 7 then s1.startRetrain n true
  else if s.lst n = 3 ∨ s.lst n = 4 then s1.attemptFail n (some 5)
  else s1

/-- The escalation of R181, steps 1 and 2. -/
def State.escalate (s : State) (n : Nat) : State :=
  if s.on (LNK_RSTAT_EL n) then s.downWait n 1
  else (((s.raise (EV_LNKR_ESCRT n)).wr (LNK_RSTAT_EL n) 1).wr (LNK_RSTAT_RC n) 0).startRetrain n true

/-- Lanes whose windows count in LOCK: block-locked and fit for use. -/
def State.lockLanes (s : State) (n : Nat) : List Nat :=
  (List.range 5).filter fun q => s.laneOk n q && ((s.lk n).lanes.getD q LaneRx.reset).locked

/-- Steps 3 and 4 of R152: with the windows complete, an empty RXOK of the partner fails the attempt; unchanged for 64
blocks, it sets the transmit width and map, and the countdown to flits starts. A changed width sets WIDTH. -/
def State.trySwitch (s : State) (n : Nat) : State :=
  let l := s.lk n
  let ls := s.lockLanes n
  if s.lst n ≠ 3 ∨ l.switching ∨ ls.isEmpty ∨ !(ls.all fun q => (l.lanes.getD q LaneRx.reset).done) then s
  else
    let ok := lanesOf (s.rd (LNK_LANES_TXOK n))
    if ok.isEmpty then s.attemptFail n (some 3)
    else if l.stable < 64 then s
    else
      let w := fitWidth ok.length (s.wmax n)
      let old := s.rd (LNK_STATUS_TXW n)
      let s1 := ((s.wr (LNK_STATUS_TXW n) (codeOf w)).wr (LNK_MAP_TXMAP n) (packMap (ok.take w))).lmod n fun l =>
        { l with switching := true, swAt := s.kclk }
      s1.raiseIf (old != 3 && old != codeOf w) (EV_LNKP_WIDTH n)

/-! ## The neighbour exchange (R158, R159) -/

/-- This side's quarantine. -/
def State.ownQuar (s : State) (n : Nat) : Bool := s.on (LNK_NBR_QID n) || s.on (LNK_NBR_QVER n)

/-- Kalvon-B's NBR (R158): 3 slots. -/
def State.nbrCmd (s : State) (n : Nat) : LCmd :=
  let seen := (s.lk n).gotNbr
  { slots := 3, bytes := pack [(0, 8, 1), (8, 8, 3), (16, 1, b2n seen), (17, 1, b2n (seen && s.ownQuar n)), (24, 6, n), (32, 24, s.fna),
      (64, 16, s.inc), (80, 16, 0x7A11), (96, 16, 0x0C01), (112, 32, 0x00010002), (144, 8, 0x10), (152, 8, 0x11), (160, 32, 0x0000000F)] }

/-- An NBR queued; one with SEEN = 1 counts as sent. -/
def State.sendNbr (s : State) (n : Nat) : State := (s.sendCmd n (s.nbrCmd n)).lmod n fun l => { l with sentSeen := l.sentSeen || l.gotNbr }

/-- LSTATE of this handshake (R189): 2 slots. -/
def State.lstateCmd (s : State) (n : Nat) : LCmd :=
  let l := s.lk n
  let (held, exp, nxt, base) := l.hsOwn.getD (false, 0, 0, [])
  { slots := 2, bytes := pack ([(0, 8, 7), (8, 8, 2), (16, 1, b2n held), (17, 1, b2n l.hsSeen), (18, 1, s.rd (LNK_SEC_EN n)), (19, 1, b2n l.hsDone),
      (24, 12, exp), (40, 12, nxt)] ++ (List.range 8).map fun v => (128 + 16 * v, 14, base.getD v 0)) }

/-- The link enters ACTIVE or QUARANTINE (R159, R189, R210): the partner is compared with that of the last session,
and the LSTATE handshake starts; BASE counts every free slot, so nothing is owed from before. A link that returns in grace keeps DSTATE until it is decided. -/
def State.upEnter (s : State) (n st : Nat) : State :=
  let l := s.lk n
  let id := (l.peer.1, l.peer.2.1, l.peer.2.2.1)
  let changed := match l.lastUp with
    | some p => p != id
    | none => false
  let held := l.session == some id
  let base := (List.range 8).map fun v => s.rd (LNK_VC_ALLOC n v) - l.used.getD v 0
  let l1 := { l with fails := 0, lastUp := some id, hsSeen := false, hsDecided := false, hsDone := false, peerEnc := false, resumeNxt := none,
                     owed := [0, 0, 0, 0, 0, 0, 0, 0], given := [0, 0, 0, 0, 0, 0, 0, 0], taken := [0, 0, 0, 0, 0, 0, 0, 0],
                     hsOwn := some (held, s.rd (LNK_SEQ_RXEXP n), l.txAbs % 4096, base) }
  let s1 := ((s.setLk n l1).enter n st).raiseIf changed EV_RTE_NBRUP
  s1.sendCmd n (s1.lstateCmd n)

/-- A field set, with its event when it rises. -/
def State.setQ (s : State) (f : Fld) (b : Bool) (e : Option Ev) : State :=
  let s1 := s.wr f (b2n b)
  match e with
  | some ev => s1.raiseIf (b && !s.on f) ev
  | none => s1

/-- The identity registers take the partner's fields, whatever the verdict: R205, R210 and R266 read them on links
in ACTIVE (a deduction; R159 names the two quarantines). -/
def State.latchObs (s : State) (n : Nat) : State :=
  let (fna, link, inc, vendor, part, _) := (s.lk n).peer
  ((((s.wr (LNK_OBS_FNA n) fna).wr (LNK_OBS_LINK n) link).wr (LNK_OBS_ID_VENDOR n) vendor).wr (LNK_OBS_ID_PART n) part).wr (LNK_OBS_INC_INC n) inc

/-- The verdict of an exchange on the partner's NBR (R159 steps 2 to 5), before the state is entered. -/
def State.judgeNbr (s : State) (n lo hi caps : Nat) : State :=
  let l := s.lk n
  let top := min 0x11 hi
  let common := decide (max 0x10 lo ≤ top) && bits caps 16 4 == 0
  let s1 := ((s.wr (LNK_HLPL_PEER_LO n) lo).wr (LNK_HLPL_PEER_HI n) hi).wr (LNK_PEER_CAPS n) caps
  if !common then (s1.wr (LNK_HLPL_NEG n) 0).wr (LNK_CAPS n) 0
  else
    let s2 := (s1.wr (LNK_HLPL_NEG n) top).wr (LNK_CAPS n) (bits caps 0 16 &&& (if top = 0x10 then 0x7 else 0xF))
    let qid := decide (l.peer.1 ≠ s2.rd (LNK_EXP_FNA n)) || decide (l.peer.2.1 ≠ s2.rd (LNK_EXP_LINK n))
    let qver := decide (top < s2.rd (LNK_HLPL_FLOOR n))
    ((s2.latchObs n).wr (LNK_NBR_QID n) (b2n qid)).wr (LNK_NBR_QVER n) (b2n qver)

/-- The exchange ends once an NBR with SEEN = 1 has been received and sent (R159): a link that enters QUARANTINE by QID
or QVER sets NBRMIS or VERLOW. INCOMPAT ends a held session
as a failed attempt does (R191), with cause 6. -/
def State.endExchange (s : State) (n : Nat) : State :=
  let l := s.lk n
  if (s.lst n = 4 ∨ s.lst n = 7) ∧ l.gotSeen ∧ l.sentSeen then
    if s.rd (LNK_HLPL_NEG n) = 0 then
      if s.lst n = 7 then s
      else ((((s.wr (LNK_NBR_INCOMPAT n) 1).raise (EV_LNKP_INCOMPAT n)).wr (LNK_STATUS_CAUSE n) 6).declareDown n 0).enter n 7
    else
      let s0 := (s.wr (LNK_NBR_INCOMPAT n) 0).wr (LNK_NBR_QPEER n) (b2n l.peer.2.2.2.2.2)
      let s1 := (s0.raiseIf (s0.on (LNK_NBR_QID n)) (EV_LNKP_NBRMIS n)).raiseIf (s0.on (LNK_NBR_QVER n)) (EV_LNKP_VERLOW n)
      s1.upEnter n (if s1.ownQuar n || s1.on (LNK_NBR_QPEER n) then 6 else 5)
  else s

/-- QUARANTINE ends when QID, QVER and QPEER are clear (R160), and the first CTRL flit in ACTIVE carries LSTATE (R189). A
retrain that is about to start exchanges anew, so the state stays until then. -/
def State.leaveQuar (s : State) (n : Nat) : State :=
  if s.lst n = 6 ∧ !s.ownQuar n ∧ !s.on (LNK_NBR_QPEER n) ∧ (s.lk n).retrainTx = 0 ∧ !(s.lk n).retrainWait then
    let s1 := s.enter n 5
    s1.sendCmd n (s1.lstateCmd n)
  else s

/-! ## Spares and width (R161 to R165) -/

/-- The receive lanes in use, and a usable spare: a lane that passed, fit for use, in no map (R152, R161). -/
def State.rxLanes (s : State) (n : Nat) : List Nat := mapped (s.rd (LNK_MAP_RXMAP n))

def State.spareOk (s : State) (n q : Nat) : Bool :=
  !(s.rxLanes n).contains q && s.lanePassed n q

/-- The lowest usable spare that no repair uses. -/
def State.rxSpare (s : State) (n : Nat) : Option Nat :=
  findUp (fun q => s.spareOk n q && !((s.lk n).faults.any fun f => f.spare == q)) 5 0

/-- MIRROR (R157): logical lane, spare, HOLD. -/
def mirrorCmd (log spare : Nat) (hold : Bool) : LCmd := lcmd 3 1 (pack [(0, 8, log), (8, 8, spare), (16, 1, b2n hold)])

/-- The partner's physical lane behind a receive lane, and the receive lane of a partner's lane, by the training
blocks; a lane never heard counts as joined straight. -/
def State.physOf (s : State) (n q : Nat) : Nat :=
  let r := (s.lk n).lanes.getD q LaneRx.reset
  if r.heard then r.phys else q

def State.rxOf (s : State) (n p : Nat) : Nat := (findUp (fun q => s.physOf n q == p) 5 0).getD p

/-- A mask of receive lanes as a mask of the partner's lanes. -/
def State.physMask (s : State) (n : Nat) (ls : List Nat) : Nat := maskOf (ls.map (s.physOf n))

/-- The receiver asks for a mirror of a logical lane on a spare (R162). -/
def State.askMirror (s : State) (n log spare : Nat) (hold : Bool) : State :=
  let s1 := (s.sendCmd n (mirrorCmd log (s.physOf n spare) hold)).lmod n fun l => { l with mirSpare := if log = 15 then none else some spare, mirHold := hold, mirOk := hold, mism := 0 }
  s1.wr (LNK_STATUS_MIRL n) (if log = 15 then 7 else log)

/-- WREQ (R157): width code, mask, READY. -/
def wreqCmd (w mask : Nat) (ready : Bool) : LCmd := lcmd 4 1 (pack [(0, 8, w), (8, 5, mask), (16, 1, b2n ready)])

def State.askWidth (s : State) (n w mask : Nat) (ready : Bool) : State :=
  (s.sendCmd n (wreqCmd w mask ready)).lmod n fun l => { l with wreq := some (w, mask, ready) }

/-- Good receive lanes: those that passed and are fit for use. -/
def State.goodLanes (s : State) (n : Nat) : List Nat := (List.range 5).filter fun q => s.lanePassed n q

/-- The link narrows because a mapped lane faulted and no spare can be verified (R164). A spare that was not
verified is not among the lanes that are received well. -/
def State.narrow (s : State) (n : Nat) : State :=
  let g := (s.goodLanes n).filter fun q => !((s.lk n).faults.any fun f => f.spare == q)
  (s.lmod n fun l => { l with faults := [], narrowing := true }).askWidth n (codeOf (fitWidth g.length (s.wmax n))) (s.physMask n g) true

/-- A lane fault of physical lane q (R161, R163), beside those already under repair. -/
def State.laneFault (s : State) (n q : Nat) : State :=
  let s1 := s.lmod n fun l => { l with bad := l.bad ||| 2 ^ q }
  match (List.range 4).find? fun l => mapLane (s.rd (LNK_MAP_RXMAP n)) l = q with
  | none => s1
  | some log =>
    let s1 := s1.lmod n fun l => { l with repair := true }
    match s1.rxSpare n with
    | none => s1.narrow n
    | some sp =>
      let s2 := if s1.rd (LNK_STATUS_MIRL n) = log ∧ (s1.lk n).mirSpare = some sp ∧ !(s1.lk n).mirHold then s1 else s1.askMirror n log sp false
      s2.lmod n fun l => { l with faults := l.faults ++ [{ log := log, lane := q, spare := sp, good := 0 }] }

/-- A spare goes out of use (R162). -/
def State.spareOutOf (s : State) (n q : Nat) : State :=
  let l := s.lk n
  let s1 := (s.setLk n { l with bad := l.bad ||| 2 ^ q }).raise (EV_LNKP_SPFAIL n)
  let s2 := if l.mirSpare = some q then s1.askMirror n 15 q false else s1
  match l.faults.find? fun f => f.spare == q with
  | some f => match s2.rxSpare n with
    | some sp => (s2.askMirror n f.log sp false).lmod n fun l =>
        { l with faults := l.faults.map fun g => if g.spare = q then { g with spare := sp, good := 0 } else g }
    | none => s2.narrow n
  | none => s2

/-- The swap of R163 step 3: the receiver takes the logical lane from the spare. The spare still copies the lane, with
HOLD = 1, but it is now the lane itself, so MIRL shows none: DESIGN CHOICE (assumption 69; R163 and R167 do not say). -/
def State.swapLane (s : State) (n : Nat) (f : LaneFault) : State :=
  let s1 := (s.wr (LNK_MAP_RXMAP n) (setBits (s.rd (LNK_MAP_RXMAP n)) (3 * f.log) 3 f.spare)).wr (LNK_STATUS_SPUSE n) 1
  let s2 := ((s1.lmod n fun l => { l with faults := l.faults.filter (· != f), repair := l.narrowing || l.faults.any (· != f), unc := 0 }).raise (EV_LNKP_SPARE n)).askMirror n f.log f.spare true
  s2.wr (LNK_STATUS_MIRL n) 7

/-- A tagged error of a lane, with the replacement of a marginal one (R432, R434, R436). -/
def State.laneError (s : State) (n q : Nat) : State :=
  let l := s.lk n
  let load := l.msFlits != 0 && decide (9 * l.msFlits ≤ 10 * l.msData)
  let hot := decide ((s.rd (LNK_OE_LIM2_TEMP_MAX n) : Int) * 256 - 2560 ≤ sgn 16 (s.rd (LNK_OE_TEMP_TEMP n)))
  let rid := mkRid 2 (n * 8 + q)
  let (s1, marginal) := s.tagError rid (s.rd (LNK_STATUS_RXW n) + 4 * b2n load + 8 * b2n hot)
  if !marginal then s1
  else if (s1.rxLanes n).contains q && (s1.rxSpare n).isNone then s1.noSpare rid
  else ((s1.preempt rid).wr (LNK_LANES_RETIRED n) (s1.rd (LNK_LANES_RETIRED n) ||| 2 ^ q)).laneFault n q

/-! ## Replay buffers (R438) -/

/-- The replay bank under retirement holds no unacknowledged flit any more: it is retired. -/
def State.replayRetire (s : State) (n : Nat) : State :=
  let mem := 4 + n
  let b := s.rd (bankRet mem)
  let l := s.lk n
  if s.on (bankCopy mem) && !(l.buf.any fun f => decide (l.ackAbs ≤ f.num ∧ f.num + 1 < Sparse.get (fun _ => 0) s.ecc.copying mem ∧ f.num / 32 % 16 = b)) then
    (s.wr (bankCopy mem) 0).raise EV_TELF_BANKRET (some (bankRid mem b))
  else s

/-! ## Key epochs, and what takes effect before other events of one angle (R41, R182, R194) -/

/-- The load of a direction that waits for its epoch. -/
def State.pendKey (s : State) (n : Nat) (rx : Bool) : Option PendKey := if rx then (s.lk n).rxPend else (s.lk n).txPend

/-- The epoch time of a direction's load (R194); the angle ends a grace with a flush first (R182). -/
def State.keyEpoch (s : State) (n : Nat) (rx : Bool) : State :=
  match s.pendKey n rx with
  | none => s
  | some k =>
    if !s.reached (instant k.cyc k.ang) then s
    else
      let s0 := if s.rd (LNK_RSTAT_DSTATE n) = 2 then s.flushLink n else s
      let l := s0.lk n
      let key : LKey := { key := k.key, salt := k.salt, inv := 0 }
      let i := instant k.cyc k.ang
      let s1 := if rx then
          let par := l.rxUsed && !l.rxPar
          let l1 := { l with rxPend := none, rxUsed := true, rxPar := par, lastRxEp := some i }
          ((s0.setLk n (if par then { l1 with rxKey1 := some key } else { l1 with rxKey0 := some key })).wr (LNK_SEC_RXKEY n) 1).wr (LNK_KSTAT_RXPEND n) 0
        else
          let par := l.txUsed && !s0.on (LNK_SEC_KEP n)
          (((s0.setLk n { l with txPend := none, txUsed := true, txKey := some key, lastTxEp := some i }).wr (LNK_SEC_TXKEY n) 1).wr (LNK_SEC_KEP n) (b2n par)).wr
            (LNK_KSTAT_TXPEND n) 0
      s1.raise (EV_LNKR_KEPOCH n)

/-- The loads whose epoch time is reached: link and direction. -/
def State.dueKeys (s : State) : List (Nat × Bool) :=
  (s.lnk.flatMap fun e => [(e.1, false), (e.1, true)]).filter fun e => match s.pendKey e.1 e.2 with
    | some k => s.reached (instant k.cyc k.ang)
    | none => false

/-- Key epochs come first of the events of one angle (R41). -/
def State.firstKeys (s : State) : State := s.dueKeys.foldl (fun s e => s.reselect fun s => s.keyEpoch e.1 e.2) s

/-- Then the operating point: triggers and wakes of the angle find both done (R41). -/
def State.firstOpp (s : State) : State := s.firstKeys.takeOpp

end Sys2Proof.Machine
end

