-- ==== Sys2Proof/Machine/Rlc.lean ====
section
/-!
DEFINITION. The remote line cache in Kalvon-T and the client port (R123, R124, R127, R129).
-/
namespace Sys2Proof.Machine

/-! ## Lines -/

/-- A line of the cache, by 16·set + way. -/
def State.line (s : State) (k : Nat) : CacheLine := Sparse.get (fun _ => CacheLine.empty) s.xing.cache k

/-- A line replaced; KT_XPR_OCC counts the valid lines. -/
def State.setLine (s : State) (k : Nat) (l : CacheLine) : State :=
  let was := (s.line k).st != 0
  let now := l.st != 0
  let s1 := { s with xing := { s.xing with cache := Sparse.set (fun _ => CacheLine.empty) s.xing.cache k l } }
  let n := s.rd KT_XPR_OCC_LINES
  if was == now then s1 else s1.wr KT_XPR_OCC_LINES (if now then n + 1 else n - 1)

/-- The valid line of an address. -/
def State.findLine (s : State) (la : Nat) : Option Nat :=
  findUp (fun k => (s.line k).st != 0 && (s.line k).tag == tagOf la) 16 (16 * setOf la)

/-- A request in a phase that holds its line or way. -/
def holdsLine (r : TReq) : Bool :=
  r.phase == .grant || r.phase == .removal || r.phase == .client || (r.phase == .room && r.req.op == 16)

/-- A transaction is pending on a line (R129). -/
def State.lineBusy (s : State) (la : Nat) : Bool :=
  (s.xing.reqs.any fun r => r.req.laddr == la && holdsLine r) ||
  (s.xing.snoops.any fun n => n.laddr == la && match n.why with
    | .home _ _ => true
    | _ => false)

/-- A way is pending, or kept for a request that waits for room. -/
def State.wayBusy (s : State) (k : Nat) : Bool :=
  s.xing.reqs.any fun r => r.way == k && (holdsLine r || r.phase == .room)

/-! ## Replacement (R127) -/

/-- The nodes of the tree above a way, from the root, with whether the way lies to the right (assumption 20). -/
def plruPath (w : Nat) : List (Nat × Bool) := [(1, bitAt w 3), (2 + w / 8, bitAt w 2), (4 + w / 4, bitAt w 1), (8 + w / 2, bitAt w 0)]

/-- A way used: every node on its path points away from it. -/
def State.touch (s : State) (k : Nat) : State :=
  let t := Sparse.get (fun _ => 0) s.xing.plru (k / 16)
  let t1 := (plruPath (k % 16)).foldl (fun t e => setBits t e.1 1 (b2n (!e.2))) t
  { s with xing := { s.xing with plru := Sparse.set (fun _ => 0) s.xing.plru (k / 16) t1 } }

/-- The victim of a set: from the root, the side a node points to, unless every way of it is pending. `lo` and
`2 ^ d` are the ways below a node. -/
def plruVictim (t : Nat) (free : Nat → Bool) : Nat → Nat → Nat → Option Nat
  | 0, _, lo => if free lo then some lo else none
  | d + 1, node, lo =>
    let left := fun _ : Unit => plruVictim t free d (2 * node) lo
    let right := fun _ : Unit => plruVictim t free d (2 * node + 1) (lo + 2 ^ d)
    if bitAt t node then (match right () with
      | some w => some w
      | none => left ())
    else (match left () with
      | some w => some w
      | none => right ())

/-- The way a new line takes: an invalid one, else the victim (assumption 20). -/
def State.pickWay (s : State) (set : Nat) : Option Nat :=
  match findUp (fun k => (s.line k).st == 0 && !s.wayBusy k) 16 (16 * set) with
  | some k => some k
  | none => (plruVictim (Sparse.get (fun _ => 0) s.xing.plru set) (fun w => !s.wayBusy (16 * set + w)) 4 1 0).map fun w => 16 * set + w

/-! ## Messages and answers -/

/-- A free XID of a bank (R116). -/
def State.freeXid (s : State) (bank : Nat) : Option Nat :=
  findUp (fun x => !(s.xing.reqs.any fun r => r.bank == bank && r.xid == x &&
    (r.phase == .grant || r.phase == .removal || r.phase == .memory))) 1024 0

/-- A request across (R116). -/
def mkReq (ty xid way la part arg : Nat) (data : List Unit128) : XMsg :=
  { hdr := BitVec.ofNat 128 (pack [(0, 8, ty), (8, 5, la % 32), (16, 10, xid), (28, 4, way), (32, 46, la), (78, 8, part), (86, 8, arg)]), data := data }

/-- The four units of a line (R113), and the line of four units. -/
def lineUnits (l : Line) : List Unit128 := (List.range 4).map fun i => l.extractLsb' (128 * i) 128

def unitsLine (us : List Unit128) : Line := BitVec.ofNat 512 (packUnits (us.take 4))

/-- A response on rs (R123); ERR sets CERR. -/
def State.answer (s : State) (bank rsp cid cause : Nat) (data : Line) : State :=
  let r : ClientRsp := { rsp := rsp, cid := cid, cause := cause, data := data }
  ({ s with xing := { s.xing with rs := s.xing.rs ++ [(bank, r)] } }).raiseIf (rsp == 5) EV_KT_XPR_CERR

def State.addReq (s : State) (r : TReq) : State := { s with xing := { s.xing with reqs := s.xing.reqs ++ [r] } }

/-! ## Snoops to the client (R124) -/

/-- A snoop on sn; at most 16 are outstanding per bank. -/
def State.snoopClient (s : State) (la : Nat) (inv : Bool) (why : SnoopFor) : State :=
  let bank := la % 32
  let sid := (findUp (fun x => !(s.xing.snoops.any fun n => n.bank == bank && n.sid == x)) 16 0).getD 16
  let sn := if sid < 16 then s.xing.sn ++ [(bank, sid)] else s.xing.sn
  { s with xing := { s.xing with snoops := s.xing.snoops ++ [{ bank := bank, sid := sid, laddr := la, inv := inv, why := why }], sn := sn } }

/-- A SID that became free goes to the first snoop of the bank that waits. -/
def issueSid (bank sid : Nat) : List TSnoop → List TSnoop
  | [] => []
  | n :: ns => if n.bank = bank ∧ n.sid = 16 then { n with sid := sid } :: ns else n :: issueSid bank sid ns

/-! ## Removal of a line (R129) -/

/-- WB if the line is dirty, else EVICT; without a free XID it waits. No client's request gives it a partition: PART is 0
(assumption 65). -/
def State.sendRemoval (s : State) (r : TReq) : State :=
  let l := s.line r.way
  match s.freeXid r.bank with
  | none => s.addReq { r with phase := .room }
  | some x =>
    let dirty := l.st == 3
    let m := mkReq (if dirty then 0x23 else 0x24) x (r.way % 16) r.req.laddr 0 0 (if dirty then lineUnits l.data else [])
    ((s.addReq { r with phase := .removal, xid := x }).sendB 1 m).count KT_XPR_EVICT_CNT

/-- A removal of a line that FLUSH asks for while a transaction on it is pending: it waits as a request of the line does (R129, R137). OP
17 marks it; it has no client. -/
def flushReq (la : Nat) : TReq :=
  { bank := la % 32, req := { op := 17, cid := 0, part := 0, laddr := la, arg := 0, data := 0 }, phase := .line, xid := 0, way := 0 }

/-- The removal of a valid line starts: an INV snoop to the client if it holds a copy, then WB or EVICT. -/
def State.startRemoval (s : State) (k : Nat) : State :=
  let l := s.line k
  let la := l.tag * 2048 + k / 16
  let r : TReq := { bank := la % 32, req := { op := 16, cid := 0, part := 0, laddr := la, arg := 0, data := 0 }, phase := .client, xid := 0, way := k }
  if l.cp then (s.addReq r).snoopClient la true .remove else s.sendRemoval r

/-! ## Requests (R124, R129) -/

/-- The capability that a request needs is negotiated (R136). -/
def State.capFor (s : State) (op : Nat) : Bool :=
  let caps := s.rd KT_XPR_CAPS
  if op = 6 then bitAt caps 2 else if op = 0 ∨ op = 1 ∨ op = 2 ∨ op = 7 ∨ op = 8 then bitAt caps 0 else true

/-- A request sent on class M, or kept waiting for an XID. The flag says that it waits. -/
def State.sendMem (s : State) (r : TReq) (ty arg : Nat) (data : List Unit128) : State × Bool :=
  match s.freeXid r.bank with
  | none => (s, true)
  | some x => ((s.addReq { r with phase := .memory, xid := x }).sendB 0 (mkReq ty x 0 r.req.laddr r.req.part arg data), false)

/-- RD_S, RD_U or UPGRADE for a way. -/
def State.sendCoh (s : State) (r : TReq) (ty k : Nat) : State × Bool :=
  match s.freeXid r.bank with
  | none => (s, true)
  | some x => (((s.addReq { r with phase := .grant, xid := x, way := k }).sendB 1 (mkReq ty x (k % 16) r.req.laddr r.req.part 0 [])).count KT_XPR_MISS_CNT, false)

/-- A request whose line the cache holds in way k (R124 rules 1 to 3, R129). -/
def State.serveHit (s : State) (r : TReq) (k : Nat) : State × Bool :=
  let l := s.line k
  let op := r.req.op
  let hit := fun (s : State) (rsp : Nat) (data : Line) => (((s.answer r.bank rsp r.req.cid 0 data).count KT_XPR_HIT_CNT).touch k, false)
  if op = 0 ∨ op = 3 then
    if 2 ≤ l.st ∧ l.cx then ((s.addReq { r with phase := .client, way := k }).snoopClient r.req.laddr false .share, false)
    else if op = 0 then hit (s.setLine k { l with cp := true }) 0 l.data
    else hit s 2 l.data
  else if op = 1 then
    if l.st = 1 then s.sendCoh r 0x22 k
    else hit (s.setLine k { l with cp := true, cx := true }) (if l.st = 3 then 6 else 1) l.data
  else if op = 2 then
    if l.st = 1 then s.sendCoh r 0x22 k else hit (s.setLine k { l with cp := true, cx := true }) 3 0
  else if op = 7 then (s.setLine k { l with st := 3, cp := false, cx := false, data := r.req.data }, false)
  else if op = 8 then (s.setLine k { l with cp := false, cx := false }, false)
  else (s.startRemoval k, true)

/-- A request for a line that the cache does not hold. `room` is the way kept for it. -/
def State.serveMiss (s : State) (r : TReq) : State × Bool × TReq :=
  let op := r.req.op
  let out := fun (x : State × Bool) => (x.1, x.2, r)
  if op = 0 ∨ op = 1 ∨ op = 2 then
    if s.rd KT_XPR_CTL_RLC_EN = 0 then out (s.sendMem r 0x10 0 [])
    else
      let way := if r.phase == .room then some r.way else s.pickWay (setOf r.req.laddr)
      match way with
      | none => (s, true, r)
      | some k =>
        if s.wayBusy k then (s, true, r)
        else if (s.line k).st = 0 then out (s.sendCoh r (if op = 0 then 0x20 else 0x21) k)
        else (s.startRemoval k, true, { r with phase := .room, way := k })
  else if op = 3 then out (s.sendMem r 0x10 0 [])
  else if op = 4 then out (s.sendMem r 0x11 0 (lineUnits r.req.data))
  else if op = 5 then out (s.sendMem r 0x12 r.req.arg (lineUnits r.req.data))
  else if op = 6 then out (s.sendMem r 0x13 r.req.arg [r.req.data.extractLsb' 0 128])
  else if op = 9 then out (s.answer r.bank 3 r.req.cid 0 0, false)
  else (s, false, r)

/-- A request is served, or waits; a removal that waits for an XID is tried again. -/
def State.serve (s : State) (r : TReq) : State :=
  if r.req.op = 16 then s.sendRemoval r
  else if s.lineBusy r.req.laddr || s.xing.reqs.any fun q => q.req.laddr == r.req.laddr && (q.phase == .line || q.phase == .room) then s.addReq { r with phase := if r.phase == .room then .room else .line }
  else
    match s.findLine r.req.laddr with
    | some k => let (s1, wait) := s.serveHit r k; if wait then s1.addReq { r with phase := .line } else s1
    | none => let (s1, wait, r1) := s.serveMiss r; if wait then s1.addReq { r1 with phase := if r1.phase == .room then .room else .line } else s1

/-- Requests that waited are tried again, in order of arrival. -/
def State.serveWaiting (s : State) : State :=
  let w := s.xing.reqs.filter fun r => r.phase == .line || r.phase == .room
  w.foldl (fun s r => s.serve r) { s with xing := { s.xing with reqs := s.xing.reqs.filter fun r => !(r.phase == .line || r.phase == .room) } }

/-! ## Snoops of Kalvon-B (R129, R131) -/

/-- SRSP, or SRSP_DATA with the line. -/
def State.srsp (s : State) (bank xid : Nat) (data : Option Line) : State :=
  match data with
  | some d => s.sendB 1 { hdr := BitVec.ofNat 128 (pack [(0, 8, 0x39), (8, 5, bank), (16, 10, xid)]), data := lineUnits d }
  | none => s.sendB 1 { hdr := BitVec.ofNat 128 (pack [(0, 8, 0x38), (8, 5, bank), (16, 10, xid)]), data := [] }

/-- A snoop of Kalvon-B that can be answered or passed to the client now. -/
def State.trySnoop (s : State) (m : XMsg) : Option State :=
  let la := msgLaddr m
  let xid := xf m 25 16
  let inv := msgTy m = 0x30
  if s.xing.reqs.any fun r => r.req.laddr == la && r.phase == .removal then some (s.srsp (la % 32) xid none)
  else if (s.xing.reqs.any fun r => r.req.laddr == la && (r.phase == .client || (r.phase == .room && r.req.op == 16))) ||
      (s.xing.snoops.any fun n => n.laddr == la) then none
  else
    match s.findLine la with
    | none => some (s.srsp (la % 32) xid none)
    | some k =>
      let l := s.line k
      if inv then
        if l.cp then some (s.snoopClient la true (.home xid true))
        else some ((s.setLine k CacheLine.empty).srsp (la % 32) xid (if l.st = 3 then some l.data else none))
      else if l.st = 1 then some (s.srsp (la % 32) xid none)
      else if l.cx then some (s.snoopClient la false (.home xid false))
      else some ((s.setLine k { l with st := 1 }).srsp (la % 32) xid (if l.st = 3 then some l.data else none))

/-- What waited in Kalvon-T is tried again: snoops of Kalvon-B, then requests. -/
def State.rlcWake (s : State) : State :=
  (s.xing.snpWait.foldl (fun (s : State) m =>
    match s.trySnoop m with
    | some s1 => s1
    | none => { s with xing := { s.xing with snpWait := s.xing.snpWait ++ [m] } })
    { s with xing := { s.xing with snpWait := [] } }).serveWaiting

/-- SNP_INV or SNP_SHR presented (R129). -/
def State.takeSnoop (s : State) (m : XMsg) : State :=
  let s1 := s.count KT_XPR_SNP_CNT
  match s1.trySnoop m with
  | some s2 => s2.rlcWake
  | none => { s1 with xing := { s1.xing with snpWait := s1.xing.snpWait ++ [m] } }

/-- A request taken from the client port (R124): refused as malformed (an OP field with a reserved code, rule 5, spells no operation),
refused for want of a capability, or served. A
client's WB or EVICT is not kept behind the snoop that it crosses. -/
def State.clientReq (s : State) (bank op : Nat) (q0 : ClientReq) : State :=
  let q := { q0 with op := op }
  let mine := s.xing.reqs.filter fun r => r.bank == bank && decide (r.req.op < 16)
  if !s.portsReady || 1024 ≤ mine.length || 32 ≤ bank then s
  else if 10 ≤ q0.op ∨ q.laddr % 32 ≠ bank ∨ mine.any fun r => r.req.cid == q.cid then s.answer bank 5 q.cid 0x07 0
  else if !s.capFor op then s.answer bank 5 q.cid 0x06 0
  else
    let r : TReq := { bank := bank, req := q, phase := .line, xid := 0, way := 0 }
    if op = 7 ∨ op = 8 then
      match s.findLine q.laddr with
      | some k => (s.serveHit r k).1
      | none => s
    else s.serve r

/-- The request that an answer across ends, by bank, XID and phase. -/
def State.takeReq (s : State) (bank xid : Nat) (ph : TPhase) : Option TReq × State :=
  let (r, rest) := takeFirst (fun (r : TReq) => r.bank == bank && r.xid == xid && r.phase == ph) s.xing.reqs
  (r, { s with xing := { s.xing with reqs := rest } })

/-- GNT_S, GNT_E or GNT_UPG presented (R129). A grant that is less than the request needs leaves it to ask again. -/
def State.takeGrant (s : State) (m : XMsg) : State :=
  match s.takeReq (xf m 12 8) (xf m 25 16) .grant with
  | (none, _) => s
  | (some r, s0) =>
    let ty := msgTy m
    let k := r.way
    let l := s0.line k
    let la := r.req.laddr
    if ty = 0x2A then
      let s1 := (s0.setLine k { l with st := 2, cp := true, cx := true }).touch k
      ((if r.req.op = 1 then s1.answer r.bank 1 r.req.cid 0 l.data else s1.answer r.bank 3 r.req.cid 0 0)).rlcWake
    else
      let d := unitsLine m.data
      let st := if ty = 0x28 then 1 else 2
      let ex := ty = 0x29
      let s1 := (s0.setLine k { tag := tagOf la, st := st, cp := ex || r.req.op = 0, cx := ex, data := d }).touch k
      if ty = 0x28 ∧ r.req.op ≠ 0 then (s1.serve { r with phase := .line }).rlcWake
      else (s1.answer r.bank (if ex then 1 else 0) r.req.cid 0 d).rlcWake

/-- GNT_ERR presented: the request ends with ERR; the removal of a line ends too (R129, R132). -/
def State.takeGntErr (s : State) (m : XMsg) : State :=
  match s.takeReq (xf m 12 8) (xf m 25 16) .grant with
  | (some r, s0) => (s0.answer r.bank 5 r.req.cid (xf m 93 86) 0).rlcWake
  | (none, _) =>
    match s.takeReq (xf m 12 8) (xf m 25 16) .removal with
    | (some r, s0) => (s0.setLine r.way CacheLine.empty).rlcWake
    | (none, _) => s

/-- WB_ACK presented: the way is free (R129). -/
def State.takeWbAck (s : State) (m : XMsg) : State :=
  match s.takeReq (xf m 12 8) (xf m 25 16) .removal with
  | (some r, s0) => (s0.setLine r.way CacheLine.empty).rlcWake
  | (none, _) => s

/-- An answer on class M: data, completion, old value or error (R124, R133). -/
def State.takeMem (s : State) (m : XMsg) : State :=
  match s.takeReq (xf m 12 8) (xf m 25 16) .memory with
  | (none, _) => s
  | (some r, s0) =>
    let ty := msgTy m
    (if ty = 0x18 then s0.answer r.bank 2 r.req.cid 0 (unitsLine m.data)
     else if ty = 0x19 then s0.answer r.bank 3 r.req.cid 0 0
     else if ty = 0x1A then s0.answer r.bank 4 r.req.cid 0 (BitVec.ofNat 512 ((m.data.headD 0).toNat % 2 ^ 64))
     else s0.answer r.bank 5 r.req.cid (xf m 93 86) 0).rlcWake

/-- The client's answer to a snoop (R129): RSP 0 ACK_I, 1 ACK_S, 2 DATA_I, 3 DATA_S. While the port is not ready sr takes nothing
(R50). A snoop that got the SID goes out on sn. -/
def State.clientAnswer (s : State) (bank sid rsp : Nat) (data : Line) : State :=
  if !s.portsReady then s else
  match takeFirst (fun (n : TSnoop) => n.bank == bank && n.sid == sid && sid < 16) s.xing.snoops with
  | (none, _) => s
  | (some n, rest) =>
    let sn := if rest.any fun n => n.bank == bank && n.sid == 16 then s.xing.sn ++ [(bank, sid)] else s.xing.sn
    let s0 := { s with xing := { s.xing with snoops := issueSid bank sid rest, sn := sn } }
    let dirty := rsp = 2 ∨ rsp = 3
    let keeps := rsp = 1 ∨ rsp = 3
    match s0.findLine n.laddr with
    | none => s0.rlcWake
    | some k =>
      let l0 := s0.line k
      let l := if dirty then { l0 with st := 3, data := data } else l0
      let out := if l.st = 3 then some l.data else none
      match n.why with
      | .home xid true => ((s0.setLine k CacheLine.empty).srsp bank xid out).rlcWake
      | .home xid false => ((s0.setLine k { l with st := 1, cp := keeps, cx := false }).srsp bank xid out).rlcWake
      | .remove =>
        let s1 := s0.setLine k { l with cp := false, cx := false }
        (match takeFirst (fun (r : TReq) => r.way == k && r.req.op == 16 && r.phase == TPhase.client) s1.xing.reqs with
        | (some r, rs) => ({ s1 with xing := { s1.xing with reqs := rs } }).sendRemoval r
        | (none, _) => s1).rlcWake
      | .share =>
        let s1 := s0.setLine k { l with cp := keeps, cx := false }
        (match takeFirst (fun (r : TReq) => r.way == k && r.req.op != 16 && r.phase == TPhase.client) s1.xing.reqs with
        | (some r, rs) =>
          let s2 := { s1 with xing := { s1.xing with reqs := rs } }
          let s3 := if r.req.op = 0 then s2.setLine k { l with cp := true, cx := false } else s2
          ((s3.answer r.bank (if r.req.op = 0 then 0 else 2) r.req.cid 0 l.data).count KT_XPR_HIT_CNT).touch k
        | (none, _) => s1).rlcWake

/-- Every line of the cache is removed (R137 FLUSH); a line with a transaction pending after it. -/
def State.flushRlc (s : State) : State :=
  ((s.xing.cache.filter fun (e : Nat × CacheLine) => e.2.st != 0).map fun (e : Nat × CacheLine) => e.1).foldl
    (fun s k =>
      let la := (s.line k).tag * 2048 + k / 16
      if s.lineBusy la then s.addReq (flushReq la) else s.startRemoval k) s

end Sys2Proof.Machine
end

