-- ==== Sys2Proof/Machine/Stream.lean ====
section
/-!
DEFINITION. Tile streams on class S (R120, R121).
-/
namespace Sys2Proof.Machine

/-- Channel key of a direction: false for T→B. -/
def chKey (bt : Bool) (ch : Nat) : Nat := (if bt then 8 else 0) + ch

def State.ch (s : State) (k : Nat) : StreamCh := Sparse.get (fun _ => StreamCh.reset) s.xing.streams k

def State.setCh (s : State) (k : Nat) (c : StreamCh) : State :=
  { s with xing := { s.xing with streams := Sparse.set (fun _ => StreamCh.reset) s.xing.streams k c } }

/-- A stream frame handed to the crossing. -/
def State.sendStream (s : State) (bt : Bool) (p : Nat) : State :=
  let i : XItem := .stream (BitVec.ofNat 1024 p)
  if bt then { s with bond := { s.bond with xBT := s.bond.xBT ++ [i] } } else { s with bond := { s.bond with xTB := s.bond.xTB ++ [i] } }

/-- The stream bytes of a tile: header, then payload (R120). -/
def tileBytes (t : Tile) : List Nat := bytesOf 16 t.hdr.toNat ++ t.data.map (·.toNat)

/-- Frame `i` of a tile with `n` frames. -/
def streamFrame (ch tseq : Nat) (bs : List Nat) (n i : Nat) : Nat :=
  let part := (bs.drop (120 * i)).take 120
  pack [(0, 3, ch), (3, 1, b2n (i == 0)), (4, 1, b2n (i + 1 == n)), (5, 6, i), (16, 8, tseq), (24, 7, part.length)] + ofBytes part <<< 64

/-- Tiles that hold a credit start, in order (R121 rule 1). -/
def State.startTiles (s : State) (bt : Bool) (ch : Nat) : Nat → State
  | 0 => s
  | fuel + 1 =>
    let c := s.ch (chKey bt ch)
    match c.queue with
    | t :: q =>
      if c.credits = 0 then s
      else
        let bs := tileBytes t
        let n := (bs.length + 119) / 120
        let s1 := s.setCh (chKey bt ch) { c with credits := c.credits - 1, txSeq := (c.txSeq + 1) % 256, queue := q }
        State.startTiles ((List.range n).foldl (fun s i => s.sendStream bt (streamFrame ch c.txSeq bs n i)) s1) bt ch fuel
    | [] => s

/-- A tile for a channel of a direction. -/
def State.streamTile (s : State) (bt : Bool) (ch : Nat) (t : Tile) : State :=
  let c := s.ch (chKey bt ch)
  (s.setCh (chKey bt ch) { c with queue := c.queue ++ [t] }).startTiles bt ch (c.queue.length + 1)

/-- A buffer of a channel returned to the sender of direction `bt`: the receiving half sends CRET at once, in a
frame without tile data. -/
def State.creditBack (s : State) (bt : Bool) (ch : Nat) : State := s.sendStream (!bt) (pack [(32 + ch, 1, 1)])

/-- The credits that a frame of direction `bt` returns. -/
def State.takeCredits (s : State) (bt : Bool) (cret : Nat) : State :=
  ((List.range 8).filter fun c => bitAt cret c).foldl (fun s c =>
    let k := chKey (!bt) c
    (s.setCh k { s.ch k with credits := (s.ch k).credits + 1 }).startTiles (!bt) c ((s.ch k).queue.length + 1)) s

/-- The tile whose stream bytes are complete: each frame but the last holds 120 bytes (R120). -/
def StreamTile.whole (t : StreamTile) : Option (List Byte) :=
  match t.last with
  | none => none
  | some n => (List.range (n + 1)).foldl (fun acc i => match acc, t.parts.find? fun p => p.1 = i with
    | some bs, some p => some (bs ++ p.2)
    | _, _ => none) (some [])

/-- The tile that bytes spell: a 16-byte header and 1 to 4,096 payload bytes, as many as its LEN says. -/
def spellTile (bs : List Byte) : Option Tile :=
  let h := ofBytes ((bs.take 16).map (·.toNat))
  if bs.length < 17 ∨ bs.length ≠ 16 + bits h 44 13 then none else some { hdr := BitVec.ofNat 128 h, data := bs.drop 16 }

/-- A stream error: the whole tile is discarded, its credit returned, and the event set (R121 rule 4). -/
def State.streamError (s : State) (bt : Bool) (ch tseq : Nat) : State :=
  let k := chKey bt ch
  let c := s.ch k
  let asm := c.asm.filter (fun t => t.tseq != tseq) ++ [{ tseq := tseq, parts := [], last := none, dead := true }]
  ((s.setCh k { c with asm := asm }).creditBack bt ch).raise (if bt then EV_KT_XPR_STRM else EV_BNDX_PROTO)

/-- A tile leaves the assembly for the port, or in Kalvon-B for the tile source. Its credit returns when its last beat has
gone out (State.drainTso), or when the tile source takes it (R121 rule 3). -/
def State.giveTile (s : State) (bt : Bool) (ch : Nat) (t : Tile) : State :=
  if bt then { s with xing := { s.xing with tso := s.xing.tso ++ [(ch, t)] } }
  else { s with xing := { s.xing with fromT := s.xing.fromT ++ [(ch, t)] } }

/-- Complete tiles are presented in TSEQ order (R121 rule 2). -/
def State.presentTiles (s : State) (bt : Bool) (ch : Nat) : Nat → State
  | 0 => s
  | fuel + 1 =>
    let k := chKey bt ch
    let c := s.ch k
    match c.asm.find? fun t => t.tseq = c.rxSeq with
    | none => s
    | some t =>
      let c1 := { c with rxSeq := (c.rxSeq + 1) % 256, asm := c.asm.filter fun u => u.tseq != c.rxSeq }
      if t.dead then State.presentTiles (s.setCh k c1) bt ch fuel
      else
        match t.whole with
        | none => s
        | some bs =>
          match spellTile bs with
          | some tile => State.presentTiles ((s.setCh k c1).giveTile bt ch tile) bt ch fuel
          | none => State.presentTiles ((((s.setCh k c1).creditBack bt ch)).raise (if bt then EV_KT_XPR_STRM else EV_BNDX_PROTO)) bt ch fuel

/-- A class S frame in the receiving half of a direction (R120, R121). -/
def State.takeStream (s : State) (bt : Bool) (p : Nat) : State :=
  let s0 := s.takeCredits bt (bits p 32 8)
  let nb := bits p 24 7
  let ch := bits p 0 3
  let idx := bits p 5 6
  let tseq := bits p 16 8
  let first := bitAt p 3
  let last := bitAt p 4
  if nb = 0 then s0
  else
    let k := chKey bt ch
    let c := s0.ch k
    if 8 ≤ (tseq + 256 - c.rxSeq) % 256 then s0
    else
      let t := (c.asm.find? fun t => t.tseq = tseq).getD { tseq := tseq, parts := [], last := none, dead := false }
      if t.dead then s0
      else
        let beyond := match t.last with
          | some n => decide (n < idx) || last
          | none => last && t.parts.any fun q => decide (idx < q.1)
        let bad := decide (120 < nb) || decide (34 < idx) || first != (idx == 0) || (!last && nb != 120) || beyond || t.parts.any fun q => q.1 == idx
        if bad then (s0.streamError bt ch tseq).presentTiles bt ch 8
        else
          let bs := (bytesOf nb (p >>> 64)).map (BitVec.ofNat 8)
          let t1 := { t with parts := t.parts ++ [(idx, bs)], last := if last then some idx else t.last }
          (s0.setCh k { c with asm := c.asm.filter (fun u => u.tseq != tseq) ++ [t1] }).presentTiles bt ch 8

/-! ## Output channels (R47, R50, R52) -/

/-- The beats of a tile. -/
def beatsOf (t : Tile) : Nat := (t.data.length + 511) / 512

/-- What an egress channel shows while the port is ready: _valid with _sop, _eop, _hdr and _data of the beat to transfer, the bytes beyond
the tile's as 0 (R52). -/
def State.tsoPort (s : State) (c : Nat) : Option (Bool × Bool × Unit128 × Nat) :=
  if s.portsReady then
    (s.xing.tso.find? fun e => e.1 = c).map fun e =>
      let i := Sparse.get (fun _ => 0) s.xing.tsoAt c
      (i == 0, i + 1 == beatsOf e.2, e.2.hdr, ofBytes (((e.2.data.drop (512 * i)).take 512).map (·.toNat)))
  else none

/-- One KCLK of an egress channel: a beat goes out if the surroundings take it, and with a tile's last beat its buffer is free
(R121 rule 3). -/
def State.drainTso (s : State) (c : Nat) : State :=
  match s.xing.tso.find? fun e => e.1 = c with
  | none => s
  | some e =>
    if Config.portReady 2 c s.tclk then
      let i := Sparse.get (fun _ => 0) s.xing.tsoAt c + 1
      if i < beatsOf e.2 then { s with xing := { s.xing with tsoAt := Sparse.set (fun _ => 0) s.xing.tsoAt c i } }
      else ({ s with xing := { s.xing with tso := eraseOne e s.xing.tso, tsoAt := Sparse.set (fun _ => 0) s.xing.tsoAt c 0 } }).creditBack true c
    else s

/-- A queue of transfers after one KCLK: the first of each channel is gone if the surroundings took it. `seen` lists the channels whose
first has been met. -/
def drained {α : Type} (chan : α → Nat) (ready : Nat → Bool) : List Nat → List α → List α
  | _, [] => []
  | seen, a :: q =>
    if seen.contains (chan a) then a :: drained chan ready seen q
    else if ready (chan a) then drained chan ready (chan a :: seen) q
    else a :: drained chan ready (chan a :: seen) q

/-- One KCLK of Kalvon-T's output channels; while the ports are not ready their beats stay inside (R50). -/
def State.drainT (s : State) : State :=
  if s.portsReady then
    let x := s.xing
    let s1 := { s with xing := { x with rs := drained (·.1) (fun c => Config.portReady 0 c s.tclk) [] x.rs, sn := drained (·.1) (fun c => Config.portReady 1 c s.tclk) [] x.sn } }
    (List.range 8).foldl State.drainTso s1
  else s

/-- One KCLK of the memory channels of the base fabric port. -/
def State.drainB (s : State) : State :=
  { s with xing := { s.xing with memOut := drained (·.pair) (fun c => Config.portReady 3 c s.kclk) [] s.xing.memOut } }

end Sys2Proof.Machine
end

