-- ==== Sys2Proof/Machine/Crossing.lean ====
section
/-!
DEFINITION. The commands of the crossing protocol (chapter 04 of spec/): identity, launch and pace items in
Kalvon-T, memory and coherence messages in both halves, the client port, and tile streams.
-/
namespace Sys2Proof.Machine

/-- A message that a half acts on leaves those presented to it. -/
def State.tookMsgT (s : State) (m : XMsg) : State := { s with bond := { s.bond with inT := eraseOne m s.bond.inT } }
def State.tookMsgB (s : State) (m : XMsg) : State := { s with bond := { s.bond with inB := eraseOne m s.bond.inB } }

/-! ## Identity and capabilities (R134 to R136) -/

/-- Kalvon-T's own IDENT. -/
def msgIdentT (s : State) : XMsg :=
  { hdr := BitVec.ofNat 128 (pack [(0, 8, 0x70), (8, 2, 2), (16, 16, 0x7A11), (32, 16, 0x0C02), (48, 32, 0x00010002), (80, 8, 1), (88, 8, 1), (96, 2, s.buildWord % 4)]),
    data := [0x054001FF] }

/-- A pairing that failed: all traffic held, IDFAIL, the boot stopped (R136). -/
def State.pairFail (s : State) (stopc : Nat) : State := (s.stopBoot stopc).raise EV_BNDX_IDFAIL

/-- The common capabilities of R136 step 5, for a common minor version of HLP-S 1.x. -/
def commonCaps (own peer : Nat) : Nat :=
  pack [(0, 9, bits own 0 9 &&& bits peer 0 9), (16, 4, bits own 16 4), (20, 4, min (bits own 20 4) (bits peer 20 4)),
        (24, 4, min (bits own 24 4) (bits peer 24 4))]

/-- CAPS_SET with the common capabilities. -/
def msgCapsSet (caps : Nat) : XMsg := { hdr := 0x71, data := [BitVec.ofNat 128 caps] }

/-- KB_BND_CAPS as it is to be: the common capabilities of Kalvon-B and the peer. -/
def State.caps (s : State) : Nat := commonCaps 0x054001FF (s.rd BND_PEER_CAPS)

/-- IDENT (R136): Kalvon-T answers with its own; Kalvon-B records the peer, and fails the pairing or sends
CAPS_SET. -/
def execIdent (atB : Bool) (m : XMsg) (s : State) : Host.Outcome State Fault Refusal :=
  s.done <|
    if atB then s.onB fun s =>
      let s0 := s.tookMsgB m
      if s0.bond.identTries = 0 ∨ s0.bond.capsTries ≠ 0 ∨ s0.on IMG_BOOT_STOP then s0
      else
        let peer := bits (m.data.headD 0).toNat 0 32
        let s1 := ((((s0.wr BND_PEER_ID_VENDOR (xf m 31 16)).wr BND_PEER_ID_PART (xf m 47 32)).wr BND_PEER_VER (xf m 79 48)).wr
          BND_HLPS_PEER_MAJ (xf m 87 80)).wr BND_HLPS_PEER_MIN (xf m 95 88)
        let s2 := s1.wr BND_PEER_CAPS peer
        let minor := min 1 (xf m 95 88)
        if xf m 87 80 ≠ 1 ∨ xf m 97 96 ≠ s2.buildWord % 4 ∨ bits peer 16 4 ≠ 0 then s2.pairFail 4
        else if minor < s2.rd BND_HLPS_FLOOR then s2.pairFail 4
        else ({ s2 with bond := { s2.bond with capsTries := 1 } }).sendT 3 (msgCapsSet s2.caps)
    else s.onT fun s => (s.tookMsgT m).sendB 3 (msgIdentT s)

/-- No answer after 8 attempts: IDFAIL, cause identity, and a reset request (R136). -/
def State.identFail (s : State) : State := (s.pairFail 5).requestReset 5 3

/-- IDENT_TIMEOUT (R136): IDENT is sent again, up to 8 times in all. -/
def execIdentTimeout (s : State) : Host.Outcome State Fault Refusal :=
  s.done <| s.onB fun s =>
    if s.bond.identTries = 0 ∨ s.bond.capsTries ≠ 0 ∨ s.on IMG_BOOT_STOP then s
    else if s.bond.identTries < 8 then
      ({ s with bond := { s.bond with identTries := s.bond.identTries + 1 } }).sendT 3 (msgIdentB s)
    else s.identFail

/-- CAPS_ACK_TIMEOUT (R136): CAPS_SET is sent again, up to 8 times in all; not once the exchange is done. -/
def execCapsAckTimeout (s : State) : Host.Outcome State Fault Refusal :=
  s.done <| s.onB fun s =>
    if s.bond.capsTries = 0 ∨ s.on IMG_BOOT_STOP ∨ s.rd IMG_BOOT_STEP ≠ 5 then s
    else if s.bond.capsTries < 8 then
      ({ s with bond := { s.bond with capsTries := s.bond.capsTries + 1 } }).sendT 3 (msgCapsSet s.caps)
    else s.identFail

/-- CAPS_SET in Kalvon-T (R136): returned unchanged in CAPS_ACK; the negotiated values are written. The version
is HLP-S 1.x with the common minor version, which for Kalvon-T is 1 (R134). -/
def execCapsSet (m : XMsg) (s : State) : Host.Outcome State Fault Refusal :=
  s.done <| s.onT fun s =>
    let s1 := (s.tookMsgT m).sendB 3 { hdr := 0x72, data := m.data }
    (((s1.wr KT_XPR_CAPS (bits (m.data.headD 0).toNat 0 32)).wr KT_XPR_STATUS_PAIRED 1).wr KT_XPR_STATUS_HLPS_MAJ 1).wr KT_XPR_STATUS_HLPS_MIN 1

/-! ## Interrupts, time and launch items in Kalvon-T (R117, R118, R419) -/

/-- MSI (R419): the source is raised or lowered; t_irq_o follows by KT_CTL_IMAP. -/
def execMsi (m : XMsg) (s : State) : Host.Outcome State Fault Refusal :=
  s.done <| s.onT fun s =>
    let s1 := s.tookMsgT m
    { s1 with pins := { s1.pins with irq := setBits s1.pins.irq (xf m 19 8) 1 (xf m 20 20) } }

/-- TIME (R118): the angle follower takes cycle, angle and STALE, and the KCNT at which that angle began. -/
def execTime (m : XMsg) (s : State) : Host.Outcome State Fault Refusal :=
  s.done <| s.onT fun s =>
    let s1 := s.tookMsgT m
    { s1 with xing := { s1.xing with folCycle := xf m 63 16, folAngle := xf m 79 64, folKcnt := xf m 111 80, folStale := xf m 112 112 == 1 } }

/-- KT_LNP_PEND counts the triggers held. -/
def State.countPend (s : State) : State := s.wr KT_LNP_PEND_CNT (s.xing.trigs.length + s.xing.late.length)

/-- TRIG (R118): held for its KCNT, the later message of one KCNT standing, or queued as late. -/
def execTrig (m : XMsg) (s : State) : Host.Outcome State Fault Refusal :=
  s.done <| s.onT fun s =>
    let s1 := s.tookMsgT m
    let k := xf m 47 16
    let w := xf m 127 64
    let x := if isLate k s1.tclk then { s1.xing with late := s1.xing.late ++ [(s1.tclk, w)] }
      else { s1.xing with trigs := s1.xing.trigs.filter (fun (t : HeldTrig) => t.kcnt != k) ++ [{ kcnt := k, word := w }] }
    ({ s1 with xing := x }).countPend

/-- A trigger on the launch port, with LATE = 1 if it was presented late (R286); while the port is not ready it is
discarded (R287). -/
def State.launch (s : State) (w : Nat) (late : Bool) : State :=
  let s1 := (if late then s.count KT_LNP_LATE_CNT else s).countPend
  if s1.portsReady then ({ s1 with pins := { s1.pins with lchValid := true, lchTrig := if late then setBits w 62 1 1 else w } }).count KT_LNP_TRIG_CNT
  else s1.count KT_LNP_LDROP_CNT

/-- The release of this KCLK, if it has not carried one (R118, R278): the held trigger whose KCNT it is; if there is none, the first late
one, in a KCLK after its presentation. -/
def State.releaseTrig (s : State) : State :=
  if s.xing.lastTrig = some s.tclk then s
  else
    match takeFirst (fun (t : HeldTrig) => t.kcnt == s.tclk % 2 ^ 32) s.xing.trigs with
    | (some t, rest) => ({ s with xing := { s.xing with trigs := rest, lastTrig := some s.tclk } }).launch t.word false
    | (none, _) =>
      match s.xing.late with
      | (at_, w) :: rest => if at_ < s.tclk then ({ s with xing := { s.xing with late := rest, lastTrig := some s.tclk } }).launch w true else s
      | [] => s

/-- The KCNT in which Kalvon-T releases a permit or operating point presented now: its own, or the next KCLK when
it is late (R118). Where that KCLK is the KCNT of one that is held, the later message stands (assumption 66). -/
def State.duePac (s : State) (k : Nat) : Nat := if isLate k s.tclk then (s.tclk + 1) % 2 ^ 32 else k

/-- 16 permits on the pace port's registers. -/
def State.setPermits (s : State) (p : Nat) : State :=
  (List.range 4).foldl (fun s j => s.wr (KT_LNP_PERMIT j) (bits p (32 * j) 32)) s

/-- PERMIT (R117, R118): applied at presentation with NOW = 1; otherwise held for its KCNT, the later message of
one KCNT standing. -/
def execPermit (m : XMsg) (s : State) : Host.Outcome State Fault Refusal :=
  s.done <| s.onT fun s =>
    let s1 := s.tookMsgT m
    let p := (m.data.headD 0).toNat
    if xf m 64 64 = 1 then s1.setPermits p
    else
      let k := s1.duePac (xf m 47 16)
      { s1 with xing := { s1.xing with permits := s1.xing.permits.filter (fun (e : Nat × Nat) => e.1 != k) ++ [(k, p)] } }

/-- PERMIT_RELEASE (R53, R118): the permits due in this KCLK appear together. -/
def execPermitRelease (s : State) : Host.Outcome State Fault Refusal :=
  s.done <| s.onT fun s =>
    match takeFirst (fun (e : Nat × Nat) => e.1 == s.tclk % 2 ^ 32) s.xing.permits with
    | (some e, rest) => ({ s with xing := { s.xing with permits := rest } }).setPermits e.2
    | (none, _) => s

/-- OPP (R118): held for its KCNT. -/
def execOpp (m : XMsg) (s : State) : Host.Outcome State Fault Refusal :=
  s.done <| s.onT fun s =>
    let s1 := s.tookMsgT m
    let k := s1.duePac (xf m 47 16)
    { s1 with xing := { s1.xing with opps := s1.xing.opps.filter (fun (e : Nat × Nat) => e.1 != k) ++ [(k, xf m 67 64)] } }

/-- t_pac_opp_o takes the index due in this KCLK, with the pulse of t_pac_opp_chg_o if it is a new one (R53). -/
def State.releaseOpp (s : State) : State :=
  match takeFirst (fun (e : Nat × Nat) => e.1 == s.tclk % 2 ^ 32) s.xing.opps with
  | (some e, rest) => (({ s with xing := { s.xing with opps := rest } }).wr KT_LNP_OPP_OPP e.2).oppPulse s.oppPin
  | (none, _) => s

/-- OPP_RELEASE (R53). -/
def execOppRelease (s : State) : Host.Outcome State Fault Refusal := s.done <| s.onT State.releaseOpp

/-- TRIG_RELEASE (R118), after the key epochs and operating points of the same KCLK (R41). -/
def execTrigRelease (s : State) : Host.Outcome State Fault Refusal :=
  s.done <| (s.onB State.firstOpp).onT fun s => s.releaseOpp.releaseTrig

/-- THERM_SEND_TIMER (R119): Kalvon-T sends its four readings, in units of 0.125 °C. -/
def execThermSendTimer (readings : List Int) (s : State) : Host.Outcome State Fault Refusal :=
  s.done <| s.onT fun s =>
    s.sendB 3 (mkMsg ([(0, 8, 0x54), (16, 32, s.tclk)] ++ (List.range 4).map fun i => (48 + 12 * i, 12, unsgn 12 (readings.getD i 0))))

/-- DBG_RD in Kalvon-T (R117): an array word is read and returned. The layout of a state word is a free value
(assumption 3). -/
def execDbgRd (m : XMsg) (s : State) : Host.Outcome State Fault Refusal :=
  s.done <| s.onT fun s =>
    let s1 := s.tookMsgT m
    let l := s1.line (16 * xf m 26 16 + xf m 31 28)
    let hdr := putHdr m.hdr 0 8 0x59
    if xf m 9 8 = 0 then s1.sendB 3 { hdr := hdr, data := [BitVec.ofNat 128 l.tag] }
    else if xf m 9 8 = 1 then s1.sendB 3 { hdr := hdr, data := [l.data.extractLsb' (128 * (xf m 34 32 % 4)) 128] }
    else let (v, s2) := s1.draw 128; s2.sendB 3 { hdr := hdr, data := [BitVec.ofNat 128 v] }

/-- DBG_RSP in Kalvon-B (R117): the array word read. -/
def execDbgRsp (m : XMsg) (s : State) : Host.Outcome State Fault Refusal :=
  s.done <| s.onB fun s => let s1 := s.tookMsgB m; { s1 with xing := { s1.xing with dbg := some m } }

/-! ## Memory and coherence messages in Kalvon-B -/

/-- A request of Kalvon-T taken in Kalvon-B. -/
def State.fromClient (s : State) (m : XMsg) : State := (s.tookMsgB m).homeRequest (.client (xf m 25 16) (xf m 31 28)) m

/-- RD_NC in Kalvon-B (R124, R125): to the line's home. -/
def execRdNc (m : XMsg) (s : State) : Host.Outcome State Fault Refusal := s.done <| s.onB fun s => s.fromClient m
/-- WR_LINE in Kalvon-B (R124, R125). -/
def execWrLine (m : XMsg) (s : State) : Host.Outcome State Fault Refusal := s.done <| s.onB fun s => s.fromClient m
/-- WR_PART in Kalvon-B (R124, R125). -/
def execWrPart (m : XMsg) (s : State) : Host.Outcome State Fault Refusal := s.done <| s.onB fun s => s.fromClient m
/-- ATOMIC in Kalvon-B (R124, R125). -/
def execAtomic (m : XMsg) (s : State) : Host.Outcome State Fault Refusal := s.done <| s.onB fun s => s.fromClient m
/-- RD_S in Kalvon-B (R130, R132): the line is busy until its grant is forwarded. -/
def execRdS (m : XMsg) (s : State) : Host.Outcome State Fault Refusal := s.done <| s.onB fun s => s.fromClient m
/-- RD_U in Kalvon-B (R130); refused for a remote window (R132). -/
def execRdU (m : XMsg) (s : State) : Host.Outcome State Fault Refusal := s.done <| s.onB fun s => s.fromClient m
/-- UPGRADE in Kalvon-B (R130); refused for a remote window (R132). -/
def execUpgrade (m : XMsg) (s : State) : Host.Outcome State Fault Refusal := s.done <| s.onB fun s => s.fromClient m
/-- WB in Kalvon-B (R131, R132). -/
def execWb (m : XMsg) (s : State) : Host.Outcome State Fault Refusal := s.done <| s.onB fun s => (s.tookMsgB m).dropLine m
/-- EVICT in Kalvon-B (R131). -/
def execEvict (m : XMsg) (s : State) : Host.Outcome State Fault Refusal := s.done <| s.onB fun s => (s.tookMsgB m).dropLine m
/-- SRSP in Kalvon-B (R128, R131). -/
def execSrsp (m : XMsg) (s : State) : Host.Outcome State Fault Refusal := s.done <| s.onB fun s => (s.tookMsgB m).snoopDone m
/-- SRSP_DATA in Kalvon-B (R128, R131). -/
def execSrspData (m : XMsg) (s : State) : Host.Outcome State Fault Refusal := s.done <| s.onB fun s => (s.tookMsgB m).snoopDone m

/-- HOME_RESPONSE (R126, R130): the answer of the base die on a memory pair. -/
def execHomeResponse (pair : Nat) (m : XMsg) (s : State) : Host.Outcome State Fault Refusal := s.done <| s.onB fun s => s.homeDone pair m

/-- A home snoop answered by the directory, sent across, or kept waiting (R128, R130). -/
def State.homeSnoop (s : State) (pair ty : Nat) (m0 : XMsg) : State :=
  let m := { m0 with hdr := putHdr m0.hdr 0 8 ty }
  match s.tryHomeSnoop pair m with
  | some s1 => s1
  | none => { s with xing := { s.xing with homeWait := s.xing.homeWait ++ [{ pair := pair, m := m }] } }

/-- HOME_SNP_SHR (R128). -/
def execHomeSnpShr (pair : Nat) (m : XMsg) (s : State) : Host.Outcome State Fault Refusal := s.done <| s.onB fun s => s.homeSnoop pair 0x31 m
/-- HOME_SNP_INV (R128). -/
def execHomeSnpInv (pair : Nat) (m : XMsg) (s : State) : Host.Outcome State Fault Refusal := s.done <| s.onB fun s => s.homeSnoop pair 0x30 m

/-! ## Memory and coherence messages in Kalvon-T -/

/-- RSP_DATA in Kalvon-T (R124): DATA_NC on rs. -/
def execRspData (m : XMsg) (s : State) : Host.Outcome State Fault Refusal := s.done <| s.onT fun s => (s.tookMsgT m).takeMem m
/-- RSP_ACK in Kalvon-T (R124): ACK on rs. -/
def execRspAck (m : XMsg) (s : State) : Host.Outcome State Fault Refusal := s.done <| s.onT fun s => (s.tookMsgT m).takeMem m
/-- RSP_ATOM in Kalvon-T (R124): ATOM on rs. -/
def execRspAtom (m : XMsg) (s : State) : Host.Outcome State Fault Refusal := s.done <| s.onT fun s => (s.tookMsgT m).takeMem m
/-- RSP_ERR in Kalvon-T (R133): ERR on rs with the cause. -/
def execRspErr (m : XMsg) (s : State) : Host.Outcome State Fault Refusal := s.done <| s.onT fun s => (s.tookMsgT m).takeMem m
/-- GNT_S in Kalvon-T (R129). -/
def execGntS (m : XMsg) (s : State) : Host.Outcome State Fault Refusal := s.done <| s.onT fun s => (s.tookMsgT m).takeGrant m
/-- GNT_E in Kalvon-T (R129). -/
def execGntE (m : XMsg) (s : State) : Host.Outcome State Fault Refusal := s.done <| s.onT fun s => (s.tookMsgT m).takeGrant m
/-- GNT_UPG in Kalvon-T (R129). -/
def execGntUpg (m : XMsg) (s : State) : Host.Outcome State Fault Refusal := s.done <| s.onT fun s => (s.tookMsgT m).takeGrant m
/-- WB_ACK in Kalvon-T (R129): the way is freed. -/
def execWbAck (m : XMsg) (s : State) : Host.Outcome State Fault Refusal := s.done <| s.onT fun s => (s.tookMsgT m).takeWbAck m
/-- GNT_ERR in Kalvon-T (R129): ERR on rs; the line stays I. -/
def execGntErr (m : XMsg) (s : State) : Host.Outcome State Fault Refusal := s.done <| s.onT fun s => (s.tookMsgT m).takeGntErr m
/-- SNP_INV in Kalvon-T (R129, R131). -/
def execSnpInv (m : XMsg) (s : State) : Host.Outcome State Fault Refusal := s.done <| s.onT fun s => (s.tookMsgT m).takeSnoop m
/-- SNP_SHR in Kalvon-T (R129, R131). -/
def execSnpShr (m : XMsg) (s : State) : Host.Outcome State Fault Refusal := s.done <| s.onT fun s => (s.tookMsgT m).takeSnoop m

/-! ## The client port (R123, R124, R129). The command names the operation; a reserved code in the OP field of the request is refused (R124 rule 5). -/

/-- RD_SHARED of the client. -/
def execClientRdShared (bank : Nat) (req : ClientReq) (s : State) : Host.Outcome State Fault Refusal := s.done <| s.onT fun s => s.clientReq bank 0 req
/-- RD_UNIQUE of the client. -/
def execClientRdUnique (bank : Nat) (req : ClientReq) (s : State) : Host.Outcome State Fault Refusal := s.done <| s.onT fun s => s.clientReq bank 1 req
/-- UPGRADE of the client. -/
def execClientUpgrade (bank : Nat) (req : ClientReq) (s : State) : Host.Outcome State Fault Refusal := s.done <| s.onT fun s => s.clientReq bank 2 req
/-- RD_NC of the client. -/
def execClientRdNc (bank : Nat) (req : ClientReq) (s : State) : Host.Outcome State Fault Refusal := s.done <| s.onT fun s => s.clientReq bank 3 req
/-- WR_LINE of the client. -/
def execClientWrLine (bank : Nat) (req : ClientReq) (s : State) : Host.Outcome State Fault Refusal := s.done <| s.onT fun s => s.clientReq bank 4 req
/-- WR_PART of the client. -/
def execClientWrPart (bank : Nat) (req : ClientReq) (s : State) : Host.Outcome State Fault Refusal := s.done <| s.onT fun s => s.clientReq bank 5 req
/-- ATOMIC of the client. -/
def execClientAtomic (bank : Nat) (req : ClientReq) (s : State) : Host.Outcome State Fault Refusal := s.done <| s.onT fun s => s.clientReq bank 6 req
/-- WB of the client. -/
def execClientWb (bank : Nat) (req : ClientReq) (s : State) : Host.Outcome State Fault Refusal := s.done <| s.onT fun s => s.clientReq bank 7 req
/-- EVICT of the client. -/
def execClientEvict (bank : Nat) (req : ClientReq) (s : State) : Host.Outcome State Fault Refusal := s.done <| s.onT fun s => s.clientReq bank 8 req
/-- FLUSH of the client. -/
def execClientFlush (bank : Nat) (req : ClientReq) (s : State) : Host.Outcome State Fault Refusal := s.done <| s.onT fun s => s.clientReq bank 9 req
/-- The client's answer to a snoop on sr. -/
def execClientSnoopRsp (bank sid rsp : Nat) (data : Line) (s : State) : Host.Outcome State Fault Refusal := s.done <| s.onT fun s => s.clientAnswer bank sid rsp data

/-! ## Tile streams -/

/-- The beats of one tile break no rule of R52. (What statements say of a whole tile; the command takes them one by one.) -/
def tileBeatsOk (hdr : Unit128) (beats : List TsiBeat) : Bool :=
  let len := bits hdr.toNat 44 13
  let n := beats.length
  decide (1 ≤ len) && decide (len ≤ 4096) && n == (len + 511) / 512 &&
    ((List.range n).all fun i => match beats[i]? with
      | some b => b.sop == (i == 0) && b.eop == (i + 1 == n)
      | none => false)

/-- _ready of an ingress channel: the port is ready, class S is negotiated, and no tile of the channel waits for a credit (R50, R235). -/
def State.tsiReady (s : State) (ch : Nat) : Bool :=
  s.portsReady && decide (ch < 8) && bitAt (s.rd KT_XPR_CAPS) 3 && (s.ch (chKey false ch)).queue.isEmpty

def State.setTsi (s : State) (ch : Nat) (x : TsiCh) : State :=
  { s with xing := { s.xing with tsi := Sparse.set (fun _ => TsiCh.idle) s.xing.tsi ch x } }

/-- The tile that a header and beats make, the last beat first. -/
def tsiTileOf (hdr : Unit128) (beats : List (BitVec 4096)) : Tile :=
  { hdr := hdr, data := (beats.reverse.flatMap fun d => (bytesOf 512 d.toNat).map (BitVec.ofNat 8)).take (bits hdr.toNat 44 13) }

/-- What follows from the beats of a tile so far (R52): an error of its header, too many beats, or an end in the wrong place discards it;
with its last beat it is handed to the crossing. -/
def State.tsiCheck (s : State) (ch : Nat) (hdr : Unit128) (beats : List (BitVec 4096)) (eop : Bool) : State :=
  let len := bits hdr.toNat 44 13
  let n := beats.length
  if len = 0 ∨ 4096 < len ∨ 8 < n ∨ (eop = true ∧ n ≠ (len + 511) / 512) then (s.setTsi ch .discard).raise EV_KT_CTL_TSIERR
  else if eop then (s.setTsi ch .idle).streamTile false ch (tsiTileOf hdr beats)
  else s.setTsi ch (.tile hdr beats)

/-- One beat on an ingress channel, with the header that stands beside it (R52). A beat with _sop = 1 inside a tile ends that one in error
and starts the next. A beat is not transferred while _ready is 0. -/
def State.tsiBeat (s : State) (ch : Nat) (hdr : Unit128) (b : TsiBeat) : State :=
  if !s.tsiReady ch then s
  else
    match Sparse.get (fun _ => TsiCh.idle) s.xing.tsi ch, b.sop with
    | .tile _ _, true => (s.raise EV_KT_CTL_TSIERR).tsiCheck ch hdr [b.data] b.eop
    | .tile h ds, false => s.tsiCheck ch h (b.data :: ds) b.eop
    | _, true => s.tsiCheck ch hdr [b.data] b.eop
    | .idle, false => (s.setTsi ch .discard).raise EV_KT_CTL_TSIERR
    | .discard, false => s

/-- TSI_TILE (R52): beats on an ingress channel, one after the other; `hdr` stands beside the first. A tile without error is handed to the
crossing when its last beat has been transferred; an erring one is discarded and counted. -/
def execTsiTile (ch : Nat) (hdr : Unit128) (beats : List TsiBeat) (s : State) : Host.Outcome State Fault Refusal :=
  s.done <| s.onT fun s =>
    match beats with
    | [] => s
    | b :: bs => bs.foldl (fun s c => s.tsiBeat ch c.hdr c) (s.tsiBeat ch hdr b)

/-- STREAM_FRAME (R120, R121): a class S frame in the receiving half. -/
def execStreamFrame (atB : Bool) (payload : BitVec 1024) (s : State) : Host.Outcome State Fault Refusal :=
  s.done <|
    if atB then s.onB fun s => ({ s with bond := { s.bond with strB := eraseOne payload s.bond.strB } }).takeStream false payload.toNat
    else s.onT fun s => ({ s with bond := { s.bond with strT := eraseOne payload s.bond.strT } }).takeStream true payload.toNat

end Sys2Proof.Machine
end

