-- ==== Sys2Proof/Machine/Delivery.lean ====
section
/-!
DEFINITION. Tile delivery (chapter 08 of spec/): source flows, retention blocks and requests, the delivery log,
broken flows, and the response cache; and what a fence does to flows (R215, R241).
-/
namespace Sys2Proof.Machine

/-! ## Retention (R232 to R236) -/

/-- A free RID on the retention channels: the next one not outstanding. -/
def State.nextRid (s : State) : Nat :=
  ((List.range 4096).map fun i => (s.dlv.rid + i) % 4096).find? (fun r => !(s.dlv.ret.any fun q => q.rid == r)) |>.getD s.dlv.rid

/-- _hdr of RWRITE and RREAD (R234). -/
def retHdr (q : RetReq) : Unit128 :=
  BitVec.ofNat 128 (pack [(0, 4, if q.write then 1 else 2), (4, 13, q.bytes), (20, 12, q.rid), (32, 46, q.addr / 64)])

/-- The channel pair of a request or of a TDELIV: its RID or FLOW counted round the retention pairs in ascending order
(assumption 75). -/
def retPair (n : Nat) : Nat := retPairList.getD (n % retPairList.length) 0

/-- A request to the base die on a retention channel (R234); with all 4,096 RIDs outstanding it waits for one. -/
def State.retIssue (s : State) (use : RetUse) (write : Bool) (addr bytes : Nat) (data : List Byte) : State :=
  if 4096 ≤ s.dlv.ret.length then
    { s with dlv := { s.dlv with retWait := s.dlv.retWait ++ [{ rid := 0, use := use, write := write, addr := addr, bytes := bytes, data := data }] } }
  else
    let r := s.nextRid
    let q : RetReq := { rid := r, use := use, write := write, addr := addr, bytes := bytes, data := data }
    { s with dlv := { s.dlv with ret := s.dlv.ret ++ [q], rid := (r + 1) % 4096, out := s.dlv.out ++ [{ chan := retPair r, hdr := retHdr q, data := data, tile := none }] } }

/-- Transfers taken off the retention channels; a channel whose first transfer goes starts its next one from its first beat. -/
def DlvSt.dropOut (d : DlvSt) (p : RetOut → Bool) : DlvSt :=
  let out := d.out.filter fun o => !p o
  { d with out := out, outAt := d.outAt.filter fun (e : Nat × Nat) => d.out.find? (fun o => o.chan == e.1) == out.find? fun o => o.chan == e.1 }

/-- The requests that have no answer yet. -/
def State.retOpen (s : State) : List RetReq := s.dlv.ret ++ s.dlv.retWait

/-- The region's base address. -/
def State.retBase (s : State) : Nat := s.rd DLV_RBASE_LO_BASE <<< 16 + s.rd DLV_RBASE_HI_BASE <<< 32

/-- The region's size in bytes (R251). -/
def State.retSize (s : State) : Nat := min 256 (max 16 (s.rd DLV_RSIZE_SIZE)) * 2 ^ 20

/-- The block count (R232). -/
def State.blockCount (s : State) : Nat := (s.retSize - 4096) / 4160

def State.blockAddr (s : State) (b : Nat) : Nat := s.retBase + 4096 + 4160 * b

def nbytes (n x : Nat) : List Byte := (bytesOf n x).map (BitVec.ofNat 8)

/-- The descriptor of a block (R233). -/
def State.descriptor (s : State) (t : SrcTile) : List Byte :=
  nbytes 64 (pack [(0, 8, 0xA5), (16, 16, t.len), (32, 32, t.tseq), (64, 16, t.flow), (80, 24, t.dst), (104, 8, t.part), (112, 8, t.use),
    (128, 16, t.usearg), (144, 48, t.user), (192, 64, t.tchk), (256, 16, s.rd DLV_RINC_FINC)])

/-- What a block of retention holds, read back (R233): STATE, GEN and the tile. -/
def spellBlock (bs : List Byte) : Nat × Nat × SrcTile :=
  let d := ofBytes ((bs.take 64).map (·.toNat))
  (bits d 0 8, bits d 256 16,
   { dst := bits d 80 24, flow := bits d 64 12, part := bits d 104 8, len := bits d 16 16, use := bits d 112 8, usearg := bits d 128 16,
     user := bits d 144 48, data := (bs.drop 64).take (bits d 16 16), tseq := bits d 32 32, tchk := bits d 192 64 })

/-- The tile check (R222). -/
def tileCheck (src : Nat) (t : SrcTile) : Nat :=
  crc64Bytes (bytesOf 3 src ++ bytesOf 3 t.dst ++ bytesOf 2 (t.flow % 4096) ++ bytesOf 1 t.part ++ bytesOf 4 t.tseq ++ bytesOf 2 (t.len % 8192) ++
    bytesOf 1 t.use ++ bytesOf 2 t.usearg ++ bytesOf 6 t.user ++ t.data.map (·.toNat))

def State.block (s : State) (b : Nat) : Option Block := (s.dlv.blocks.find? fun (e : Nat × Block) => e.1 == b).map (·.2)

def State.putBlock (s : State) (b : Nat) (x : Block) : State :=
  { s with dlv := { s.dlv with blocks := Sparse.put b x (Sparse.drop b s.dlv.blocks) } }

/-- KB_DLV_RFREE counts the free blocks; one whose descriptor is not read yet is not known to be free (R246 step 2). -/
def State.countFree (s : State) : State := s.wr DLV_RFREE_FREE (s.dlv.scan - s.dlv.blocks.length)

def State.dropBlock (s : State) (b : Nat) : State :=
  ({ s with dlv := { s.dlv with blocks := Sparse.drop b s.dlv.blocks } }).countFree

/-- A block is freed by a 64-byte write with STATE = 0x00 (R233), which follows the write of its tile if that is not
complete. -/
def State.freeBlock (s : State) (b : Nat) : State :=
  match s.block b with
  | some x =>
    if x.st = .freeing then s
    else if x.st = .writing then s.putBlock b { x with st := .freeing, tile := none }
    else (s.putBlock b { x with st := .freeing, tile := none }).retIssue (.free b) true (s.blockAddr b) 64 (List.replicate 64 0)
  | none => s

/-- The blocks of a flow that hold a tile, by TSEQ. -/
def State.flowBlocks (s : State) (f : Nat) : List (Nat × Block) := s.dlv.blocks.filter fun (e : Nat × Block) => e.2.flow == f && e.2.st != .freeing

/-- The block of a flow's tile. -/
def State.blockOf (s : State) (f tseq : Nat) : Option Nat := ((s.flowBlocks f).find? fun e => e.2.tseq == tseq).map (·.1)

/-! ## Messages (R229 to R231) -/

/-- A delivery message other than a tile, and what became of it. -/
def State.postDlv (s : State) (dst flow part ty seq cause flags : Nat) : State × Sent :=
  let m : RMsg := { vc := 5, dst := dst, src := 0, flow := flow, part := part, hops := 0, mtype := ty, sinc := 0,
                    body := [BitVec.ofNat 128 (pack [(0, 32, seq), (32, 8, cause), (40, 8, flags)])] }
  match s.originate m with
  | (s1, r) => (s1.trace 3 0, r)

/-- A delivery message of a flow's destination; a refusal by the allow-list is a lapse (R212). -/
def State.sendDlv (s : State) (dst flow part ty seq cause flags : Nat) : State :=
  match s.postDlv dst flow part ty seq cause flags with
  | (s1, .denied) => s1.lapse { part := part, rank := 2, cause := 0x05, flags := 4, fna := dst, b8 := flow, w12 := 0, inst := (s.cycle, s.angle) }
  | (s1, _) => s1

def dmSeq (m : RMsg) : Nat := bits (m.body.headD 0).toNat 0 32
def dmCause (m : RMsg) : Nat := bits (m.body.headD 0).toNat 32 8
def dmExact (m : RMsg) : Bool := bitAt (m.body.headD 0).toNat 40
def dmUnc (m : RMsg) : Bool := bitAt (m.body.headD 0).toNat 41

/-- Bytes in slots of 16, padded with 0. -/
def toSlots : Nat → List Byte → List Unit128
  | 0, _ => []
  | n + 1, bs => BitVec.ofNat 128 (ofBytes ((bs.take 16).map (·.toNat))) :: toSlots n (bs.drop 16)

/-- A TILE message (R230). -/
def tileMsg (t : SrcTile) : RMsg :=
  { vc := if t.use = 2 then 4 else 3, dst := t.dst, src := 0, flow := t.flow, part := t.part, hops := 0, mtype := 1, sinc := 0,
    body := BitVec.ofNat 128 (pack [(0, 32, t.tseq), (32, 16, t.len), (48, 3, t.use), (64, 64, t.tchk)]) ::
            BitVec.ofNat 128 (pack [(0, 16, t.usearg), (16, 48, t.user)]) :: toSlots ((t.len + 15) / 16) t.data }

/-- The tile that a TILE message carries. -/
def spellTileMsg (m : RMsg) : SrcTile :=
  let a := (m.body.getD 0 0).toNat
  let b := (m.body.getD 1 0).toNat
  let len := bits a 32 16
  { dst := m.dst, flow := m.flow, part := m.part, len := len, use := bits a 48 3, usearg := bits b 0 16, user := bits b 16 48,
    data := (nbytes (16 * (m.body.length - 2)) (packUnits (m.body.drop 2))).take len, tseq := bits a 0 32, tchk := bits a 64 64 }

/-- The tile of a message passes its check (R222, R237). -/
def tileGood (m : RMsg) : Bool :=
  let t := spellTileMsg m
  decide (t.data.length = t.len) && tileCheck m.src t == t.tchk

/-! ## Source flows (R225 to R228, R238 to R241) -/

def State.sf (s : State) (f : Nat) : SrcFlow := Sparse.get (fun _ => SrcFlow.reset) s.dlv.src f

def State.setSf (s : State) (f : Nat) (x : SrcFlow) : State := { s with dlv := { s.dlv with src := Sparse.set (fun _ => SrcFlow.reset) s.dlv.src f x } }

/-- The state of a source flow: 0 closed, 1 open, 2 closing, 3 broken. -/
def State.fst (s : State) (f : Nat) : Nat := s.rd (DLV_SFLOW_STATE f)

/-- A new state of a source flow; SFLOWS counts the flows not closed. -/
def State.setFst (s : State) (f st : Nat) : State :=
  let s1 := s.wr (DLV_SFLOW_STATE f) st
  if s.fst f = 0 ∧ st ≠ 0 then s1.wr DLV_STATUS_SFLOWS (s1.rd DLV_STATUS_SFLOWS + 1)
  else if s.fst f ≠ 0 ∧ st = 0 then s1.wr DLV_STATUS_SFLOWS (s1.rd DLV_STATUS_SFLOWS - 1)
  else s1

/-- A lapse of a flow (R241, R248). -/
def State.flowLapse (s : State) (part fna flow cause flags bound : Nat) : State :=
  s.lapse { part := part, rank := 2, cause := cause, flags := flags, fna := fna, b8 := flow, w12 := bound, inst := (s.cycle, s.angle) }

/-- Steps 1 and 2 of the rebuild are under way (R246). -/
def State.rebuilding (s : State) : Bool :=
  (s.retOpen ++ s.dlv.redo).any fun q => match q.use with
    | .header => true
    | .format => true
    | .descriptor _ => true
    | _ => false

/-- The source takes tiles again once no flow waits for its SYNC_RSP. -/
def State.syncDone (s : State) : State :=
  if s.rd DLV_STATUS_RET = 1 ∧ !s.rebuilding ∧ !(s.dlv.src.any fun (e : Nat × SrcFlow) => e.2.syncing) then s.wr DLV_STATUS_RET 2 else s

/-- BROKEN of a source flow (R240); a refusal by the allow-list is a lapse of the flow, which is broken already (R212). -/
def State.sendBroken (s : State) (f cause bound : Nat) : State :=
  match s.postDlv (s.rd (DLV_SFLOW_DST f)) f (s.rd (DLV_SFLOW_PART f)) 0x06 bound cause 0 with
  | (s1, .denied) => s1.flowLapse (s.rd (DLV_SFLOW_PART f)) (s.rd (DLV_SFLOW_DST f)) f 0x05 0 bound
  | (s1, _) => s1

/-- A source flow is broken at a boundary (R240, R241); with `send`, BROKEN goes to the destination. -/
def State.breakFlow (s : State) (f cause bound : Nat) (exact unc send : Bool) : State :=
  if s.fst f = 1 ∨ s.fst f = 2 then
    let s1 := (((s.setFst f 3).wr (DLV_SBOUND f) bound).wr (DLV_SCMD_EXACT f) (b2n exact)).setSf f { SrcFlow.reset with cause := cause, awaitBrack := send }
    let s2 := (s1.flowBlocks f).foldl (fun s e => s.freeBlock e.1) s1
    let s3 := (s2.raise EV_DLV_BROKEN).flowLapse (s.rd (DLV_SFLOW_PART f)) (s.rd (DLV_SFLOW_DST f)) f cause (b2n exact + 2 * b2n unc) bound
    (if send then s3.sendBroken f cause bound else s3).syncDone
  else s

/-- The lowest live TSEQ of a flow, or 1 (R246). -/
def State.lowestLive (s : State) (f : Nat) : Nat :=
  match (s.flowBlocks f).map (·.2.tseq) with
  | [] => 1
  | t :: ts => ts.foldl min t

/-- A flow that ends broken in the rebuild (R246): SNEXT reads the boundary. -/
def State.breakSync (s : State) (f cause bound : Nat) : State := (s.breakFlow f cause bound false false true).wr (DLV_SNEXT f) bound

/-- The source's own declaration: boundary ACKED + 1, EXACT = 0 (R240); before ACKED is known again the boundary is that
of R246, and 1 while the blocks that are live are not all known (assumption 48). -/
def State.breakOwn (s : State) (f cause : Nat) : State :=
  if (s.sf f).syncing then s.breakSync f cause (s.lowestLive f)
  else if !s.dlv.synced then s.breakSync f cause 1
  else s.breakFlow f cause (s.rd (DLV_SACKED f) + 1) false false true

/-- A tile accepted, or read back for a resend, goes to the route stage; a refusal by the source's allow-list breaks
the flow (R212, R235, R241). -/
def State.sendTile (s : State) (t : SrcTile) : State :=
  match s.originate (tileMsg t) with
  | (s1, .denied) => s1.breakOwn t.flow 0x05
  | (s1, _) => s1.trace 3 0

/-- SYNC or CLOSE of a source flow; a refusal by the allow-list breaks the flow (R212, R241). -/
def State.sendSrc (s : State) (f ty seq : Nat) : State :=
  match s.postDlv (s.rd (DLV_SFLOW_DST f)) f (s.rd (DLV_SFLOW_PART f)) ty seq 0 0 with
  | (s1, .denied) => s1.breakOwn f 0x05
  | (s1, _) => s1

/-- CLOSE once every tile of a closing flow is acknowledged (R228). -/
def State.closeIfDone (s : State) (f : Nat) : State :=
  if s.fst f = 2 ∧ !(s.sf f).closeSent ∧ s.rd (DLV_SACKED f) + 1 = s.rd (DLV_SNEXT f) ∧ !(s.sf f).syncing then
    (s.setSf f { s.sf f with closeSent := true }).sendSrc f 0x08 (s.rd (DLV_SNEXT f) - 1)
  else s

/-- The next retained tile of a resend is read (R239). -/
def State.readNext (s : State) (f : Nat) : State :=
  match (s.sf f).resend with
  | q :: _ => (match s.blockOf f q with
    | some b => s.retIssue (.resend f b) false (s.blockAddr b) 4160 []
    | none => s)
  | [] => s

/-- A read of a resend has ended for a tile that is not to be sent any more: the resend goes on with its next tile, if no read
of that one is outstanding (R239). -/
def State.resendOn (s : State) (f : Nat) : State :=
  match (s.sf f).resend with
  | q :: _ => (match s.blockOf f q with
    | some b => if s.retOpen.any fun r => r.use == .resend f b then s else s.readNext f
    | none => s)
  | [] => s

/-- A resend of a flow's accepted tiles from a TSEQ, in order; it abandons an earlier one (R239). -/
def State.startResend (s : State) (f from_ : Nat) : State :=
  let next := s.rd (DLV_SNEXT f)
  let ts := (List.range (next - from_)).map (from_ + ·) |>.filter fun q => match s.blockOf f q with
    | some b => (match s.block b with
      | some x => x.st == .accepted
      | none => false)
    | none => false
  if ts.isEmpty then s else ((s.setSf f { s.sf f with resend := ts }).raise EV_DLV_RESEND).readNext f

/-- The source flow that a message from a destination is about (R231). -/
def State.flowFor (s : State) (m : RMsg) : Option Nat :=
  if s.fst m.flow ≠ 0 ∧ s.rd (DLV_SFLOW_DST m.flow) = m.src then some m.flow else none

/-- ACKED advances to LAST: the blocks up to it are freed (R238). -/
def State.ackFlow (s : State) (f last : Nat) : State :=
  let s1 := ((s.flowBlocks f).filter fun e => decide (e.2.tseq ≤ last)).foldl (fun s e => s.freeBlock e.1) s
  let x := s1.sf f
  ((s1.wr (DLV_SACKED f) last).setSf f { x with expiries := 0, resend := x.resend.filter (last < ·) }).closeIfDone f

/-- A boundary made exact by the destination (R240, R241): recorded once, with a second record. SNEXT goes on reading
the boundary of a flow broken in the rebuild (R246). -/
def State.takeBrack (s : State) (f bound : Nat) (exact unc : Bool) : State :=
  if s.fst f = 3 then
    let x := s.sf f
    let s1 := s.setSf f { x with awaitBrack := false }
    if exact && !s.on (DLV_SCMD_EXACT f) then
      (((if s.rd (DLV_SNEXT f) = s.rd (DLV_SBOUND f) then s1.wr (DLV_SNEXT f) bound else s1).wr (DLV_SBOUND f) bound).wr (DLV_SCMD_EXACT f) 1).flowLapse (s.rd (DLV_SFLOW_PART f)) (s.rd (DLV_SFLOW_DST f)) f x.cause (1 + 2 * b2n unc) bound
    else s1
  else
    let s1 := s.breakFlow f 0x08 bound exact unc false
    if (s.sf f).syncing then s1.wr (DLV_SNEXT f) bound else s1

/-- A source flow becomes closed; what it still retained is freed (R228). -/
def State.closeFlow (s : State) (f : Nat) : State :=
  let s1 := (s.flowBlocks f).foldl (fun s e => s.freeBlock e.1) s
  ((s1.setFst f 0).setSf f SrcFlow.reset).syncDone

/-! ## The delivery log (R227, R237, R240, R472) -/

/-- The log entries in use. -/
def State.logEntries (s : State) : List Nat :=
  (s.regs.filterMap fun (e : Nat × Word) =>
    if 0x10100000 ≤ e.1 ∧ e.1 < 0x10120000 ∧ (e.1 % 0x20 = 4 ∨ e.1 % 0x20 = 8) ∧ e.2 ≠ 0 then some ((e.1 - 0x10100000) / 0x20) else none).eraseDups

/-- The entry of a flow. -/
def State.entryOf (s : State) (src flow : Nat) : Option Nat :=
  s.logEntries.find? fun e => s.rd (DLV_DLOG_A_SRC e) == src && s.rd (DLV_DLOG_A_FLOW e) == flow

/-- The lowest free entry. -/
def State.freeEntry (s : State) : Option Nat := let used := s.logEntries; findUp (fun e => !used.contains e) 4096 0

def State.df (s : State) (e : Nat) : DstFlow := Sparse.get (fun _ => DstFlow.reset) s.dlv.dst e

def State.setDf (s : State) (e : Nat) (x : DstFlow) : State := { s with dlv := { s.dlv with dst := Sparse.set (fun _ => DstFlow.reset) s.dlv.dst e x } }

/-- DFLOWS counts the entries in use. -/
def State.countLog (s : State) : State := s.wr DLV_STATUS_DFLOWS s.logEntries.length

/-- An entry allocated with LAST = 0. -/
def State.allocEntry (s : State) (e src flow part : Nat) : State :=
  (((s.wr (DLV_DLOG_A_SRC e) src).wr (DLV_DLOG_A_FLOW e) flow).setDf e { DstFlow.reset with part := some part })

/-- A tile of a flow whose TDELIV has not ended is not delivered: it goes back to the tile destination (R240). -/
def State.withdraw (s : State) (e : Nat) : State :=
  let mine := fun (m : RMsg) => m.src == s.rd (DLV_DLOG_A_SRC e) && m.flow == s.rd (DLV_DLOG_A_FLOW e)
  { s with dlv := { s.dlv.dropOut (fun o => o.tile.any mine) with tdeliv := s.dlv.tdeliv.filter fun m => !mine m } }

def State.freeLog (s : State) (e : Nat) : State :=
  let s := s.withdraw e
  (((((s.wr (DLV_DLOG_A_SRC e) 0).wr (DLV_DLOG_A_FLOW e) 0).wr (DLV_DLOG_B_BROKEN e) 0).wr (DLV_DLOG_B_LAST e) 0).setDf e DstFlow.reset).countLog

/-- A message of a flow has arrived: its PART is kept, and lapses owed are written with it (R472). -/
def State.learnPart (s : State) (e part : Nat) : State :=
  let x := s.df e
  let src := s.rd (DLV_DLOG_A_SRC e)
  x.owed.foldl (fun s o => s.flowLapse part src (s.rd (DLV_DLOG_A_FLOW e)) o.1 o.2.2 o.2.1) (s.setDf e { x with part := some part, owed := [] })

/-- The destination breaks a flow at LAST + 1 (R240, R241, R472). With `send`, BROKEN goes to the source if the PART
is known. -/
def State.breakDst (s : State) (e cause : Nat) (mark send : Bool) : State :=
  if s.on (DLV_DLOG_B_BROKEN e) then s
  else
    let s := s.withdraw e
    let x := s.df e
    let bound := s.rd (DLV_DLOG_B_LAST e) + 1
    let flags := 1 + 2 * b2n mark + 4
    let src := s.rd (DLV_DLOG_A_SRC e)
    let flow := s.rd (DLV_DLOG_A_FLOW e)
    let s1 := ((s.wr (DLV_DLOG_B_BROKEN e) 1).setDf e { x with mark := x.mark || mark }).raise EV_DLV_BROKEN
    match x.part with
    | some p =>
      let s2 := s1.flowLapse p src flow cause flags bound
      if send then s2.sendDlv src flow p 0x06 bound cause 1 else s2
    | none => s1.setDf e { s1.df e with owed := x.owed ++ [(cause, bound, flags)] }

/-- BRACK for an entry (R240, R472). -/
def State.sendBrack (s : State) (e : Nat) (m : RMsg) : State :=
  s.sendDlv m.src m.flow m.part 0x07 (s.rd (DLV_DLOG_B_LAST e) + 1) 0 (1 + 2 * b2n (s.df e).mark)

/-- TACK with the flow's LAST (R238). -/
def State.sendTack (s : State) (e part : Nat) : State :=
  (s.setDf e { s.df e with sinceTack := 0 }).sendDlv (s.rd (DLV_DLOG_A_SRC e)) (s.rd (DLV_DLOG_A_FLOW e)) part 0x02 (s.rd (DLV_DLOG_B_LAST e)) 0 0

/-- The handover of a tile completes: the log is written in the same KCLK, and 16 deliveries make a TACK (R223,
R237, R238). -/
def State.deliver (s : State) (m : RMsg) : State :=
  let (s0, e) := match s.entryOf m.src m.flow with
    | some e => (s, some e)
    | none => (match s.freeEntry with
      | some e => (s.allocEntry e m.src m.flow m.part, some e)
      | none => (s, none))
  match e with
  | none => s
  | some e =>
    let s1 := (((s0.wr (DLV_DLOG_B_LAST e) (dmSeq m)).countLog).takeLocal m).trace 3 0
    let x := s1.df e
    let s2 := s1.setDf e { x with part := some m.part, sinceTack := x.sinceTack + 1 }
    if 16 ≤ x.sinceTack + 1 then s2.sendTack e m.part else s2

/-- What R237 says of a tile. -/
inductive TileCase where
  /-- check failed at use: withhold -/
  | withhold
  /-- log full -/
  | full
  /-- TSEQ above 1 of an unknown flow -/
  | unknown
  | broken (e : Nat)
  | dup (e : Nat)
  | gap (e : Nat)
  /-- the tile is next: hand over -/
  | next
  deriving DecidableEq, Repr

def State.tileCase (s : State) (m : RMsg) : TileCase :=
  let q := dmSeq m
  match s.entryOf m.src m.flow with
  | none =>
    if q ≠ 1 then .unknown
    else if !tileGood m then .withhold
    else if s.freeEntry.isNone then .full
    else .next
  | some e =>
    let last := s.rd (DLV_DLOG_B_LAST e)
    if s.on (DLV_DLOG_B_BROKEN e) then .broken e
    else if q ≤ last then .dup e
    else if last + 1 < q then .gap e
    else if tileGood m then .next
    else .withhold

/-- TNAK (R231). -/
def State.sendTnak (s : State) (m : RMsg) (seq cause : Nat) : State := s.sendDlv m.src m.flow m.part 0x03 seq cause 0

/-- The egress header of a tile (R221). -/
def egressHdr (m : RMsg) : Unit128 :=
  let t := spellTileMsg m
  BitVec.ofNat 128 (pack [(0, 24, m.src), (24, 12, t.flow), (36, 8, t.part), (44, 13, t.len), (64, 16, t.tseq), (80, 48, t.user)])

/-- _hdr of TDELIV (R234). -/
def tdelivHdr (m : RMsg) : Unit128 :=
  let t := spellTileMsg m
  BitVec.ofNat 128 (pack [(0, 4, 3), (4, 13, t.len), (20, 24, m.src), (44, 12, t.flow), (56, 8, t.part), (64, 16, t.usearg), (80, 48, t.user)])

/-- TDELIV of a tile starts (R223, R234): its check has passed, so a flow that the log does not know has its entry from now on
(R227, R237). -/
def State.startTdeliv (s : State) (m : RMsg) : State :=
  if s.dlv.tdeliv.any fun x => x.src == m.src && x.flow == m.flow then s
  else
    let s1 := match s.entryOf m.src m.flow, s.freeEntry with
      | none, some e => (s.allocEntry e m.src m.flow m.part).countLog
      | _, _ => s
    { s1 with dlv := { s1.dlv with tdeliv := s1.dlv.tdeliv ++ [m],
                                   out := s1.dlv.out ++ [{ chan := retPair m.flow, hdr := tdelivHdr m, data := (spellTileMsg m).data, tile := some m }] } }

/-- A stream channel takes a tile into the crossing at once: a credit is free and nothing waits before it. -/
def State.streamFree (s : State) (ch : Nat) : Bool := (s.ch (chKey true ch)).credits != 0 && (s.ch (chKey true ch)).queue.isEmpty && !s.held

/-- A TILE at the tile destination (R223, R237). A tile that waits for its point of use stays where it is; one for
Blend is offered there (R311). -/
def State.takeTile (s : State) (m : RMsg) : State :=
  let t := spellTileMsg m
  match s.tileCase m with
  | .withhold => (((s.takeLocal m).raise EV_DLV_CHKFAIL).sendTnak m t.tseq 2)
  | .full => ((s.takeLocal m).sendTnak m t.tseq 3).raise EV_DLV_LOGFULL
  | .unknown => (s.takeLocal m).sendTnak m t.tseq 4
  | .broken e => (s.takeLocal m).sendBrack e m
  | .dup e => ((s.takeLocal m).raise EV_DLV_DUP).sendTack e m.part
  | .gap e =>
    let x := s.df e
    let again := match x.gapAt with
      | some k => decide (k + 3125 ≤ s.kclk)
      | none => true
    let s1 := s.takeLocal m
    if again then (s1.setDf e { x with gapAt := some s.kclk }).sendTnak m (s.rd (DLV_DLOG_B_LAST e) + 1) 1 else s1
  | .next =>
    if t.use = 0 then
      (if s.streamFree (t.usearg % 8) then (s.streamTile true (t.usearg % 8) { hdr := egressHdr m, data := t.data }).deliver m else s)
    else if t.use = 1 then
      s.startTdeliv m
    else if t.use = 2 then
      (if s.blend.offered.contains (.net m) then s else { s with blend := { s.blend with offered := s.blend.offered ++ [.net m] } })
    else s.takeLocal m

/-! ## Fences and flows (R215, R241) -/

/-- A fence stored for a device breaks the flows to it and from it, at once. -/
def State.fenceFlows (s : State) (fna : Nat) : State :=
  let fs := (List.range 4096).filter fun f => (s.fst f == 1 || s.fst f == 2) && s.rd (DLV_SFLOW_DST f) == fna
  let s1 := fs.foldl (fun s f => s.breakOwn f 0x01) s
  (s1.logEntries.filter fun e => s1.rd (DLV_DLOG_A_SRC e) == fna).foldl (fun s e => s.breakDst e 0x01 false true) s1

/-- A fence stored in an entry. -/
def State.storeFence (s : State) (e fna inc gen : Nat) : State :=
  let s1 := (((s.wr (RTE_FENCE_A_VALID e) 1).wr (RTE_FENCE_A_FNA e) fna).wr (RTE_FENCE_B_INC e) inc).wr (RTE_FENCE_B_GEN e) gen
  (((s1.countFences).raise EV_RTE_FENCEUP).selfFence fna inc).fenceFlows fna

/-- FENCE and UNFENCE (R215): the table of the rule; a relayed message goes to every link but the one it came from. -/
def State.fenceCmd (s : State) (from_ : Option Nat) (un : Bool) (fna inc gen : Nat) : State :=
  let relay := fun (s : State) => s.floodByp from_ (fenceMsg un fna inc gen)
  match s.fenceOf fna with
  | some e =>
    let d := (gen + 65536 - s.rd (RTE_FENCE_B_GEN e)) % 65536
    if 1 ≤ d ∧ d ≤ 32767 then
      if un then
        relay (((((((s.wr (RTE_FENCE_A_VALID e) 0).wr (RTE_FENCE_A_FNA e) 0).wr (RTE_FENCE_B_INC e) 0).wr (RTE_FENCE_B_GEN e) 0).countFences).wr RTE_STAT_HOLDALL 0).releaseOwn)
      else relay (s.storeFence e fna inc gen)
    else s
  | none =>
    if un then s
    else
      match findUp (fun e => !s.on (RTE_FENCE_A_VALID e)) 512 0 with
      | some e => relay (s.storeFence e fna inc gen)
      | none =>
        let s1 := (s.raise EV_RTE_FENCEFULL).wr RTE_STAT_HOLDALL 1
        relay (if s.on RTE_STAT_HOLDALL then s1 else s.route.pool.foldl (fun s p => s.stallLapse p.m) s1)

/-! ## Requests of other devices (R242 to R244) -/

/-- The request that an MREQ carries: TAG, RETRY, message. -/
def mreqTag (m : RMsg) : Nat := bits (m.body.headD 0).toNat 0 16
def mreqRetry (m : RMsg) : Bool := bitAt (m.body.headD 0).toNat 16
def mreqMsg (m : RMsg) : XMsg := { hdr := m.body.getD 1 0, data := m.body.drop 2 }

/-- The responder's treatment of an MREQ (R244); other types than those of R242 are discarded. -/
def State.takeMreq (s : State) (m : RMsg) : State :=
  let x := mreqMsg m
  let ty := msgTy x
  let who : Asker := .fabric m.src m.part (mreqTag m) m.sinc
  if ty = 0x10 ∨ ty = 0x20 ∨ ty = 0x24 then (s.takeLocal m).homeRequest who x
  else if ty = 0x11 ∨ ty = 0x12 ∨ ty = 0x13 then
    match s.dlv.cache.find? fun e => e.src = m.src && e.sinc = m.sinc && e.tag = mreqTag m with
    | some e => (match e.rsp with
      | some r => (s.takeLocal m).mrsp m.src m.part (mreqTag m) m.sinc r
      | none => s.takeLocal m)
    | none =>
      if mreqRetry m && (!s.on IMG_BOOT_READY || decide (s.kclk ≤ s.boot.readyAt + s.rhold)) then
        (s.takeLocal m).mrsp m.src m.part (mreqTag m) m.sinc (mkAns 0x1B (msgLaddr x % 32) 0 0x03 [])
      else if 1024 ≤ s.dlv.cache.length then
        (if s.dlv.held.contains m then s else ({ s with dlv := { s.dlv with held := s.dlv.held ++ [m] } }).raise EV_DLV_RCFULL)
      else
        let e : RespEntry := { src := m.src, sinc := m.sinc, tag := mreqTag m, part := m.part, rsp := none }
        let s1 := (s.takeLocal m)
        (({ s1 with dlv := { s1.dlv with cache := s1.dlv.cache ++ [e] } }).countRsp).homeRequest who x
  else s.takeLocal m

/-- An MRSP at the requester (R243); a late one is discarded. -/
def State.takeMrsp (s : State) (m : RMsg) : State :=
  let s1 := s.takeLocal m
  match takeFirst (fun (h : HomeReq) => h.remote == some m.src && h.rid == mreqTag m) s1.xing.homes with
  | (some h, rest) => ({ s1 with xing := { s1.xing with homes := rest } }).homeAnswer h (mreqMsg m)
  | (none, _) => s1

/-- RTO without an answer (R243). -/
def State.requestTimeout (s : State) (tag : Nat) : State :=
  match s.xing.homes.find? fun h => h.remote.isSome && h.rid == tag with
  | none => s
  | some h =>
    let fna := h.remote.getD 0
    if h.tries < s.rd DLV_RCTL_RRMAX then
      let hs := s.xing.homes.map fun x => if x = h then { x with tries := x.tries + 1 } else x
      let again : HomeReq := { h with tries := h.tries + 1 }
      (match ({ s with xing := { s.xing with homes := hs } }).mreq fna (xf h.m 85 78) tag true h.m with
       | (s1, .denied) => s1.remoteFail again 0x02
       | (s1, .noRoute) => s1.remoteFail again 0x03
       | (s1, .ok) => s1)
    else (((s.raise EV_DLV_REQFAIL).flowLapse (xf h.m 85 78) fna 0 0x09 0 0).remoteFail h 0x03)

/-! ## After a reset (R246, R247) -/

/-- SYNC for each open or closing flow; with none, the source is ready. -/
def State.sendSyncs (s : State) : State :=
  let fs := (List.range 4096).filter fun f => s.fst f == 1 || s.fst f == 2
  let s0 : State := { s with dlv := { s.dlv with synced := true } }
  if fs.isEmpty then s0.wr DLV_STATUS_RET 2
  else
    let s1 := fs.foldl (fun s f => s.setSf f { s.sf f with syncing := true }) s0
    fs.foldl (fun s f => s.sendSrc f 0x04 0) s1

/-- The run of live tiles without a gap from a TSEQ; `n` bounds its length. -/
def State.runFrom (s : State) (f : Nat) : Nat → Nat → Nat
  | 0, q => q
  | n + 1, q => if (s.blockOf f q).isSome then State.runFrom s f n (q + 1) else q

/-- SYNC_RSP (R246 step 3). -/
def State.takeSyncRsp (s : State) (f last cause : Nat) : State :=
  if !(s.sf f).syncing then s
  else if s.dlv.lost then s.breakSync f 0x03 (if cause = 0 then last + 1 else 1)
  else if cause ≠ 0 then s.breakSync f 0x06 (s.lowestLive f)
  else
    let next := s.runFrom f (s.flowBlocks f).length (last + 1)
    let s1 := ((s.flowBlocks f).filter fun e => decide (e.2.tseq ≤ last) || decide (next ≤ e.2.tseq)).foldl (fun s e => s.freeBlock e.1) s
    let s2 := ((s1.wr (DLV_SACKED f) last).wr (DLV_SNEXT f) next).setSf f { s1.sf f with syncing := false }
    ((s2.startResend f (last + 1)).closeIfDone f).syncDone

/-- A journal restore (R247): every live entry is broken, with the mark. -/
def State.staleLog (s : State) : State :=
  s.logEntries.foldl (fun s e => s.breakDst e 0x07 true false) (s.wr DLV_STATUS_STALE 1)

end Sys2Proof.Machine
end

