-- ==== Sys2Proof/Machine/Flows.lean ====
section
/-!
DEFINITION. The commands of routing (chapter 07 of spec/) and of tile delivery (chapter 08) that messages and timers
make. The retention commands are in Retention.lean.
-/
namespace Sys2Proof.Machine

/-! ## Routing (R201, R205, R213, R215) -/

/-- Message types with a meaning (R229; chapter 12 defines none of 0x40 to 0x7F); the others are discarded at their
destination. -/
def mtypeKnown (t : Nat) : Bool := (1 ≤ t && t ≤ 9) || t == 0x10 || t == 0x11

/-- What became of a message that leaves a link's receive buffer for the route stage (R201): steps 1 to 3, then the
selection. -/
def State.routeIn (s : State) (n : Nat) (m : RMsg) : State :=
  if s.fenceRejects m then
    ((s.raise EV_RTE_FENCED).freeSlots (some n) m).lapse
      { part := m.part, rank := 2, cause := 0x01, flags := 4 * b2n (m.dst == s.fna), fna := m.src, b8 := m.flow, w12 := rmTseq m, inst := (s.cycle, s.angle) }
  else if m.dst = s.fna then
    (if mtypeKnown m.mtype then s.arriveLocal (some n) m
     else if s.allowed m.part m.src then s.freeSlots (some n) m
     else s.arriveLocal (some n) m)
  else if m.hops = 0 then (s.raise EV_RTE_HOPX).freeSlots (some n) m
  else (s.enterPool (some n) { m with hops := m.hops - 1 }).1

/-- HOLDALL keeps a message in its receive buffer (R215); one that a fence rejects goes. -/
def State.stalls (s : State) (m : RMsg) : Bool := s.on RTE_STAT_HOLDALL && !(m.vc == 6 && m.dst == s.fna) && !s.fenceRejects m

/-- ROUTE_MESSAGE (R201): the oldest whole message of a VC in a link's receive buffer. One that HOLDALL keeps is
reported once as a lapse. `ups` are errors that have come about in stored words. -/
def execRouteMessage (n vc : Nat) (ups : List Upset) (s : State) : Host.Outcome State Fault Refusal :=
  onLink n s fun s0 =>
    let s := s0.upset ups
    let l := s.lk n
    match takeFirst (fun m : RMsg => m.vc == vc) l.rxq with
    | (none, _) => s
    | (some m, rest) =>
      if s.stalls m then
        (if s.route.stalled.contains (n, m) then s
         else ({ s with route := { s.route with stalled := s.route.stalled ++ [(n, m)] } }).stallLapse m)
      else
        let s1 := { s with route := { s.route with stalled := eraseOne (n, m) s.route.stalled } }
        (s1.setLk n { l with rxq := rest }).routeIn n m

/-- NOROUTE_TIMEOUT (R205): a message for which no position of its bundle has become usable. -/
def execNorouteTimeout (m : RMsg) (s : State) : Host.Outcome State Fault Refusal :=
  s.done <| s.onB fun s =>
    match s.route.pool.find? fun p => p.m == m with
    | some p => if s.select m = .wait ∨ s.select m = .none_ then s.dropNoRoute p else s
    | none => s

/-- FENCE as a bypass message from a link (R215). -/
def execFence (n fna inc gen : Nat) (s : State) : Host.Outcome State Fault Refusal :=
  onLink n s fun s =>
    (s.lmod n fun l => { l with rxByp := (takeFirst (fun u : Unit128 => decide (u = fenceMsg false fna inc gen)) l.rxByp).2 }).fenceCmd (some n) false fna inc gen

/-- UNFENCE as a bypass message from a link (R215). -/
def execUnfence (n fna inc gen : Nat) (s : State) : Host.Outcome State Fault Refusal :=
  onLink n s fun s =>
    (s.lmod n fun l => { l with rxByp := (takeFirst (fun u : Unit128 => decide (u = fenceMsg true fna inc gen)) l.rxByp).2 }).fenceCmd (some n) true fna inc gen

/-! ## Tile delivery: the destination (R237, R238, R240, R246, R472) -/

/-- The effect of a message that the route stage has handed to tile delivery; a message it has not handed over has no
effect. -/
def State.onLocal (s : State) (m : RMsg) (ty : Nat) (f : State → State) : State :=
  if m.mtype = ty ∧ s.route.local_.any (fun (e : Option Nat × RMsg) => e.2 == m) then f (if 2 ≤ ty ∧ ty ≤ 9 then s.trace 3 0 else s) else s

/-- An earlier tile of the same flow waits for its point of use: this one waits behind it (R237). -/
def State.behind (s : State) (m : RMsg) : Bool :=
  match s.route.local_.find? fun (e : Option Nat × RMsg) => e.2.mtype == 1 && e.2.src == m.src && e.2.flow == m.flow with
  | some e => decide (e.2 ≠ m)
  | none => false

/-- TILE. -/
def execTile (m : RMsg) (s : State) : Host.Outcome State Fault Refusal :=
  s.done <| s.onB fun s => s.onLocal m 1 fun s =>
    if s.behind m then s
    else (match s.entryOf m.src m.flow with
     | some e => s.learnPart e m.part
     | none => s).takeTile m

/-- TDELIV_DONE (R223): the last beat of a TDELIV has transferred. -/
def execTdelivDone (m : RMsg) (s : State) : Host.Outcome State Fault Refusal :=
  s.done <| s.onB fun s =>
    match takeFirst (fun x : RMsg => decide (x = m)) s.dlv.tdeliv with
    | (some _, rest) => ({ s with dlv := { s.dlv.dropOut (fun o => o.tile == some m) with tdeliv := rest } }).deliver m
    | (none, _) => s

/-- SYNC (R231, R246, R472). -/
def execSync (m : RMsg) (s : State) : Host.Outcome State Fault Refusal :=
  s.done <| s.onB fun s => s.onLocal m 4 fun s =>
    let s0 := s.takeLocal m
    match s0.entryOf m.src m.flow with
    | none => s0.sendDlv m.src m.flow m.part 0x05 0 4 0
    | some e =>
      let s1 := s0.learnPart e m.part
      if s1.on (DLV_DLOG_B_BROKEN e) then s1.sendBrack e m
      else s1.sendDlv m.src m.flow m.part 0x05 (s1.rd (DLV_DLOG_B_LAST e)) 0 (2 * b2n (s1.df e).mark)

/-- BROKEN (R240): from a source (EXACT = 0) at the destination; from a destination (EXACT = 1) at the source. -/
def execBroken (m : RMsg) (s : State) : Host.Outcome State Fault Refusal :=
  s.done <| s.onB fun s => s.onLocal m 6 fun s =>
    let s0 := s.takeLocal m
    if dmExact m then
      match s0.flowFor m with
      | some f => s0.takeBrack f (dmSeq m) true (dmUnc m)
      | none => s0
    else
      match s0.entryOf m.src m.flow with
      | none => s0.sendDlv m.src m.flow m.part 0x07 1 0 2
      | some e => ((s0.learnPart e m.part).breakDst e 0x08 false false).sendBrack e m

/-- CLOSE (R228). -/
def execClose (m : RMsg) (s : State) : Host.Outcome State Fault Refusal :=
  s.done <| s.onB fun s => s.onLocal m 8 fun s =>
    let s0 := s.takeLocal m
    match s0.entryOf m.src m.flow with
    | none => s0.sendDlv m.src m.flow m.part 0x09 0 0 0
    | some e =>
      let s1 := s0.learnPart e m.part
      (s1.freeLog e).sendDlv m.src m.flow m.part 0x09 (s1.rd (DLV_DLOG_B_LAST e)) 0 0

/-- TACK_TIMER (R238): ACKT after the first delivery that no TACK covers. -/
def execTackTimer (src flow : Nat) (s : State) : Host.Outcome State Fault Refusal :=
  s.done <| s.onB fun s =>
    match s.entryOf src flow with
    | some e => (match (s.df e).part with
      | some p => if (s.df e).sinceTack = 0 then s else s.sendTack e p
      | none => s)
    | none => s

/-! ## Tile delivery: the source (R228, R238 to R241, R246) -/

/-- The effect of a message on the source flow it is about (R231); any other is discarded. -/
def State.onFlow (s : State) (m : RMsg) (ty : Nat) (g : State → Nat → State) : State :=
  s.onLocal m ty fun s =>
    let s0 := s.takeLocal m
    match s0.flowFor m with
    | some f => g s0 f
    | none => s0

/-- TACK (R238). -/
def execTack (m : RMsg) (s : State) : Host.Outcome State Fault Refusal :=
  s.done <| s.onB fun s => s.onFlow m 2 fun s f => if s.rd (DLV_SACKED f) < dmSeq m then s.ackFlow f (dmSeq m) else s

/-- TNAK (R239). With cause 3 the resend comes when ETO has passed, at the expiry of the flow's timer, which counts like every
other. -/
def execTnak (m : RMsg) (s : State) : Host.Outcome State Fault Refusal :=
  s.done <| s.onB fun s => s.onFlow m 3 fun s f =>
    if s.fst f = 3 then s
    else if dmCause m = 1 ∨ dmCause m = 2 then s.startResend f (dmSeq m)
    else if dmCause m = 4 then s.breakOwn f 0x06
    else s

/-- SYNC_RSP (R246). -/
def execSyncRsp (m : RMsg) (s : State) : Host.Outcome State Fault Refusal :=
  s.done <| s.onB fun s => s.onFlow m 5 fun s f => s.takeSyncRsp f (dmSeq m) (dmCause m)

/-- BRACK (R240, R472). -/
def execBrack (m : RMsg) (s : State) : Host.Outcome State Fault Refusal :=
  s.done <| s.onB fun s => s.onFlow m 7 fun s f => (s.takeBrack f (dmSeq m) (dmExact m) (dmUnc m)).syncDone

/-- CLOSE_ACK (R228, R231): a closing flow whose CLOSE has gone out becomes closed, and a broken one too. -/
def execCloseAck (m : RMsg) (s : State) : Host.Outcome State Fault Refusal :=
  s.done <| s.onB fun s => s.onFlow m 9 fun s f => if (s.fst f = 2 ∧ (s.sf f).closeSent) ∨ s.fst f = 3 then s.closeFlow f else s

/-- EMAX; 0 acts as 1 (R251). -/
def State.emax (s : State) : Nat := max 1 (s.rd DLV_CTL_EMAX)

/-- FLOW_TIMER_EXPIRY (R239): the tiles go again from ACKED + 1, and the EMAX-th expiry in a row breaks the flow. -/
def execFlowTimerExpiry (f : Nat) (s : State) : Host.Outcome State Fault Refusal :=
  s.done <| s.onB fun s =>
    let x := s.sf f
    let un := (s.fst f = 1 ∨ s.fst f = 2) ∧ s.rd (DLV_SACKED f) + 1 < s.rd (DLV_SNEXT f) ∧ !x.syncing
    if 4096 ≤ f ∨ ¬ un then s
    else if s.emax ≤ x.expiries + 1 then s.breakOwn f 0x02
    else (s.setSf f { x with expiries := x.expiries + 1 }).startResend f (s.rd (DLV_SACKED f) + 1)

/-- BROKEN_REPEAT_TIMER (R240). -/
def execBrokenRepeatTimer (f : Nat) (s : State) : Host.Outcome State Fault Refusal :=
  s.done <| s.onB fun s =>
    let x := s.sf f
    if f < 4096 ∧ s.fst f = 3 ∧ x.awaitBrack then
      (s.setSf f { x with brokenTries := x.brokenTries + 1 }).sendBroken f x.cause (s.rd (DLV_SBOUND f))
    else s

/-- SYNC_TIMEOUT (R246). -/
def execSyncTimeout (f : Nat) (s : State) : Host.Outcome State Fault Refusal :=
  s.done <| s.onB fun s =>
    if (s.sf f).syncing then (if s.dlv.lost then s.breakSync f 0x03 1 else s.breakSync f 0x02 (s.lowestLive f)) else s

/-! ## Requests (R242 to R244) -/

/-- MREQ (R244). -/
def execMreq (m : RMsg) (s : State) : Host.Outcome State Fault Refusal := s.done <| s.onB fun s => s.onLocal m 0x10 fun s => s.takeMreq m

/-- MRSP (R243). -/
def execMrsp (m : RMsg) (s : State) : Host.Outcome State Fault Refusal := s.done <| s.onB fun s => s.onLocal m 0x11 fun s => s.takeMrsp m

/-- REQUEST_TIMER_EXPIRY (R243). -/
def execRequestTimerExpiry (tag : Nat) (s : State) : Host.Outcome State Fault Refusal := s.done <| s.onB fun s => s.requestTimeout tag

/-- RESPONSE_HOLD_EXPIRY (R244): an entry frees, and a request that waited for one is taken up. -/
def execResponseHoldExpiry (src sinc tag : Nat) (s : State) : Host.Outcome State Fault Refusal :=
  s.done <| s.onB fun s =>
    match takeFirst (fun e : RespEntry => e.src == src && e.sinc == sinc && e.tag == tag && e.rsp.isSome) s.dlv.cache with
    | (some _, rest) =>
      let s1 := ({ s with dlv := { s.dlv with cache := rest, held := s.dlv.held.drop 1 } }).countRsp
      (match s.dlv.held with
       | m :: _ => s1.takeMreq m
       | [] => s1)
    | (none, _) => s

/-! ## What writes of the delivery registers do (R227, R228, R241) -/

/-- SCMD CLOSE. -/
def State.scmdClose (s : State) (f : Nat) : State := if s.fst f = 1 then (s.setFst f 2).closeIfDone f else s

/-- SCMD BREAK. -/
def State.scmdBreak (s : State) (f : Nat) : State := s.breakOwn f 0x08

/-- SCMD FREE. -/
def State.scmdFree (s : State) (f : Nat) : State := if s.fst f = 2 ∨ s.fst f = 3 then s.closeFlow f else s

end Sys2Proof.Machine
end

