-- ==== Sys2Proof/Machine/Pace.lean ====
section
/-!
DEFINITION. Pace (chapter 13 of spec/): targets and Steep, the budget ceiling, the control law, operating points,
estimate and measurement, energy accounting, the thermal ceiling, the trip, and the supply warnings.
-/
namespace Sys2Proof.Machine

def State.pmod (s : State) (f : PaceSt → PaceSt) : State := { s with pace := f s.pace }

/-! ## The budget ceiling (R355) -/

/-- PT(o, L). -/
def State.pt (s : State) (o l : Nat) : Nat :=
  let at_ := fun k => s.rd (PAC_PTAB_PW (16 * o + k))
  if 255 ≤ l then at_ 15
  else
    let k := l / 17
    at_ k + (at_ (k + 1) - at_ k) * (l - 17 * k) / 17

/-- The largest level within a budget, in units of 0.125 W; 0 when there is none. -/
def State.ceiling (s : State) (o b : Nat) : Nat := (List.range 256).foldl (fun c l => if s.pt o l ≤ b then l else c) 0

/-- The rack share; 0xFFFF means no limit (R354). -/
def State.noLimit (s : State) : Bool := s.rd PAC_SHARE_SHARE == 0xFFFF

/-- The budget ceiling of an operating point for a correction in units of 2^-23. -/
def State.cBud (s : State) (o corr : Nat) : Nat :=
  if s.noLimit then 255 else s.ceiling o (s.rd PAC_SHARE_SHARE - corr >>> 23)

/-! ## Operating points (R358, R359) -/

/-- The operating point in force at an instant: a pending change counts from its own instant. -/
def State.oppAt (s : State) (inst : Nat) : Nat :=
  match s.pace.opp with
  | some (i, o, _) => if i ≤ inst then o else s.rd PAC_STATUS_OPP
  | none => s.rd PAC_STATUS_OPP

/-- A change asked for by a write of GO (R359). -/
def State.oppRequest (s : State) (o : Nat) : State :=
  let inst := instant (s.rd PAC_OPP_CYC_LO + s.rd PAC_OPP_CYC_HI_CYCLE <<< 32) (s.rd PAC_OPP_CYC_HI_ANGLE)
  if s.pace.opp.isSome || !s.ahead inst 15625 then s.raise EV_PAC_OPPREJ
  else ((s.pmod fun p => { p with opp := some (inst, o, false) }).wr PAC_STATUS_OPPNEXT o).wr PAC_STATUS_OPPPEND 1

/-- OPP_SEND_POINT (R31, R359 step 2): 128 KCLK before the instant; not less than 64. -/
def execOppSendPoint (s : State) : Host.Outcome State Fault Refusal :=
  s.done <| s.onB fun s =>
    match s.pace.opp with
    | some (inst, o, false) =>
      match s.kOf inst with
      | some k =>
        if k ≤ s.kclk + 128 ∧ s.kclk + 64 ≤ k then
          let kc := k % 2 ^ 32
          let m := mkMsg [(0, 8, 0x52), (16, 32, kc), (48, 16, inst % 65536), (64, 4, o)]
          let it : SentItem := { ty := 0x52, kcnt := kc, word := o, entry := 0, cyc := inst / 65536, ang := inst % 65536 }
          let s1 := s.pmod fun p => { p with opp := some (inst, o, true) }
          ({ s1 with bond := { s1.bond with items := s1.bond.items ++ [it] } }).sendT 3 m
        else s
      | none => s
    | _ => s

/-- OPP_INSTANT (R41, R359 step 3), after the key epochs that are due. -/
def execOppInstant (s : State) : Host.Outcome State Fault Refusal := s.done <| s.onB State.firstOpp

/-! ## Hints (R352) -/

/-- Hints in order of instant; of two with one instant the later received stands. -/
def insertHint (h : Nat × Nat) : List (Nat × Nat) → List (Nat × Nat)
  | [] => [h]
  | e :: es => if h.1 < e.1 then h :: e :: es else if h.1 = e.1 then h :: es else e :: insertHint h es

/-- A phase hint for the domains of a mask. A domain that holds 4 drops it. The budget ceiling is that of the whole share
(a deduction: R355 gives the ceiling of a budget, R357 the correction). -/
def State.hint (s : State) (mask level inst : Nat) : State :=
  let ds := (List.range 16).filter fun d => bitAt mask d
  let s1 := ds.foldl (fun (s : State) d =>
    let hs := Sparse.get (fun _ => []) s.pace.hints d
    if 4 ≤ hs.length ∧ !(hs.any fun h => h.1 == inst) then s.raise EV_PAC_HINTOVF
    else s.pmod fun p => { p with hints := Sparse.set (fun _ => []) p.hints d (insertHint (inst, level) hs) }) s
  s1.raiseIf (decide (s.cBud (s.oppAt inst) 0 < level)) EV_PAC_HINTCAP

/-- X of a domain: the hints whose instant is reached take effect at a boundary; without one, DBASE from boot step 6. -/
def State.takeHints (s : State) (d : Nat) : State :=
  let hs := Sparse.get (fun _ => []) s.pace.hints d
  let now := hs.filter fun h => s.reached h.1
  let s1 := s.pmod fun p => { p with hints := Sparse.set (fun _ => []) p.hints d (hs.filter fun h => !s.reached h.1) }
  match now.getLast? with
  | some h => (s1.pmod fun p => { p with hinted := if p.hinted.contains d then p.hinted else p.hinted ++ [d] }).wr (PAC_DSTAT_X d) h.2
  | none => if s.pace.hinted.contains d then s1 else s1.wr (PAC_DSTAT_X d) (if s.rd IMG_BOOT_STEP < 6 then 0 else s.rd (PAC_DOM_DBASE d))

/-! ## Estimate and measurement (R360, R361) -/

def State.permitOf (s : State) (d : Nat) : Nat := s.rd (PAC_DSTAT_PERMIT d)

/-- The engine term of a domain in units of 0.125 ÷ 256 W. -/
def State.engineTerm (s : State) (d : Nat) : Nat :=
  let o := s.rd PAC_STATUS_OPP
  s.rd (PAC_DW_DW d) * (s.pt o (s.permitOf d) - s.pt o 0)

/-- Slots of the tick. -/
def State.slotCount (s : State) : Nat := (s.pace.slots.map (·.2)).foldl (· + ·) 0

/-- P_est of a tick of `t` KCLK in units of 0.125 ÷ 256 W. -/
def State.pEst (s : State) (t : Nat) : Nat :=
  256 * s.pt (s.rd PAC_STATUS_OPP) 0 + ((List.range 16).map s.engineTerm).foldl (· + ·) 0 +
    (if t = 0 then 0 else s.rd PAC_ESLOT_ESLOT * s.slotCount * 16 / (5 * t))

/-- The channels that measure stack supply. -/
def State.stackChannels (s : State) : List Nat := (List.range 16).filter fun c => bitAt (s.rd PAC_ECH_USED) c && bitAt (s.rd PAC_ECH_STACK) c

def State.ech (s : State) (c : Nat) : EnergyCh := Sparse.get (fun _ => EnergyCh.reset) s.pace.ech c

/-- P_meas in units of 0.125 ÷ 256 W. -/
def State.pMeas (s : State) : Nat := (s.stackChannels.map fun c => (s.ech c).rate).foldl (· + ·) 0

/-- The measurement is valid. -/
def State.measured (s : State) : Bool := s.stackChannels.any fun c => !bitAt (s.rd PAC_EMISS_MISS) c

/-- ENERGY_SAMPLE (R64, R361): µJ ÷ µs is watts; a KCLK is 0.64 ns. A second sample in one KCLK stands in place of the
first. -/
def execEnergySample (ch data : Nat) (s : State) : Host.Outcome State Fault Refusal :=
  s.done <| s.onB fun s =>
    let c := ch % 16
    let x := s.ech c
    let dk := s.kclk - x.at_
    let y : EnergyCh :=
      if !x.seen then { last := data % 2 ^ 32, at_ := s.kclk, seen := true, rate := 0 }
      else if dk = 0 then { x with last := data % 2 ^ 32 }
      else { last := data % 2 ^ 32, at_ := s.kclk, seen := true, rate := ((data % 2 ^ 32 + 2 ^ 32 - x.last) % 2 ^ 32) * 3200000 / dk }
    (s.pmod fun p => { p with ech := Sparse.set (fun _ => EnergyCh.reset) p.ech c y }).wr PAC_EMISS_MISS (setBits (s.rd PAC_EMISS_MISS) c 1 0)

/-- ENERGY_CHANNEL_MISSING (R361): for a channel in use. -/
def execEnergyChannelMissing (ch : Nat) (s : State) : Host.Outcome State Fault Refusal :=
  s.done <| s.onB fun s =>
    if ch < 16 ∧ bitAt (s.rd PAC_ECH_USED) ch ∧ !bitAt (s.rd PAC_EMISS_MISS) ch then
      (s.wr PAC_EMISS_MISS (setBits (s.rd PAC_EMISS_MISS) ch 1 1)).raise EV_PAC_CHMISS
    else s

/-! ## Energy (R364). Energies are in units of 2^-4 pJ, so that 0.125 ÷ 256 W in one KCLK is 5 units. -/

/-- Energy added to an account (PaceSt.frac): whole µJ go to its counter, and those of partitions and of what is not
attributed to the total too. -/
def State.credit (s : State) (acc e : Nat) : State :=
  let f := Sparse.get (fun _ => 0) s.pace.frac acc + e
  let whole := f / 16000000
  let s1 := s.pmod fun p => { p with frac := Sparse.set (fun _ => 0) p.frac acc (f % 16000000) }
  if whole = 0 then s1
  else if acc < 256 then (s1.count2 (PAC_EPART_LO acc) (PAC_EPART_HI acc) whole).count2 PAC_ETOTAL_LO PAC_ETOTAL_HI whole
  else if acc < 264 then s1.count2 (PAC_ECLASS_LO (acc - 256)) (PAC_ECLASS_HI (acc - 256)) whole
  else (s1.count2 PAC_EUNATTR_LO PAC_EUNATTR_HI whole).count2 PAC_ETOTAL_LO PAC_ETOTAL_HI whole

/-- The terms of R360 for a tick of `t` KCLK: the accounts of each and its energy. -/
def State.energyTerms (s : State) (t : Nat) : List (List Nat × Nat) :=
  ([264], 256 * s.pt (s.rd PAC_STATUS_OPP) 0 * t * 5) ::
  ((List.range 16).map fun d => ([if s.on (PAC_DOM_OWNV d) then s.rd (PAC_DOM_PART d) else 264], s.engineTerm d * t * 5)) ++
  s.pace.slots.map fun (e : Nat × Nat) => ((if e.1 = 2048 then [264, 256 + 6] else [e.1 / 8, 256 + e.1 % 8]), 16 * s.rd PAC_ESLOT_ESLOT * e.2)

/-- Energy shared in the proportions of the terms, each joule once: a term gets the difference of two rounded running
sums. -/
def State.share (s : State) (e w : Nat) : Nat → List (List Nat × Nat) → State
  | _, [] => s
  | sum, (accs, x) :: ts =>
    let part := e * (sum + x) / w - e * sum / w
    State.share (accs.foldl (fun s a => s.credit a part) s) e w (sum + x) ts

/-- The energy of the tick that ends (R364). -/
def State.account (s : State) (t : Nat) : State :=
  let ts := s.energyTerms t
  let w := (ts.map (·.2)).foldl (· + ·) 0
  let e := if s.measured then s.pMeas * t * 5 else w
  let s1 := if w = 0 then s.credit 264 e else s.share e w 0 ts
  s1.pmod fun p => { p with slots := [] }

/-! ## Thermal (R365, R366, R75) -/

/-- The warning level in force. -/
def State.warnT (s : State) : Int := (min 0x398 (s.rd PAC_THCTL_WARNT) : Nat)

def State.tempOf (s : State) (i : Nat) : Int := sgn 12 (s.rd (PAC_TEMP_TEMP i))

/-- Readings that count, with a silent Kalvon-T at the warning level. -/
def State.readings (s : State) : List Int :=
  ((List.range 12).filter fun i => s.on (PAC_TEMP_VALID i)).map s.tempOf ++ (if s.pace.tSilent then [s.warnT] else [])

def State.tMax (s : State) : Option Int := s.readings.foldl (fun m x => match m with
  | some y => some (if y < x then x else y)
  | none => some x) none

/-- KB_PAC_STATUS.THW, with the event when Tmax first reaches the warning level. -/
def State.checkHot (s : State) : State :=
  let hot := match s.tMax with
    | some x => decide (s.warnT ≤ x)
    | none => false
  (s.wr PAC_STATUS_THW (b2n hot)).raiseIf (hot && !s.on PAC_STATUS_THW) EV_PAC_THWARN

/-- PERMIT with 16 permits (R117). -/
def permitMsg (now : Bool) (k ang : Nat) (ps : List Nat) : XMsg :=
  { hdr := BitVec.ofNat 128 (pack [(0, 8, 0x51), (16, 32, k), (48, 16, ang), (64, 1, b2n now)]),
    data := [BitVec.ofNat 128 (pack ((List.range 16).map fun d => (8 * d, 8, ps.getD d 0)))] }

/-- The trip latch sets (R75, R366): b_trip_n_o goes low, and every permit is 0 at once. A PERMIT for the coming boundary
that has gone out is replaced by one of 0 with the same KCNT (a design choice: permits stay at 0). -/
def State.trip (s : State) : State :=
  if !s.pins.tripN then s
  else
    let zeros := List.replicate 16 0
    let before := (List.range 16).map s.permitOf
    let gone := s.pace.next != before && s.pace.due.isEmpty
    let k := s.pace.tickAt + (if s.pace.tickAt % 3125 = 0 then 1562 else 1563)
    let s1 := { s with pins := { s.pins with tripN := false } }
    let s2 := (s1.wr PAC_STATUS_TRIP 1).sendT 3 (permitMsg true 0 0 zeros)
    let s3 := if gone then s2.sendT 3 (permitMsg false (k % 2 ^ 32) 0 zeros) else s2
    let s4 := (List.range 16).foldl (fun (s : State) d => s.wr (PAC_DSTAT_PERMIT d) 0) s3
    (s4.pmod fun p => { p with next := zeros, due := [] }).raise EV_PAC_TRIP

/-- A reading of a sensor. -/
def State.setTemp (s : State) (i : Nat) (x : Int) : State := (s.wr (PAC_TEMP_TEMP i) (unsgn 12 x)).wr (PAC_TEMP_VALID i) 1

/-- THERMAL_TRIP (R75): a sensor reads 115 °C or more. A sensor of Kalvon-T is shown only once its readings are valid (R365). -/
def execThermalTrip (sensor : Nat) (reading : Int) (s : State) : Host.Outcome State Fault Refusal :=
  s.done <| s.onB fun s =>
    if sensor < 12 ∧ 920 ≤ reading then
      ((if sensor < 8 ∨ (s.pace.tSeen ∧ !s.pace.tSilent) then s.setTemp sensor reading else s).checkHot).trip
    else s

/-- THERM in Kalvon-B (R365): Kalvon-T's four readings, with the trip of R75. -/
def execTherm (m : XMsg) (s : State) : Host.Outcome State Fault Refusal :=
  s.done <| s.onB fun s =>
    let xs := (List.range 4).map fun i => sgn 12 (bits m.hdr.toNat (48 + 12 * i) 12)
    let s1 := (List.range 4).foldl (fun (s : State) i => s.setTemp (8 + i) (xs.getD i 0)) (s.tookMsgB m)
    let s2 := (s1.pmod fun p => { p with tSeen := true, tSilent := false }).checkHot
    if xs.any fun x => decide (920 ≤ x) then s2.trip else s2

/-- THERM_TIMEOUT (R365): no THERM for 8,192 KCLK after one has arrived. -/
def execThermTimeout (s : State) : Host.Outcome State Fault Refusal :=
  s.done <| s.onB fun s =>
    if s.pace.tSeen && !s.pace.tSilent then
      let s1 := [8, 9, 10, 11].foldl (fun (s : State) i => s.wr (PAC_TEMP_VALID i) 0) s
      ((s1.pmod fun p => { p with tSilent := true }).raise EV_PAC_TSENS).checkHot
    else s

/-- THERMAL_CEILING_UPDATE (R365): every 1,000 ticks. -/
def execThermalCeilingUpdate (s : State) : Host.Outcome State Fault Refusal :=
  s.done <| s.onB fun s =>
    match s.tMax with
    | none => s
    | some x =>
      let st := s.rd PAC_THCTL_TSTEP
      if s.warnT ≤ x then s.pmod fun p => { p with ctherm := p.ctherm - st }
      else if x < s.warnT - (s.rd PAC_THCTL_THYST : Nat) then s.pmod fun p => { p with ctherm := min 255 (p.ctherm + st) }
      else s

/-- The side-band's clear of the trip latch (R366): refused unless all 12 sensors read below 100 °C; a sensor without a
valid reading counts as reading 100 °C. -/
def State.tripClear (s : State) : State :=
  if (List.range 12).all fun i => s.on (PAC_TEMP_VALID i) && decide (s.tempOf i < 800) then
    (({ s with pins := { s.pins with tripN := true } })).wr PAC_STATUS_TRIP 0
  else s.raise EV_PAC_TCLRREJ

/-! ## Supply warnings (R69, R367) -/

def railBit : Rail → Nat
  | .kt => 0
  | .kb => 1
  | .aon => 2

/-- KB_PAC_SAG shows the rails below their warning level. -/
def State.showSag (s : State) : State :=
  ((s.wr PAC_SAG_KT (bits s.boot.warn 0 1)).wr PAC_SAG_KB (bits s.boot.warn 1 1)).wr PAC_SAG_AON (bits s.boot.warn 2 1)

/-- The sag ceiling starts or ends for a rail. -/
def State.setSag (s : State) (r : Rail) (b : Bool) : State :=
  s.pmod fun p => match r with
    | .kt => { p with sagKt := b }
    | .kb => { p with sagKb := b }
    | .aon => p

/-- SUPPLY_WARNING (R367): the monitors work through a full reset (R70); Pace takes no part in one. -/
def execSupplyWarning (rail : Rail) (s : State) : Host.Outcome State Fault Refusal :=
  s.done <|
    let s1 := { s with boot := { s.boot with warn := setBits s.boot.warn (railBit rail) 1 1 } }
    s1.onB fun s => (s.showSag.setSag rail true).raise EV_PAC_SAGW

/-- SUPPLY_WARNING_CLEAR (R69). -/
def execSupplyWarningClear (rail : Rail) (s : State) : Host.Outcome State Fault Refusal :=
  s.done <|
    let s1 : State := { s with boot := { s.boot with warn := setBits s.boot.warn (railBit rail) 1 0 } }
    s1.onB fun s => s.showSag.caddyCatchUp

/-- SAG_HOLD_EXPIRY (R367): HOLD µs above the warning clear level. -/
def execSagHoldExpiry (rail : Rail) (s : State) : Host.Outcome State Fault Refusal :=
  s.done <| s.onB fun s => if bitAt s.boot.warn (railBit rail) then s else s.setSag rail false

/-! ## The tick (R349 to R351, R353, R356, R357, R363) -/

/-- Why a domain is throttled (R363), for the target t it had: the limits of Pace in the order of the table. -/
def throttleReason (trip port : Bool) (csag ctherm cbud cur dmax t pnext : Nat) : Nat :=
  if trip then 0 else if port then 1
  else if pnext < t then 7
  else if csag = t then 2 else if ctherm = t then 3 else if cbud = t ∧ cbud < cur then 4 else if cbud = t then 5 else if dmax = t then 6 else 7

/-- One domain: its target, next permit and reason; `csag`, `cbud`, and `cur`, above which the ceiling of the row in
force lies when the pending row limits. A domain that is not used is driven at 0 and is throttled as any other; the table of
R363 has no cause of its own for it (assumption 52). -/
def State.domain (s : State) (csag cbud cur : Nat) (port : Bool) (d : Nat) : State × Nat :=
  let p := s.permitOf d
  let x := s.rd (PAC_DSTAT_X d)
  let dmax := s.rd (PAC_DOM_DMAX d)
  let c := min cbud (min s.pace.ctherm csag)
  let t := min x (min dmax c)
  let trip := s.on PAC_STATUS_TRIP
  let used := s.on (PAC_DOM_USED d)
  let pn := if trip || port || !used then 0
    else if p < t then min t (p + max 1 (s.rd PAC_CTL_RISE))
    else max t (p - max 1 (s.rd PAC_CTL_FALL))
  let thr := port || decide (pn < x)
  let rsn := if thr then throttleReason trip port csag s.pace.ctherm cbud cur dmax t pn else 0
  ((((s.wr (PAC_DSTAT_TGT d) t).wr (PAC_DSTAT_THR d) (b2n thr)).wr (PAC_DSTAT_RSN d) rsn), pn)

/-- All 16 domains in order. -/
def State.domains (s : State) (csag cbud cur : Nat) (port : Bool) : Nat → Nat → State × List Nat
  | 0, _ => (s, [])
  | n + 1, d =>
    let (s1, p) := s.domain csag cbud cur port d
    let (s2, ps) := State.domains s1 csag cbud cur port n (d + 1)
    (s2, p :: ps)

/-- KB_PAC_THR: a tick of `t` KCLK counted for each reason that throttles a domain; 3,125 half KCLK are 1 µs. -/
def State.countThrottle (s : State) (t : Nat) : State :=
  (List.range 8).foldl (fun (s : State) r =>
    if (List.range 16).any fun d => s.on (PAC_DSTAT_THR d) && s.rd (PAC_DSTAT_RSN d) == r then
      let f := Sparse.get (fun _ => 0) s.pace.thrFrac r + 2 * t
      (s.pmod fun p => { p with thrFrac := Sparse.set (fun _ => 0) p.thrFrac r (f % 3125) }).count2 (PAC_THR_LO r) (PAC_THR_HI r) (f / 3125)
    else s) s

/-- The correction (R357), in units of 2^-23 × 0.125 W; `use` is in units of 2^-8. -/
def State.nextCorr (s : State) (use : Nat) : Nat :=
  let share := s.rd PAC_SHARE_SHARE
  let d : Int := ((use : Int) - (256 * share : Nat)) * (2 ^ (15 - s.rd PAC_CTL_KBS) : Nat)
  min (share * 2 ^ 23) ((s.pace.corr : Int) + d).toNat

/-- The length of the tick that starts at a boundary (R349). -/
def tickLen (k : Nat) : Nat := if k % 3125 = 0 then 1562 else 1563

/-- The control law at a boundary (R357), after the tick's estimate and measurement. -/
def State.controlTick (s : State) (est meas : Nat) : State :=
  let k1 := s.kclk + tickLen s.kclk
  let cur := s.rd PAC_STATUS_OPP
  let o := match s.pace.opp with
    | some (i, o, _) => (match s.kOf i with
      | some k => if k ≤ k1 then o else cur
      | none => cur)
    | none => cur
  let use := if s.measured then (if s.on PAC_STATUS_MISM then max meas est else meas) else est
  let corr := s.nextCorr use
  let row := s.cBud o corr
  let cbud := match s.pace.opp with
    | some (_, o2, _) => min row (s.cBud o2 corr)
    | none => row
  -- a pending row that gives no more than the row in force is the first cause (R363)
  let cmp := match s.pace.opp with
    | some (_, o2, _) => if s.cBud o2 corr ≤ row then row + 1 else row
    | none => row
  let sag := s.pace.sagKt || s.pace.sagKb
  let csag := if sag then s.rd PAC_CTL_SAGLVL else 255
  let s1 := ((s.pmod fun p => { p with corr := corr }).wr PAC_STATUS_SAGW (b2n sag)).wr PAC_STATUS_CEIL (min cbud (min s.pace.ctherm csag))
  let (s2, ps) := s1.domains csag cbud cmp (!s.portsReady) 16 0
  let s3 := (s2.countThrottle (tickLen s.kclk)).pmod fun p => { p with next := ps }
  if ps = (List.range 16).map s.permitOf then s3
  else
    let inst := (s.fnow + tickLen s.kclk * s.incr) >>> 40
    let kc := k1 % 2 ^ 32
    let it : SentItem := { ty := 0x51, kcnt := kc, word := 0, entry := 0, cyc := inst / 65536, ang := inst % 65536 }
    s3.pmod fun p => { p with due := p.due ++ [(k1 - 128, it, permitMsg false kc (inst % 65536) ps)] }

/-- The permits of the boundary take effect. -/
def State.takePermits (s : State) : State :=
  (List.range 16).foldl (fun (s : State) d => s.wr (PAC_DSTAT_PERMIT d) (s.pace.next.getD d 0)) s

/-- A reading of one of Kalvon-B's 8 sensors is 115 °C or more (R75). -/
def hotReading (readings : List Int) : Bool := (List.range 8).any fun i => decide (920 ≤ readings.getD i 0)

/-- PACE_TICK (R349, R357, R364): at a boundary, with the readings of Kalvon-B's 8 sensors in units of 0.125 °C; a reading
of 115 °C or more trips (R75). -/
def execPaceTick (readings : List Int) (s : State) : Host.Outcome State Fault Refusal :=
  s.done <| s.onB fun s =>
    if s.kclk % 3125 = 0 ∨ s.kclk % 3125 = 1562 then
      let t := s.kclk - s.pace.tickAt
      let est := s.pEst t
      let meas := s.pMeas
      let s1 := (((s.wr PAC_PWR_PEST (min 0xFFFF (est / 256))).wr PAC_PWR_PMEAS (min 0xFFFF (meas / 256))).account t).pmod fun p =>
        { p with tickAt := s.kclk, winMeas := p.winMeas + meas, winEst := p.winEst + est, winTicks := p.winTicks + 1,
                 winBad := p.winBad || !s.measured }
      let s2 := s1.takePermits
      let s3 := ((List.range 8).foldl (fun (s : State) i => s.setTemp i (readings.getD i 0)) s2).checkHot
      let s3t := if hotReading readings then s3.trip else s3
      let s4 := (List.range 16).foldl (fun (s : State) d => s.takeHints d) s3t
      s4.controlTick est meas
    else s

/-- PERMIT messages whose KCLK has come are handed to the crossing (R350). -/
def State.handPermits (s : State) : State :=
  let now := s.pace.due.filter fun (e : Nat × SentItem × XMsg) => decide (e.1 ≤ s.kclk)
  let s1 := s.pmod fun p => { p with due := p.due.filter fun (e : Nat × SentItem × XMsg) => decide (s.kclk < e.1) }
  now.foldl (fun (s : State) (e : Nat × SentItem × XMsg) => ({ s with bond := { s.bond with items := s.bond.items ++ [e.2.1] } }).sendT 3 e.2.2) s1

/-- MISM_WINDOW (R362): every 100 µs. The means are compared over the ticks of the window; 101 windows in a row set or
clear MISM. A window without a valid measurement breaks both runs. -/
def execMismWindow (s : State) : Host.Outcome State Fault Refusal :=
  s.done <| s.onB fun s =>
    let p := s.pace
    let clean := fun (s : State) (dis agree : Nat) =>
      s.pmod fun p => { p with winMeas := 0, winEst := 0, winTicks := 0, winBad := false, dis := dis, agree := agree }
    if p.winBad ∨ p.winTicks = 0 then clean s 0 0
    else if 5 * ((p.winMeas : Int) - (p.winEst : Int)).natAbs > p.winEst then
      let s1 := clean s (p.dis + 1) 0
      if 101 ≤ p.dis + 1 ∧ !s.on PAC_STATUS_MISM then (s1.wr PAC_STATUS_MISM 1).raise EV_PAC_MISM else s1
    else
      let s1 := clean s 0 (p.agree + 1)
      if 101 ≤ p.agree + 1 then s1.wr PAC_STATUS_MISM 0 else s1

end Sys2Proof.Machine
end

