-- ==== Sys2Proof/Machine/LinkFlit.lean ====
section
/-!
DEFINITION. Flits of a link: what each flit period sends (R143, R145, R171 to R177, R184, R185, R187 to R189, R193)
and what a received codeword does (R142, R148, R162, R163, R174 to R178).
-/
namespace Sys2Proof.Machine

/-! ## Messages and slots (R172, R200) -/

/-- The first slot of a message: link word and route header. -/
def firstSlot (m : RMsg) : Unit128 :=
  BitVec.ofNat 128 (pack [(0, 3, m.vc), (4, 9, rmLen m), (16, 24, m.dst), (40, 24, m.src), (64, 12, m.flow), (80, 8, m.part), (88, 6, m.hops),
    (96, 8, m.mtype), (104, 16, m.sinc)])

def slotsOf (m : RMsg) : List Unit128 := firstSlot m :: m.body

/-- The message that slots spell. -/
def spellMsg (ss : List Unit128) : RMsg :=
  let h := (ss.headD 0).toNat
  { vc := bits h 0 3, dst := bits h 16 24, src := bits h 40 24, flow := bits h 64 12, part := bits h 80 8, hops := bits h 88 6,
    mtype := bits h 96 8, sinc := bits h 104 16, body := ss.drop 1 }

/-! ## Choosing messages (R184) -/

/-- A message of this device's own while it is fenced (R216). -/
def State.selfHeld (s : State) (m : RMsg) : Bool := s.on RTE_STAT_SELF && m.src == s.fna

/-- The head message of a VC for a link: the first in the route stage that selects the link and is not held; none
while HOLDALL stops all forwarding (R215). -/
def State.headMsg (s : State) (n v : Nat) : Option PoolMsg :=
  if s.on RTE_STAT_HOLDALL then none else s.route.pool.find? fun p => p.m.vc == v && s.select p.m == .link n && !s.isHeld p.m && !s.selfHeld p.m

/-- The head message of a VC that may start: its VC holds the credit; in QUARANTINE only VC6. -/
def State.startable (s : State) (n v : Nat) : Option PoolMsg :=
  if s.lst n = 6 ∧ v ≠ 6 then none
  else match s.headMsg n v with
    | some p => if rmLen p.m ≤ s.rd (LNK_VC_CRED n v) then some p else none
    | none => none

/-- Deficit round robin: the VC whose turn it is sends while its deficit covers its head message; otherwise the
turn passes on, and the next VC gains its quantum. `fuel` bounds the turns (assumption 22). -/
def State.chooseVc (s : State) (n : Nat) : Nat → List Nat → Nat → Option (PoolMsg × List Nat × Nat)
  | 0, _, _ => none
  | fuel + 1, d, t =>
    match s.startable n t with
    | some p =>
      if rmLen p.m ≤ d.getD t 0 then some (p, d.set t (d.getD t 0 - rmLen p.m), t)
      else
        let u := (t + 1) % 8
        let d1 := if (s.startable n u).isSome then d.set u (d.getD u 0 + s.rd (LNK_VC_QNT_QNT n u)) else d
        State.chooseVc s n fuel d1 u
    | none =>
      let u := (t + 1) % 8
      let d1 := if (s.startable n u).isSome then d.set u (d.getD u 0 + s.rd (LNK_VC_QNT_QNT n u)) else d
      State.chooseVc s n fuel d1 u

/-- A VC with no message waiting keeps no deficit (R184). -/
def State.idleDeficits (s : State) (n : Nat) : State :=
  s.lmod n fun l => { l with deficit := (List.range 8).map fun v => if (s.headMsg n v).isSome then l.deficit.getD v 0 else 0 }

/-- The link takes its next message from the route stage: it pays the credit, and the message leaves the receive
buffer of the link it came from (R184, R185). -/
def State.takeNext (s : State) (n : Nat) : Option State :=
  if (List.range 8).all fun v => (s.startable n v).isNone then none
  else
    let l := s.lk n
    match s.chooseVc n 2400 l.deficit l.turn with
    | none => none
    | some (p, d, t) =>
      let s1 := { s with route := { s.route with pool := eraseOne p s.route.pool } }
      let s2 := (s1.freeSlots p.from_ p.m).wr (LNK_VC_CRED n p.m.vc) (s.rd (LNK_VC_CRED n p.m.vc) - rmLen p.m)
      let l2 := s2.lk n
      let s3 := s2.setLk n { l2 with deficit := d, turn := t, nextId := l2.nextId + 1, cur := some l2.nextId,
                                     msgs := l2.msgs ++ [{ id := l2.nextId, m := p.m, sent := 0, last := none }] }
      some (s3.idleDeficits n)

/-- Fill `k` stream slots of flit `num`: slots, the messages with a slot in it, slots by VC. -/
def State.fillSlots (n num : Nat) : Nat → State → List Unit128 × List Nat × List Nat × State
  | 0, s => ([], [], [0, 0, 0, 0, 0, 0, 0, 0], s)
  | k + 1, s =>
    let go := fun (s : State) =>
      let l := s.lk n
      match l.msgs.find? fun x => some x.id = l.cur with
      | none => let (us, ms, vs, s1) := State.fillSlots n num k s; ((0 : Unit128) :: us, ms, vs, s1)
      | some x =>
        let u := (slotsOf x.m).getD x.sent 0
        let done := x.sent + 1 == rmLen x.m
        let x1 := { x with sent := x.sent + 1, last := if done then some num else none }
        let l1 := { l with msgs := l.msgs.map (fun y => if y.id = x.id then x1 else y), cur := if done then none else l.cur }
        let (us, ms, vs, s1) := State.fillSlots n num k (s.setLk n l1)
        (u :: us, x.id :: ms, addVc vs x.m.vc 1, s1)
    match (s.lk n).cur with
    | some _ => go s
    | none => match s.takeNext n with
      | some s1 => go s1
      | none => let (us, ms, vs, s1) := State.fillSlots n num k s; ((0 : Unit128) :: us, ms, vs, s1)

/-! ## Sending (R173 to R176, R185, R188, R193) -/

/-- The VC owed the most, the lower on a tie. -/
def mostOwed (o : List Nat) : Nat := (List.range 8).foldl (fun b v => if o.getD b 0 < o.getD v 0 then v else b) 0

/-- The totals of CRSYNC_LO or CRSYNC_HI (R187, R188). -/
def crsyncMsg (hi : Bool) (given : List Nat) : Unit128 :=
  BitVec.ofNat 128 (pack ((0, 8, if hi then 2 else 1) :: (List.range 4).map fun i => (8 + 24 * i, 24, given.getD (i + (if hi then 4 else 0)) 0)))

/-- The link encrypts (R193). -/
def State.encrypts (s : State) (n : Nat) : Bool := s.on (LNK_SEC_EN n) && bitAt (s.rd (LNK_CAPS n)) 0

/-- The two ENC bits differ, or encryption is asked for where it was not negotiated: no DATA flits (R190). -/
def State.secBad (s : State) (n : Nat) : Bool := (s.lk n).peerEnc != s.on (LNK_SEC_EN n) || (s.on (LNK_SEC_EN n) && !bitAt (s.rd (LNK_CAPS n)) 0)

/-- The nonce of a flit (R193). -/
def nonceOf (k : LKey) : List Nat := bytesOf 4 k.salt ++ beBytes 8 k.inv

/-- A sealed DATA flit from its header and 19 slots; encrypted, slot 18 is the tag. -/
def buildFlit (hdr : Nat) (slots : List Unit128) (key : Option LKey) : Flit :=
  match key with
  | none => sealFlit (hdr + packUnits slots <<< 64)
  | some k =>
    let pt := (slots.take 18).flatMap fun u => bytesOf 16 u.toNat
    let (ct, tag) := gcmSeal (bytesOf 32 k.key.toNat) (nonceOf k) (bytesOf 8 hdr) pt
    sealFlit (hdr + ofBytes (ct ++ tag) <<< 64)

/-- The account of a routed message's slots: 8 × PART + VC (R364). -/
def billOf (first : Unit128) : Nat := 8 * bits first.toNat 80 8 + bits first.toNat 0 3

/-- The 19 slots of a flit that carries no routed message. -/
def otherSlots : List Nat := List.replicate 19 2048

/-- A flit into the gearbox (R145); its slots are counted for the energy estimate (R360). -/
def State.toGear (s : State) (n : Nat) (f : Flit) (bill : List Nat := otherSlots) : State :=
  (s.slotsUsed bill).lmod n fun l =>
    { l with gear := l.gear ++ [f], flits := l.flits + 1, msFlits := l.msFlits + 1, txSw := l.txSw.map fun w => { w with count := w.count - 1 } }

/-- A new DATA flit: header, bypass message, stream slots; it enters the replay buffer (R173, R176). -/
def State.sendData (s : State) (n : Nat) : State :=
  let l := s.lk n
  let enc := s.encrypts n
  let num := l.txAbs
  let v := mostOwed l.owed
  let back := min 4095 (l.owed.getD v 0)
  let given := l.given.set v ((l.given.getD v 0 + back) % 2 ^ 24)
  let (byp, s) := match l.byp.head? with
    | some u =>
      if bits u.toNat 0 8 = 1 then (some (crsyncMsg false given), s)
      else if bits u.toNat 0 8 = 2 then (some (crsyncMsg true given), s)
      else let (u1, s1) := s.stampByp n num u; (some u1, s1)
    | none => (none, s)
  let room := 19 - b2n byp.isSome - b2n enc
  let s0 := s.setLk n { l with owed := l.owed.set v (l.owed.getD v 0 - back), given := given, byp := l.byp.drop 1, fillerDue := false, ackDue := false }
  let (us, ms, vs, s1) := State.fillSlots n num room s0
  let hdr := pack [(0, 4, 1), (4, 12, num), (16, 12, s.rd (LNK_SEQ_RXEXP n) + 4095), (28, 1, 1), (29, 1, b2n byp.isSome), (30, 1, b2n enc),
    (31, 1, if enc then s.rd (LNK_SEC_KEP n) else 0), (32, 3, v), (35, 1, b2n (back != 0)), (36, 12, back)]
  let f := buildFlit hdr (byp.toList ++ us) (if enc then l.txKey else none)
  let own := ms.map fun i => match (s1.lk n).msgs.find? fun x => x.id = i with
    | some x => 8 * x.m.part + x.m.vc
    | none => 2048
  let bill := own ++ List.replicate (19 - own.length) 2048
  let s2 := s1.lmod n fun l => { l with txAbs := num + 1, buf := l.buf ++ [{ num := num, flit := f, msgs := ms.eraseDups, slots := vs, bill := bill }],
                                        msData := l.msData + 1, txKey := if enc then l.txKey.map fun k => { k with inv := k.inv + 1 } else l.txKey }
  (((s2.eccWrite (4 + n) num).count (LNK_TXDATA n)).showSeq n).toGear n f bill

/-- A CTRL flit with the commands that fit its 19 slots (R157), always with the current ACK (R175). -/
def takeCmds : Nat → List LCmd → List LCmd × List LCmd
  | _, [] => ([], [])
  | room, c :: cs => if c.slots ≤ room then let (a, b) := takeCmds (room - c.slots) cs; (c :: a, b) else ([], c :: cs)

def packCmds : List LCmd → Nat
  | [] => 0
  | c :: cs => c.bytes % 2 ^ (128 * c.slots) + packCmds cs <<< (128 * c.slots)

def State.ctrlFlit (s : State) (n : Nat) (cs : List LCmd) : Flit :=
  let ackv := s.lst n = 5 ∨ s.lst n = 6
  let hdr := pack [(0, 4, 2), (16, 12, if ackv then s.rd (LNK_SEQ_RXEXP n) + 4095 else 0), (28, 1, if ackv then 1 else 0)]
  sealFlit (hdr + packCmds cs <<< 64)

def State.sendCtrl (s : State) (n : Nat) : State :=
  let l := s.lk n
  let (now, later) := takeCmds 19 l.cmds
  (s.setLk n { l with cmds := later, ackDue := false }).toGear n (s.ctrlFlit n now)

/-- One of the three CTRL flits with RETRAIN of the side that starts a retrain (R153). -/
def State.sendRetrain (s : State) (n : Nat) : State :=
  (s.lmod n fun l => { l with retrainTx := l.retrainTx - 1, retrainWait := l.retrainTx == 1, ackDue := false }).toGear n
    (s.ctrlFlit n [lcmd 2 1 0])

/-- IDLE (R143): FTYPE and the CRC. -/
def idleFlit : Flit := sealFlit 3

/-- The link may send DATA flits (R189, R190, R194). -/
def State.mayData (s : State) (n : Nat) : Bool :=
  let l := s.lk n
  (s.lst n == 5 || s.lst n == 6) && l.hsDone && l.hsDecided && !s.secBad n && s.rd (LNK_RSTAT_DSTATE n) == 0 &&
    (!s.on (LNK_SEC_EN n) || (bitAt (s.rd (LNK_CAPS n)) 0 && s.on (LNK_SEC_TXKEY n) && s.on (LNK_SEC_RXKEY n)))

/-- A DATA flit is due: a message to carry, a bypass message, or credits and an ACK to return (R185, R188, R175). -/
def State.dataDue (s : State) (n : Nat) : Bool :=
  let l := s.lk n
  l.cur.isSome || !l.byp.isEmpty || l.fillerDue || (l.ackDue && s.on (LNK_SEC_EN n)) || l.owed.any (64 ≤ ·) ||
    (List.range 8).any fun v => (s.startable n v).isSome

/-- WIDTH_SW (R157): width code, map, countdown. -/
def widthCmd (w : WSwitch) : LCmd := lcmd 5 1 (pack [(0, 8, w.width), (8, 16, w.map), (24, 8, w.count)])

/-- The commands that are repeated in ACTIVE and QUARANTINE (R157): WIDTH_SW at its three countdowns, ahead of the
others; MIRROR and WREQ every 64 flits; LSTATE every 16 flits until the handshake completes (R189); NBR after a quarantine (R160). -/
def State.repeats (s : State) (n : Nat) : State :=
  let l := s.lk n
  let s1 := if l.flits % 64 = 0 ∧ l.flits ≠ 0 then
      let s1 := match l.faults, l.mirSpare with
        | f :: fs, _ => (f :: fs).foldl (fun s f => s.sendCmd n (mirrorCmd f.log (s.physOf n f.spare) false)) s
        | [], some sp => if l.mirOk || l.mirHold then s else s.sendCmd n (mirrorCmd (s.rd (LNK_STATUS_MIRL n)) (s.physOf n sp) false)
        | [], none => s
      match l.wreq with
      | some (w, m, r) => s1.sendCmd n (wreqCmd w m r)
      | none => s1
    else s
  let s2 := if !l.hsDone && l.flits % 16 == 0 && l.flits != 0 then s1.sendCmd n (s1.lstateCmd n) else s1
  let s3 := if l.quarEnd ≠ 0 ∧ l.flits % 16 = 0 then (s2.sendNbr n).lmod n fun l => { l with quarEnd := l.quarEnd - 1 } else s2
  match l.txSw with
  | some w => if w.count = 24 ∨ w.count = 16 ∨ w.count = 8 then s3.lmod n fun l => { l with cmds := widthCmd w :: l.cmds } else s3
  | none => s3

/-- The replay buffer is full: WSTALL, once for each time it fills (R176). -/
def State.stallCheck (s : State) (n : Nat) : State :=
  let full := decide (512 ≤ (s.lk n).buf.length)
  (s.raiseIf (full && !(s.lk n).stalled) (EV_LNKR_WSTALL n)).lmod n fun l => { l with stalled := full }

/-- A flit period of the link layer (R145, R153, R157, R176, R180, R189). A resent flit carries no current ACK, so one that is
due goes between the resent flits in a CTRL flit (R175). -/
def State.flitPeriod (s : State) (n : Nat) : State :=
  let l := s.lk n
  if 2 ≤ l.gear.length ∨ l.retrainWait then s
  else if l.retrainTx ≠ 0 then s.sendRetrain n
  else if s.lst n = 4 then
    if l.flits % 16 = 0 then (((s.sendNbr n).sendCtrl n).endExchange n)
    else if l.cmds.any fun c => bits c.bytes 0 8 == 1 then (s.sendCtrl n).endExchange n
    else s.toGear n idleFlit
  else if s.lst n = 7 then
    if l.flits % 16 = 0 ∧ !(l.gotSeen && l.sentSeen) then (((s.sendNbr n).sendCtrl n).endExchange n)
    else if l.cmds.isEmpty then s.toGear n idleFlit
    else (s.sendCtrl n).endExchange n
  else if s.lst n = 5 ∨ s.lst n = 6 then
    let s0 := ((s.repeats n).stallCheck n).idleDeficits n
    let l := s0.lk n
    if !(s0.lk n).cmds.isEmpty then s0.sendCtrl n
    else if l.ackDue && !s.on (LNK_SEC_EN n) && (!s0.mayData n || !l.run.isEmpty) then s0.sendCtrl n
    else if !s0.mayData n then s0.toGear n idleFlit
    else
      match l.run with
      | q :: rest =>
        match l.buf.find? fun f => f.num = q with
        | some f =>
          let (s1, bad) := (s0.setLk n { l with run := rest }).eccRead (4 + n) q l.txAbs
          let flit := if bad then f.flit ^^^ BitVec.ofNat 2560 ((2 ^ 64 - 1) * 2 ^ 2496) else f.flit
          ((s1.count (LNK_TXRPL n)).markReplayed n q).toGear n flit f.bill
        | none => s0.setLk n { l with run := rest }
      | [] =>
        if s0.dataDue n then
          if l.buf.length < 512 then s0.sendData n
          else if l.ackDue && !s.on (LNK_SEC_EN n) then s0.sendCtrl n
          else s0.toGear n idleFlit
        else if l.ackDue then s0.sendCtrl n
        else s0.toGear n idleFlit
  else s

/-! ## ACK and credit (R177, R185) -/

/-- The acknowledgement advances: messages sent to their last slot are done, and flits leave the buffer once no
message in them is open (R176). -/
def State.ackTo (s : State) (n a : Nat) : State :=
  let l := s.lk n
  let open_ := l.msgs.filter fun x => match x.last with
    | some f => decide (a ≤ f)
    | none => true
  let buf := l.buf.filter fun f => decide (a ≤ f.num) || f.msgs.any fun i => open_.any fun x => x.id == i
  let s1 := s.setLk n { l with ackAbs := a, msgs := open_, buf := buf, run := l.run.filter (a ≤ ·) }
  ((s1.wr (LNK_RSTAT_RC n) 0).showSeq n)

/-- An ACK (R177). -/
def State.useAck (s : State) (n ack : Nat) (ctrl : Bool) : State :=
  let l := s.lk n
  let a := (ack + 4096 - l.ackAbs % 4096 + 1) % 4096
  if a = 0 then s
  else if a ≤ l.txAbs - l.ackAbs then s.ackTo n (l.ackAbs + a)
  else if ctrl then s.seqErr n
  else s

/-! ## Receiving (R142, R148, R174 to R178) -/

/-- The symbols of a codeword from the lanes of a map (R141). -/
def gather (lanes : List (List Nat)) (m w : Nat) : List Nat :=
  (List.range 272).map fun k => (lanes.getD (mapLane m (k % w)) []).getD (k / w) 1024

/-- Commands in the slots of a CTRL flit (R157): an empty slot ends them. A command whose length is 0 or that runs past
slot 18 ends them too and is not acted on: DESIGN CHOICE (assumption 68; R157 does not say). -/
def parseCmds (x : Nat) : Nat → Nat → List LCmd
  | 0, _ => []
  | fuel + 1, i =>
    if 19 ≤ i then []
    else
      let c := x >>> (64 + 128 * i)
      let ty := bits c 0 8
      let k := bits c 8 8
      if ty = 0 ∨ k = 0 ∨ 19 < i + k then []
      else { slots := k, bytes := bits c 0 (128 * k) } :: parseCmds x fuel (i + k)

/-- Accepted stream slots: messages are put together; a filler slot is a single slot; LEN above 288 is a framing
error (R172, R178). In QUARANTINE a message outside VC6 is discarded and its credit returned (R185). -/
def State.takeSlots (s : State) (n : Nat) : List Unit128 → State
  | [] => s
  | u :: us =>
    let l := s.lk n
    let first := l.part.isEmpty
    let len := if first then bits u.toNat 4 9 else bits (l.part.headD 0).toNat 4 9
    let v := if first then bits u.toNat 0 3 else bits (l.part.headD 0).toNat 0 3
    let s := s.slotsUsed [if first && len == 0 then 2048 else billOf (if first then u else l.part.headD 0)]
    if first && len == 0 then State.takeSlots s n us
    else if 288 < len then s.seqErr n
    else
      let ss := l.part ++ [u]
      let used := addVc l.used v 1
      if ss.length < len then State.takeSlots (s.setLk n { l with part := ss, used := used }) n us
      else
        let m := spellMsg ss
        if s.lst n = 6 ∧ v ≠ 6 then
          State.takeSlots ((s.setLk n { l with part := [], used := used.set v (used.getD v 0 - len), owed := addVc l.owed v len }).count (LNK_RXDROP n)) n us
        else State.takeSlots (s.setLk n { l with part := [], used := used, rxq := l.rxq ++ [m] }) n us

/-- Bypass types that the receiver knows (R188, R215, R262, R266, R439). -/
def bypKnown (ty : Nat) : Bool := ty == 1 || ty == 2 || ty == 0x10 || (0x20 ≤ ty && ty ≤ 0x25) || ty == 0x30 || ty == 0x31

/-- An accepted DATA flit (R174): its ACK, its credit return, its bypass message, its slots. After a resume the credit
returns of the flits before the partner's NXT do not count; the first flit from NXT on ends that (R190). -/
def State.acceptData (s : State) (n hdr : Nat) (slots : List Unit128) : State :=
  let sq := bits hdr 4 12
  let s1 := (s.count (LNK_RXDATA n)).wr (LNK_SEQ_RXEXP n) (s.rd (LNK_SEQ_RXEXP n) + 1)
  let s2 := if bitAt hdr 28 then s1.useAck n (bits hdr 16 12) false else s1
  let counts := match (s.lk n).resumeNxt with
    | some nx => let d := (nx + 4096 - sq) % 4096; d == 0 || 512 < d
    | none => true
  let v := bits hdr 32 3
  let k := bits hdr 36 12
  let s2 := if counts then s2.lmod n fun l => { l with resumeNxt := none } else s2
  let s3 := if bitAt hdr 35 && counts then
      (s2.wr (LNK_VC_CRED n v) (s2.rd (LNK_VC_CRED n v) + k)).lmod n fun l => { l with taken := l.taken.set v ((l.taken.getD v 0 + k) % 2 ^ 24) }
    else s2
  let byp := bitAt hdr 29
  let s4 := if byp then
      let u := slots.headD 0
      if bypKnown (bits u.toNat 0 8) then s3.lmod n fun l => { l with rxByp := l.rxByp ++ [u] } else s3.count (LNK_RXDROP n)
    else s3
  let slots1 := if byp then slots.drop 1 else slots
  (s4.slotsUsed (List.replicate (b2n byp + b2n (bitAt hdr 30)) 2048)).takeSlots n (if bitAt hdr 30 then slots1.take (slots1.length - 1) else slots1)

/-- The receive key of a parity. -/
def LinkSt.rxKey (l : LinkSt) (par : Bool) : Option LKey := if par then l.rxKey1 else l.rxKey0

/-- The slots of a DATA flit in the clear; none when its tag fails (R193). An encrypted flit of a parity for which no
receive key is held counts as a tag failure: DESIGN CHOICE (assumption 73; R193 does not say). -/
def openFlit (l : LinkSt) (f : Flit) : Option (List Unit128) :=
  let x := f.toNat
  let clear := (List.range 19).map fun i => BitVec.ofNat 128 (bits x (64 + 128 * i) 128)
  if bitAt x 30 then
    match l.rxKey (bitAt x 31) with
    | none => none
    | some k =>
      match gcmOpen (bytesOf 32 k.key.toNat) (nonceOf k) (bytesOf 8 (bits x 0 64)) (bytesOf 288 (x >>> 64)) (bytesOf 16 (x >>> (64 + 2304))) with
      | some pt => some (((List.range 18).map fun i => BitVec.ofNat 128 (ofBytes ((pt.drop (16 * i)).take 16))) ++ [0])
      | none => none
  else some clear

/-- The invocation count of a receive key advances with each accepted flit (R193). -/
def LinkSt.countRx (l : LinkSt) (par : Bool) : LinkSt :=
  if par then { l with rxKey1 := l.rxKey1.map fun k => { k with inv := k.inv + 1 } } else { l with rxKey0 := l.rxKey0.map fun k => { k with inv := k.inv + 1 } }

/-- A flit that passed FEC and CRC-64 (R143, R174, R175, R189). -/
def State.takeFlit (s : State) (n : Nat) (f : Flit) : State :=
  let l := s.lk n
  let x := f.toNat
  let ty := bits x 0 4
  let other := s.slotsUsed otherSlots
  if ty = 2 then
    let s := other
    let s1 := s.lmod n fun l => { l with rxCmds := l.rxCmds ++ parseCmds x 19 0 }
    if bitAt x 28 && l.hsDecided && (s.lst n = 5 || s.lst n = 6) && !s.on (LNK_SEC_EN n) then s1.useAck n (bits x 16 12) true else s1
  else if ty = 1 then
    if !((s.lst n = 5 || s.lst n = 6) && l.hsDone && l.hsDecided) then other
    else
      match openFlit l f with
      | none => other.raise (EV_LNKR_TAGERR n)
      | some slots =>
        let d := (bits x 4 12 + 4096 - s.rd (LNK_SEQ_RXEXP n)) % 4096
        if d = 0 then
          let s1 := if bitAt x 30 then s.lmod n (fun l => l.countRx (bitAt x 31)) else s
          s1.acceptData n (bits x 0 64) slots
        else if d ≤ 511 then other.count (LNK_RXGAP n)
        else if d ≤ 3583 then other.seqErr n
        else other.count (LNK_RXDUP n)
  else other

/-- Corrected symbols counted against the lanes that carried them; a mapped lane at its threshold faults (R142,
R161). -/
def State.countCorr (s : State) (n m w : Nat) (pos : List Nat) : State :=
  let per := (List.range 5).map fun q => (pos.filter fun k => mapLane m (k % w) == q).length
  let s1 := (List.range 5).foldl (fun s q => if per.getD q 0 = 0 then s else s.count (LNK_FEC_CORR n q) (per.getD q 0)) s
  let corr := (List.range 5).map fun q => (s.lk n).corr.getD q 0 + per.getD q 0
  let lim := max 1 (s.rd (LNK_CTL_LFAIL n)) * 1024
  let s2 := s1.lmod n fun l => { l with corr := corr }
  (List.range 5).foldl (fun s q =>
    if lim ≤ corr.getD q 0 && (s.rxLanes n).contains q && !bitAt (s.lk n).bad q then s.laneFault n q else s) s2

/-- The corrected symbols of a logical lane. -/
def laneColumn (w log : Nat) (good : List Nat) : List Nat := (List.range (272 / w)).map fun i => good.getD (i * w + log) 0

/-- The spare compared with the lane that it mirrors, while no lane is under repair (R162). -/
def State.checkMirror (s : State) (n w : Nat) (lanes : List (List Nat)) (good : List Nat) : State :=
  let l := s.lk n
  if !l.faults.isEmpty then s
  else
    match l.mirSpare with
    | some sp =>
      let log := s.rd (LNK_STATUS_MIRL n)
      if l.mirHold || w ≤ log then s
      else
        let bad := ((List.range (272 / w)).filter fun i => (lanes.getD sp []).getD i 1024 != (laneColumn w log good).getD i 0).length
        let s1 := s.setLk n { l with mism := l.mism + bad }
        if max 1 (s.rd (LNK_CTL_LFAIL n)) * 1024 ≤ l.mism + bad then s1.spareOutOf n sp
        else s1.lmod n fun l => { l with mirOk := l.mirOk || bad == 0 }
    | none => s

/-- A flit that decoded, for the lanes under repair (R163 step 2): one counts as verified by it if its spare was
substituted, or if its spare matches it; 16 in a row lead to the swap. -/
def State.checkRepairs (s : State) (n w : Nat) (lanes : List (List Nat)) (good : List Nat) (subst : List LaneFault) : State :=
  let judge := fun (f : LaneFault) =>
    { f with good := if subst.contains f || lanes.getD f.spare [] == laneColumn w f.log good then f.good + 1 else 0 }
  let s1 := s.lmod n fun l => { l with faults := l.faults.map judge }
  (s1.lk n).faults.foldl (fun s f => if 16 ≤ f.good then s.swapLane n f else s) s1

/-- The ways to substitute some of the spares under repair, none first. -/
def sublistsOf : List LaneFault → List (List LaneFault)
  | [] => [[]]
  | f :: fs => let r := sublistsOf fs; r ++ r.map (f :: ·)

/-- The receive map with the spares of some lanes under repair substituted (R163). -/
def substMap (m : Nat) (fs : List LaneFault) : Nat := fs.foldl (fun m f => setBits m (3 * f.log) 3 f.spare) m

/-- The first way of substituting spares with which a codeword decodes, none substituted first (R142, R163). -/
def decodeWith (lanes : List (List Nat)) (m w : Nat) : List (List LaneFault) → Option (List LaneFault × List Nat × List Nat)
  | [] => none
  | fs :: rest =>
    match rsDecode (gather lanes (substMap m fs) w) with
    | some (fixed, pos) => some (fs, fixed, pos)
    | none => decodeWith lanes m w rest

/-- An uncorrectable codeword (R142, R148): the count is paused while a lane fault is under repair. -/
def State.badWord (s : State) (n : Nat) : State :=
  let l := s.lk n
  let s1 := s.count (LNK_FEC_UNC n)
  if l.repair then s1
  else if 16 ≤ l.unc + 1 then (s1.setLk n { l with unc := 0 }).lockLoss n
  else s1.setLk n { l with unc := l.unc + 1 }

/-- A codeword received on the lanes of a link: the symbols of each physical lane for one flit (R141, R142). IDLE is
dropped after decoding, before its CRC (R146). -/
def State.receiveFlit (s : State) (n : Nat) (lanes : List (List Nat)) : State :=
  let l := s.lk n
  let st := s.lst n
  let w := widthOf (s.rd (LNK_STATUS_RXW n))
  let m := s.rd (LNK_MAP_RXMAP n)
  if !l.rxOn ∨ w = 0 ∨ st < 3 ∨ 7 < st then s
  else
    let s := s.lmod n fun l => { l with rxSw := l.rxSw.map fun x => { x with count := x.count - 1 } }
    let take := fun (s : State) (fixed : List Nat) =>
      let f := symbolsFlit fixed
      if bits f.toNat 0 4 = 3 then s.slotsUsed otherSlots
      else if flitGood f then s.takeFlit n f else s.count (LNK_CRC_ERR n)
    match decodeWith lanes m w (sublistsOf l.faults) with
    | some (fs, fixed, pos) =>
      let s1 := if fs.isEmpty then s.lmod n fun l => { l with unc := 0 } else s
      take (((s1.countCorr n (substMap m fs) w pos).checkMirror n w lanes fixed).checkRepairs n w lanes fixed fs) fixed
    | none => (s.lmod n fun l => { l with faults := l.faults.map fun f => { f with good := 0 } }).badWord n

end Sys2Proof.Machine
end

