-- ==== Sys2Proof/Machine/Link.lean ====
section
/-!
DEFINITION. The commands of the links: training and lanes (chapter 05 of spec/), flits, replay, handshake and
credits (chapter 06). Each row is the occurrence of its event; an event whose condition does not hold changes nothing.
-/
namespace Sys2Proof.Machine

/-- An effect on a link after which the usable links, the holds and the marks may differ (R205, R206). -/
def onLinkSel (n : Nat) (s : State) (f : State → State) : Host.Outcome State Fault Refusal :=
  onLink n s fun s => s.reselect f

/-- ACTIVE or QUARANTINE. -/
def State.lup (s : State) (n : Nat) : Bool := s.lst n == 5 || s.lst n == 6

/-! ## States (R151, R154) -/

/-- HEALTH_WAIT_END (R151): the engine reads of the first attempt begin. -/
def execHealthWaitEnd (n : Nat) (s : State) : Host.Outcome State Fault Refusal :=
  onLink n s fun s => if s.lst n = 1 ∧ (s.lk n).first then (s.lmod n fun l => { l with first := false }).oeStart n else s

/-- LINK_STATE_TIMEOUT (R151, R154): the cause follows the state; for HEALTH the spec gives none (assumption 3). -/
def execLinkStateTimeout (n : Nat) (s : State) : Host.Outcome State Fault Refusal :=
  onLinkSel n s fun s =>
    if s.lst n = 1 then s.attemptFail n none
    else if s.lst n = 2 then s.attemptFail n (some 1)
    else if s.lst n = 3 then s.attemptFail n (some 2)
    else if s.lst n = 4 then s.attemptFail n (some 4)
    else s

/-- DOWN (R151): no lane transmits. RXW, TXW, the maps, MIRL and SPUSE keep their last values here and in WAIT: DESIGN
CHOICE (assumption 71; R167 gives them no value for a link that is down after having been up). -/
def State.toDown (s : State) (n : Nat) : State := (s.enter n 0).lmod n fun l => { l with txen := 0 }

/-- WAIT_EXPIRY (R151, R154). -/
def execWaitExpiry (n : Nat) (s : State) : Host.Outcome State Fault Refusal :=
  onLink n s fun s => if s.lst n = 8 then (if s.on (LNK_EXP_USED n) then s.enterHealth n else s.toDown n) else s

/-- INCOMPAT_RETRY_TIMER (R151): the neighbour exchange starts over. -/
def execIncompatRetryTimer (n : Nat) (s : State) : Host.Outcome State Fault Refusal :=
  onLink n s fun s =>
    if s.lst n = 7 then s.lmod n fun l => { l with gotSeen := false, sentSeen := false, gotNbr := false, flits := 0 } else s

/-! ## Engine health (R155, R156) -/

/-- The quantity of an engine register: temperature, bias of a lane, received power of a lane. -/
def oeField (n addr : Nat) : Option (Fld × Option Nat) :=
  if addr = 0x9000 then some (LNK_OE_TEMP_TEMP n, none)
  else if 0x9010 ≤ addr ∧ addr < 0x9015 then some (LNK_OE_BIAS_BIAS n (addr - 0x9010), some (addr - 0x9010))
  else if 0x9020 ≤ addr ∧ addr < 0x9025 then some (LNK_OE_RXP_RXP n (addr - 0x9020), some (addr - 0x9020))
  else none

/-- A reading outside its limits (R156). -/
def State.oeOut (s : State) (n addr v : Nat) : Bool :=
  if addr = 0x9000 then decide ((s.rd (LNK_OE_LIM2_TEMP_MAX n) : Int) * 256 < sgn 16 v)
  else if addr < 0x9020 then decide (s.rd (LNK_OE_LIM1_BIAS_MAX n) < v)
  else decide (v < s.rd (LNK_OE_LIM1_RXP_MIN n))

/-- The register that a sweep reads after `addr`: the engine registers go in ascending order (assumption 44). -/
def oeNext (addr : Nat) : Option Nat :=
  if addr = 0x9000 then some 0x9010 else if addr = 0x9014 then some 0x9020 else if addr = 0x9024 then none else some (addr + 1)

/-- The sweep goes on with the next register; the last read in HEALTH leads to DETECT, and without a lane left the
attempt fails (R151, R154, R156). -/
def State.oeGoOn (s : State) (n addr : Nat) : State :=
  match oeNext addr with
  | some a => s.oeAsk n a
  | none =>
    let s1 := s.lmod n fun l => { l with oeReq := none }
    if s.lst n = 1 then
      let s2 := s1.enterDetect n
      if (s2.lk n).txen = 0 then s2.attemptFail n (some 3) else s2
    else s1

/-- OE_READ_DONE (R155, R156): the read of register `addr` that is under way answers `v`. 0xFFFF leaves the register of
the last reading as it was. A link that has left HEALTH, ACTIVE and QUARANTINE reads no further. -/
def execOeReadDone (n addr v : Nat) (s : State) : Host.Outcome State Fault Refusal :=
  onLinkSel n s fun s =>
    let health := s.lst n == 1
    match oeField n addr with
    | none => s
    | some (f, lane) =>
      if (s.lk n).oeReq.map (·.2.2) ≠ some addr ∨ 0xFFFF < v then s
      else if !(s.lup n || health) then s.lmod n fun l => { l with oeReq := none }
      else
        let s0 := s.lmod n fun l => { l with oeBlind := l.oeBlind || v == 0xFFFF }
        let s1 :=
          if v = 0xFFFF then
            let s1 := s0.raise (EV_LNKP_OEHLTH n)
            if health then s1.wr (LNK_LANES_OEBAD n) 0 else s1
          else
            let s1 := s0.wr f v
            if s.oeOut n addr v then
              match lane with
              | none => s1.raise (EV_LNKP_OEHLTH n)
              | some q =>
                if health then (if (s1.lk n).oeBlind then s1 else s1.wr (LNK_LANES_OEBAD n) (s1.rd (LNK_LANES_OEBAD n) ||| 2 ^ q))
                else (s1.raise (EV_LNKP_OEHLTH n)).laneError n q
            else s1
        s1.oeGoOn n addr

/-- OE_POLL_TIMER (R156): a sweep of the engine's registers starts. -/
def execOePollTimer (n : Nat) (s : State) : Host.Outcome State Fault Refusal :=
  onLink n s fun s => if s.lup n ∧ (s.lk n).oeReq.isNone then s.oeStart n else s

/-! ## Lanes and training blocks (R149 to R152, R161) -/

/-- LANE_RXLOCK_RISE (R151). -/
def execLaneRxlockRise (n q : Nat) (s : State) : Host.Outcome State Fault Refusal :=
  onLink n s fun s =>
    if 5 ≤ q then s
    else
      let s1 := s.lmod n fun l => { l with rxlock := l.rxlock ||| 2 ^ q }
      if s.lst n = 2 then s1.enterLock n else s1

/-- LANE_RXLOCK_FALL (R148, R161, R162). -/
def execLaneRxlockFall (n q : Nat) (s : State) : Host.Outcome State Fault Refusal :=
  onLinkSel n s fun s =>
    let l := s.lk n
    if 5 ≤ q ∨ !bitAt l.rxlock q then s
    else
      let r := l.lanes.getD q LaneRx.reset
      let spare := s.spareOk n q
      let s1 := s.setLk n { l with rxlock := l.rxlock - 2 ^ q, lanes := l.lanes.set q { r with syncs := 0, misses := 0, locked := false } }
      if s.lst n < 4 ∨ 7 < s.lst n then s1
      else if (s1.rxLanes n).all fun p => !bitAt (s1.lk n).rxlock p then s1.lockLoss n
      else if (s1.rxLanes n).contains q then (if bitAt l.bad q then s1 else s1.laneFault n q)
      else if spare then s1.spareOutOf n q
      else s1

/-- The sync pattern (R149). -/
def syncPattern : List Nat := [0x8B, 0x3E, 0x5D, 0xC6, 0x27]

/-- The PRBS-31 checker over the bits of a fill, each compared with the bits 28 and 31 before it (R149, R150):
history, bits known, mismatches. -/
def prbsBits : List Bool → Nat → Nat → Nat → Nat × Nat × Nat
  | [], h, k, e => (h, k, e)
  | b :: bs, h, k, e =>
    let want := xor (h.testBit 30) (h.testBit 27)
    prbsBits bs ((h * 2 + b2n b) % 2 ^ 31) (min 31 (k + 1)) (if k = 31 && want != b then e + 1 else e)

/-- Bits of bytes, bit 7 first. -/
def bitsMsb (bs : List Nat) : List Bool := bs.flatMap fun b => [7, 6, 5, 4, 3, 2, 1, 0].map fun i => b.testBit i

/-- A lane's receiver after a block (R150). -/
def LaneRx.block (r : LaneRx) (bytes : List Nat) : LaneRx :=
  if bytes.take 5 = syncPattern then
    let k := min 8 (r.syncs + 1)
    { r with syncs := k, misses := 0, locked := r.locked || k == 8 }
  else
    let m := r.misses + 1
    { r with syncs := 0, misses := min 4 m, locked := r.locked && decide (m < 4) }

/-- Lanes that name another sender than the majority of the lanes heard (R150). -/
def LinkSt.miswired (l : LinkSt) : List Nat :=
  let heard := (List.range 5).filter fun q => (l.lanes.getD q LaneRx.reset).heard && (l.lanes.getD q LaneRx.reset).locked
  let id := fun q => ((l.lanes.getD q LaneRx.reset).fna, (l.lanes.getD q LaneRx.reset).link)
  match heard.find? fun q => heard.length < 2 * (heard.filter fun p => id p == id q).length with
  | some q => heard.filter fun p => id p != id q
  | none => []

/-- What a good training block says besides the lane: the partner's RXOK, which has to stay unchanged, its width and
whether it counts down to flits (R152). The blocks are counted on the lowest lane in use, once for a block time. -/
def State.heardRxok (s : State) (n q ok sw txw : Nat) : State :=
  if (s.lockLanes n).head? = some q then
    let s1 := s.lmod n fun l => { l with peerSw := l.peerSw || sw != 0, peerTxw := txw }
    if s.rd (LNK_LANES_TXOK n) = ok then s1.lmod n fun l => { l with stable := l.stable + 1 }
    else (s1.wr (LNK_LANES_TXOK n) ok).lmod n fun l => { l with stable := 0 }
  else s

/-- TRAINING_BLOCK (R149, R150, R152): the 85 bytes of a block on receive lane q; `skewed` says that the lane
arrives more than 20 LCLK from the others. -/
def execTrainingBlock (n q : Nat) (bytes : List Nat) (skewed : Bool) (s : State) : Host.Outcome State Fault Refusal :=
  onLinkSel n s fun s =>
    let l := s.lk n
    let r := l.lanes.getD q LaneRx.reset
    let join := s.lup n && bitAt l.joinRx q
    let off := s.rd (LNK_LANES_RETIRED n) ||| s.rd (LNK_LANES_OEBAD n)
    if 5 ≤ q ∨ bytes.length ≠ 85 ∨ !bitAt l.rxlock q ∨ bitAt off q ∨ !((s.lst n == 3 && !l.rxOn) || join) then s
    else
      let r1 := r.block bytes
      let (h, k, e) := prbsBits (bitsMsb ((bytes.drop 18).take 65)) r.hist r.known 0
      let s1 := if r.locked && !r.done then s.count (LNK_PRBS_ERR n q) e else s
      let good := r1.locked && crc16 ((bytes.drop 5).take 78) == bytes.getD 83 0 + 256 * bytes.getD 84 0 &&
        bytes.getD 5 0 == (if join then 2 else 1)
      let r2 := { r1 with hist := h, known := k }
      let r3 := if good then { r2 with logical := bytes.getD 6 0 % 16, phys := bytes.getD 7 0 % 8, heard := true,
                                       fna := bytes.getD 14 0 + bytes.getD 15 0 * 256 + bytes.getD 16 0 * 65536, link := bytes.getD 17 0 % 64 } else r2
      let s2 := s1.lmod n fun l => { l with lanes := l.lanes.set q r3, bad := if skewed then l.bad ||| 2 ^ q else l.bad }
      let wrong := (s2.lk n).miswired.filter fun p => !bitAt (s2.lk n).bad p
      let s3 := if wrong.isEmpty then s2 else (s2.lmod n fun l => { l with bad := l.bad ||| maskOf wrong }).raise (EV_LNKP_MISWIRE n) (some (maskOf wrong))
      let s4 := if good && !join then s3.heardRxok n q (bytes.getD 11 0 % 32) (bytes.getD 12 0) (bytes.getD 13 0 % 4) else s3
      s4.trySwitch n

/-- WREQ with READY = 1 once every rejoining lane has its result (R165 step 4). -/
def State.joinDone (s : State) (n : Nat) : State :=
  let l := s.lk n
  let js := lanesOf l.joinRx
  if js.isEmpty ∨ !(js.all fun q => (l.lanes.getD q LaneRx.reset).done) then s
  else
    let ls := (s.rxLanes n).filter (fun q => !bitAt l.bad q) ++ js.filter fun q => (l.lanes.getD q LaneRx.reset).pass
    (s.setLk n { l with joinRx := 0 }).askWidth n (codeOf (fitWidth ls.length (s.wmax n))) (s.physMask n ls) true

/-- PRBS_WINDOW_END (R152, R165). A rejoining lane that is not block-locked when its window is over has not passed. -/
def execPrbsWindowEnd (n q : Nat) (s : State) : Host.Outcome State Fault Refusal :=
  onLinkSel n s fun s =>
    let l := s.lk n
    let r := l.lanes.getD q LaneRx.reset
    let join := s.lup n && bitAt l.joinRx q
    if 5 ≤ q ∨ (!r.locked ∧ !join) ∨ r.done ∨ !(s.lst n == 3 || join) then s
    else
      let lim := if l.retrain && !join then s.rd (LNK_CTL_PRBSMAX n) / 16 else s.rd (LNK_CTL_PRBSMAX n)
      let pass := r.locked && r.heard && decide (s.rd (LNK_PRBS_ERR n q) ≤ lim) && s.laneOk n q
      let s1 := s.setLk n { l with lanes := l.lanes.set q { r with done := true, pass := pass } }
      if join then s1.joinDone n
      else (if pass then s1.wr (LNK_LANES_RXOK n) (s1.rd (LNK_LANES_RXOK n) ||| 2 ^ r.phys) else s1).trySwitch n

/-- The receive map that the partner's blocks give: for each logical lane the receive lane that named it (R152). -/
def State.heardMap (s : State) (n : Nat) : List Nat :=
  (List.range 4).map fun log => (findUp (fun q => (s.lockLanes n).contains q && ((s.lk n).lanes.getD q LaneRx.reset).heard &&
    ((s.lk n).lanes.getD q LaneRx.reset).logical == log) 5 0).getD 7

/-- The spares of the transmit side (R161). -/
def State.txSpares (s : State) (n : Nat) : List Nat := (lanesOf (s.rd (LNK_LANES_TXOK n))).filter fun q => !(mapped (s.rd (LNK_MAP_TXMAP n))).contains q

/-- A latency part of R147: 1 or 2, which training fixes and the spec leaves open (assumption 3). -/
def State.wrLat (s : State) (f : Fld) : State := let (v, s1) := s.draw 1; s1.wr f (1 + v)

/-- The lanes that transmit, and what those out of the map carry (R164): with PARK = 1 only the map and the copies
that are kept stay on; with PARK = 0 every other lane copies logical lane 0. `keep` holds the copies that stay. -/
def State.setTxLanes (s : State) (n : Nat) (keep : List (Nat × Nat × Bool)) : State :=
  let m := mapped (s.rd (LNK_MAP_TXMAP n))
  let kept := m ++ keep.map (·.1)
  let off := s.rd (LNK_LANES_RETIRED n) ||| s.rd (LNK_LANES_OEBAD n)
  let rest := if s.on (LNK_CTL_PARK n) then [] else (List.range 5).filter fun q => !kept.contains q && !bitAt off q
  s.lmod n fun l => { l with txen := maskOf (kept ++ rest), txMir := keep ++ rest.map fun q => (q, 0, false) }

/-- EXCHANGE once flits are sent and decoded (R152 step 5). -/
def State.flitsBothWays (s : State) (n : Nat) : State :=
  if s.lst n = 3 ∧ (s.lk n).txOn ∧ (s.lk n).rxOn then s.enter n 4 else s

/-- Flits start on the transmit side: the spares copy logical lane 0 (R152 step 4). -/
def State.startSending (s : State) (n : Nat) : State :=
  ((s.lmod n fun l => { l with txOn := true, sent := 0, code := [] }).setTxLanes n []).wrLat (LNK_LAT_TXD n)

/-- Flits start on the receive side, at the width and by the map that the partner's blocks give (R152 step 5). -/
def State.startDecoding (s : State) (n : Nat) : State :=
  let l := s.lk n
  let w := widthOf l.peerTxw
  let sp := findUp (fun q => (s.lockLanes n).contains q && (l.lanes.getD q LaneRx.reset).heard && (l.lanes.getD q LaneRx.reset).logical == 7) 5 0
  let old := s.rd (LNK_STATUS_RXW n)
  let s1 := ((s.wr (LNK_STATUS_RXW n) (codeOf w)).wr (LNK_MAP_RXMAP n) (packMap ((s.heardMap n).take w))).wr (LNK_STATUS_SPUSE n) 0
  let s2 := (s1.wr (LNK_STATUS_MIRL n) (if sp.isSome then 0 else 7)).lmod n fun l => { l with rxOn := true, mirSpare := sp }
  (s2.raiseIf (old != 3 && old != codeOf w) (EV_LNKP_WIDTH n)).wrLat (LNK_LAT_RXD n)

/-- FLIT_START (R152): the countdown of one direction has ended, this side's (`tx`) or the partner's. -/
def execFlitStart (n : Nat) (tx : Bool) (s : State) : Host.Outcome State Fault Refusal :=
  onLinkSel n s fun s =>
    let l := s.lk n
    if s.lst n ≠ 3 then s
    else if tx then (if l.switching ∧ !l.txOn then (s.startSending n).flitsBothWays n else s)
    else if l.peerSw ∧ !l.rxOn ∧ widthOf l.peerTxw ≠ 0 then (s.startDecoding n).flitsBothWays n
    else s

/-! ## What the lanes carry (R140, R141, R149) -/

/-- The five PAM4 symbols of an RS symbol, bits [9:8] first. -/
def pam4Of (c : Nat) : List Nat := [8, 6, 4, 2, 0].map fun i => bits c i 2

/-- Bits of PRBS-31 from a register on: x^31 + x^28 + 1. -/
def prbsFrom : Nat → Nat → List Bool
  | 0, _ => []
  | k + 1, h => let b := xor (h.testBit 30) (h.testBit 27); b :: prbsFrom k ((h * 2 + b2n b) % 2 ^ 31)

/-- Bytes of bits, bit 7 first. -/
def bytesMsb (n : Nat) (bs : List Bool) : List Nat :=
  (List.range n).map fun i => (List.range 8).foldl (fun a j => 2 * a + b2n (bs.getD (8 * i + j) false)) 0

/-- What byte 6 says of a physical lane: its logical lane, 7 for a spare, 15 for a lane not in use (R149, R152 step 3). -/
def State.laneMark (s : State) (n q : Nat) : Nat :=
  let ok := lanesOf (s.rd (LNK_LANES_TXOK n))
  let m := if (s.lk n).switching then mapped (s.rd (LNK_MAP_TXMAP n)) else ok.take (fitWidth ok.length (s.wmax n))
  match m.findIdx? (· == q) with
  | some log => log
  | none => if ok.contains q then 7 else 15

/-- The training or rejoin block that physical lane q sends now (R149). One block takes 5 KCLK. The fill goes on from
block to block, and its first bit is the one after the seed (assumption 74). -/
def State.blockOut (s : State) (n q : Nat) (join : Bool) : List Nat :=
  let l := s.lk n
  let k := (s.kclk - l.entered) / 5
  let count := if join then l.flits % 65536 else k % 65536
  let sw := if l.switching && !join then max 1 (32 - (s.kclk - l.swAt) / 5) else 0
  let mark := if join then (match (mapped (s.rd (LNK_MAP_TXMAP n))).findIdx? (· == q) with
      | some log => log
      | none => 7) else s.laneMark n q
  let body := [if join then 2 else 1, mark, q] ++ bytesOf 2 count ++ [s.lst n, s.rd (LNK_LANES_RXOK n), sw, s.rd (LNK_STATUS_TXW n)] ++
    bytesOf 3 s.fna ++ [n] ++ bytesMsb 65 ((prbsFrom (520 * (k + 1)) (q + 1)).drop (520 * k))
  syncPattern ++ body ++ bytesOf 2 (crc16 body)

/-- What transmit lane q of a link carries: in DETECT and LOCK training blocks, on a rejoining lane rejoin blocks, and
once flits are sent the flit's symbols of its logical lane or of the lane that it copies (R141, R149, R162, R164). -/
def State.laneOut (s : State) (n q : Nat) : LaneOut :=
  let l := s.lk n
  let w := widthOf (s.rd (LNK_STATUS_TXW n))
  let log := match (mapped (s.rd (LNK_MAP_TXMAP n))).findIdx? (· == q) with
    | some log => some log
    | none => (l.txMir.find? fun e => e.1 == q).map fun e => e.2.1
  if !bitAt l.txen q then .dark
  else if bitAt l.joinTx q then .block (s.blockOut n q true)
  else if l.txOn then
    match log with
    | some log => .flit (l.sent / 128) (l.sent % 128) ((laneColumn w log l.code).flatMap pam4Of)
    | none => .dark
  else if s.lst n = 2 ∨ s.lst n = 3 then .block (s.blockOut n q false)
  else .dark

/-- The stream symbols of one flit on each lane (R141). -/
def flitPam4 (w : Nat) : Nat := 5 * (272 / w)

/-! ## Flits (R142, R145, R184) -/

/-- FLIT_PERIOD: the messages that wait are looked up (R203), and the link layer hands over a flit. -/
def execFlitPeriod (n : Nat) (ups : List Upset) (s : State) : Host.Outcome State Fault Refusal :=
  onLinkSel n s fun s => ((s.upset ups).sweepRoutes.flitPeriod n).replayRetire n

/-- The flit that starts on the lanes, with its codeword (R140, R141). -/
def State.putOnLanes (s : State) (n : Nat) (f : Flit) (rest : List Flit) : State :=
  let w := widthOf (s.rd (LNK_STATUS_TXW n))
  s.lmod n fun l => { l with gear := rest, air := f, sent := l.sent + (if l.code.isEmpty then 0 else flitPam4 w), code := rsEncode (flitSymbols f) }

/-- GEARBOX_FLIT_START (R145, R153): a flit that waits, or the IDLE codeword. Where the last RETRAIN flit of a retrain that
this side starts has just ended, LOCK follows in its place. No flit starts before flits are sent. -/
def execGearboxFlitStart (n : Nat) (s : State) : Host.Outcome State Fault Refusal :=
  onLinkSel n s fun s =>
    let l := s.lk n
    if !l.txOn then s
    else match l.gear with
      | f :: fs => s.putOnLanes n f fs
      | [] => if l.retrainWait then s.lockAgain n else s.putOnLanes n idleFlit []

/-- FLIT_RECEIVE: the 10-bit symbols of each receive lane for one flit. -/
def execFlitReceive (n : Nat) (lanes : List (List Nat)) (s : State) : Host.Outcome State Fault Refusal :=
  onLinkSel n s fun s => (s.receiveFlit n lanes).replayRetire n

/-! ## Spares and width (R148, R162 to R165) -/

/-- LANE_REPAIR_TIMEOUT (R148): the pause in counting codewords ends with lock lost. -/
def execLaneRepairTimeout (n : Nat) (s : State) : Host.Outcome State Fault Refusal :=
  onLinkSel n s fun s => if (s.lk n).repair then (s.lmod n fun l => { l with repair := false }).lockLoss n else s

/-- MIRROR_VERIFY_TIMEOUT (R163). -/
def execMirrorVerifyTimeout (n : Nat) (s : State) : Host.Outcome State Fault Refusal :=
  onLinkSel n s fun s => if !(s.lk n).faults.isEmpty then s.narrow n else s

/-- The mapped logical lane with the most corrected symbols in the last ms, the lowest on a tie (R162). -/
def State.worstLane (s : State) (n : Nat) : Nat :=
  let m := s.rd (LNK_MAP_RXMAP n)
  let c := fun log => (s.lk n).corr.getD (mapLane m log) 0
  ((List.range 4).filter fun log => mapLane m log != 7).foldl (fun b log => if c b < c log then log else b) 0

/-- MIRROR_CHOICE_TIMER (R162, R432): the end of a millisecond. A lane with LMARG corrected symbols or more is an
error for the tracker; then the lane to mirror is chosen. -/
def execMirrorChoiceTimer (n : Nat) (s : State) : Host.Outcome State Fault Refusal :=
  onLinkSel n s fun s =>
    let corr := (s.lk n).corr
    let s1 := (List.range 5).foldl (fun s q => if s.rd TEL_LVCTL_LMARG ≤ corr.getD q 0 ∧ (s.rxLanes n).contains q then s.laneError n q else s) s
    let log := s1.worstLane n
    let s2 := match s1.rxSpare n with
      | some sp =>
        let l := s1.lk n
        if !s1.lup n || !l.faults.isEmpty || (l.mirSpare == some sp && !l.mirHold && s1.rd (LNK_STATUS_MIRL n) == log) then s1
        else s1.askMirror n log sp false
      | none => s1
    s2.lmod n fun l => { l with corr := [0, 0, 0, 0, 0], mism := 0, msFlits := 0, msData := 0 }

/-- The transmit side starts a width switch (R164): the width is the lower of the request and its own WMAX. -/
def State.startSwitch (s : State) (n w : Nat) (lanes : List Nat) : State :=
  let k := fitWidth lanes.length (min w (s.wmax n))
  s.lmod n fun l => { l with txSw := some { width := codeOf k, map := packMap (lanes.take k), count := 24 } }

/-- A receiver starts to widen (R165 step 1): WREQ with READY = 0 and the lanes it wants. -/
def State.startWiden (s : State) (n : Nat) : State :=
  let l := s.lk n
  let off := l.bad ||| s.rd (LNK_LANES_RETIRED n) ||| s.rd (LNK_LANES_OEBAD n)
  let want := (List.range 5).filter fun q => !(s.rxLanes n).contains q && !bitAt off q
  if s.lup n && bitAt (s.rd (LNK_CAPS n)) 3 && decide (widthOf (s.rd (LNK_STATUS_RXW n)) < s.wmax n) && !want.isEmpty && !l.repair && l.rxSw.isNone then
    s.askWidth n (codeOf (fitWidth ((s.rxLanes n).length + want.length) (s.wmax n))) (s.physMask n want) false
  else s

/-- A write of PARK that changes it (R164, R167): copies with HOLD = 1 stay, since the receiver uses them as lanes. -/
def State.parkChanged (s : State) (n : Nat) : State :=
  if (s.lk n).txOn then s.setTxLanes n ((s.lk n).txMir.filter fun e => e.2.2) else s

/-- WIDTH_SWITCH_POINT (R164): the countdown of a direction has ended. -/
def execWidthSwitchPoint (n : Nat) (tx : Bool) (s : State) : Host.Outcome State Fault Refusal :=
  onLinkSel n s fun s =>
    let l := s.lk n
    if tx then
      match l.txSw with
      | some w =>
        if w.count ≠ 0 then s
        else
          let ch := s.rd (LNK_STATUS_TXW n) != w.width
          let s1 := ((s.wr (LNK_STATUS_TXW n) w.width).wr (LNK_MAP_TXMAP n) w.map).lmod n fun l => { l with txSw := none, joinTx := 0 }
          (s1.setTxLanes n []).raiseIf ch (EV_LNKP_WIDTH n)
      | none => s
    else
      match l.rxSw with
      | some w =>
        if w.count ≠ 0 then s
        else
          let ch := s.rd (LNK_STATUS_RXW n) != w.width
          let m := (List.range 4).map fun log => if mapLane w.map log = 7 then 7 else s.rxOf n (mapLane w.map log)
          let s1 := ((s.wr (LNK_STATUS_RXW n) w.width).wr (LNK_MAP_RXMAP n) (packMap m)).wr (LNK_STATUS_SPUSE n) 0
          (s1.lmod n fun l => { l with rxSw := none, wreq := none, repair := false, faults := [], narrowing := false, unc := 0 }).raiseIf ch (EV_LNKP_WIDTH n)
      | none => s

/-- WIDEN_TIMER (R165). -/
def execWidenTimer (n : Nat) (s : State) : Host.Outcome State Fault Refusal := onLink n s fun s => s.startWiden n

/-! ## Link commands (R157 to R160, R162 to R165) -/

/-- A decoded command that is acted on leaves the list. -/
def State.dropCmd (s : State) (n ty : Nat) : State :=
  s.lmod n fun l => { l with rxCmds := (takeFirst (fun c : LCmd => bits c.bytes 0 8 == ty) l.rxCmds).2 }

/-- NBR (R158, R159, R160). -/
def execNbr (n : Nat) (seen quar : Bool) (link fna inc vendor part lo hi caps : Nat) (s : State) : Host.Outcome State Fault Refusal :=
  onLinkSel n s fun s =>
    let s0 := s.dropCmd n 1
    if s.lst n < 4 ∨ 7 < s.lst n then s0
    else
      let s1 := s0.lmod n fun l => { l with gotNbr := true, gotSeen := l.gotSeen || seen, peer := (fna, link, inc, vendor, part, seen && quar) }
      let judged := if s.lst n = 4 ∨ s.lst n = 7 then s1.judgeNbr n lo hi caps else s1
      let s2 := if seen then judged else judged.sendNbr n
      if s.lst n = 4 ∨ s.lst n = 7 then s2.endExchange n
      else if s.lst n = 6 ∧ seen then (s2.wr (LNK_NBR_QPEER n) (b2n quar)).leaveQuar n
      else s2

/-- RETRAIN (R153). -/
def execRetrain (n : Nat) (s : State) : Host.Outcome State Fault Refusal := onLinkSel n s fun s => (s.dropCmd n 2).startRetrain n false

/-- MIRROR (R162, R163): a copy that is held stays until the next retrain. -/
def execMirror (n log spare : Nat) (hold : Bool) (s : State) : Host.Outcome State Fault Refusal :=
  onLinkSel n s fun s =>
    let s0 := s.dropCmd n 3
    if s.lst n < 4 ∨ 7 < s.lst n then s0
    else s0.lmod n fun l =>
      if 5 ≤ spare ∨ l.txMir.any (fun e => e.1 == spare && e.2.2) then l
      else
        let rest := l.txMir.filter fun e => e.1 != spare
        { l with txMir := if log < 4 then rest ++ [(spare, log, hold)] else rest }

/-- WREQ (R164, R165). -/
def execWreq (n w mask : Nat) (ready : Bool) (s : State) : Host.Outcome State Fault Refusal :=
  onLinkSel n s fun s =>
    let s0 := s.dropCmd n 4
    let ls := lanesOf mask
    if !s.lup n then s0
    else if ls.isEmpty then s0.startRetrain n true
    else if ready then (if (s0.lk n).txSw.isSome then s0 else s0.startSwitch n (widthOf w) ls)
    else if bitAt (s.rd (LNK_CAPS n)) 3 then
      if (s0.lk n).joinTx = maskOf ls then s0
      else (s0.lmod n fun l => { l with txen := l.txen ||| maskOf ls, joinTx := maskOf ls }).sendCmd n (lcmd 6 1 (maskOf ls))
    else s0

/-- WIDTH_SW (R164): the countdown counts the flit that carries it. -/
def execWidthSw (n w map count : Nat) (s : State) : Host.Outcome State Fault Refusal :=
  onLinkSel n s fun s =>
    let s0 := s.dropCmd n 5
    if !s.lup n then s0
    else s0.lmod n fun l => { l with rxSw := some { width := w % 4, map := map, count := count - 1 }, wreq := none }

/-- JOIN (R165). -/
def execLinkJoin (n mask : Nat) (s : State) : Host.Outcome State Fault Refusal :=
  onLinkSel n s fun s =>
    let s0 := s.dropCmd n 6
    if !s.lup n then s0
    else
      let js := (lanesOf mask).map (s.rxOf n)
      let s1 := js.foldl (fun s q => s.wr (LNK_PRBS_ERR n q) 0) s0
      s1.lmod n fun l =>
        { l with joinRx := maskOf js,
                 lanes := (List.range 5).map fun q => if js.contains q then LaneRx.reset else l.lanes.getD q LaneRx.reset }

/-! ## The handshake (R189, R190) -/

/-- Slots of a VC in the flits from a number on, and not yet sent of a message started (R190). -/
def LinkSt.outSlots (l : LinkSt) (a v : Nat) : Nat :=
  (l.buf.filter fun f => decide (a ≤ f.num)).foldl (fun t f => t + f.slots.getD v 0) 0 +
    (match l.msgs.find? fun x => some x.id = l.cur with
     | some x => if x.m.vc = v then rmLen x.m - x.sent else 0
     | none => 0)

/-- Resume (R190): the flits before the partner's EXP are done, and the rest is sent again; those that hold slots of an unfinished message
keep their places in the buffer (R176, assumption 77). An EXP outside the
replay buffer is a SEQERR (R178). -/
def State.resume (s : State) (n exp nxt : Nat) (base : List Nat) : State :=
  let b := match (s.lk n).buf.head? with
    | some f => f.num
    | none => (s.lk n).ackAbs
  let e := b + (exp + 4096 - b % 4096) % 4096
  if (s.lk n).txAbs < e then s.seqErr n
  else
    let s1 := if e = (s.lk n).ackAbs then s else s.ackTo n e
    let l := s1.lk n
    let run := (l.buf.filter fun f => decide (l.ackAbs ≤ f.num)).map (·.num)
    let s2 := (List.range 8).foldl (fun s v => s.wr (LNK_VC_CRED n v) (base.getD v 0 - l.outSlots l.ackAbs v)) s1
    let s3 := (s2.setLk n { l with run := run, resumeNxt := some nxt, hsDecided := true }).wr (LNK_RSTAT_DSTATE n) 0
    s3.raiseIf (!run.isEmpty) (EV_LNKR_REPLAY n)

/-- New session (R190): absolute numbers go on from the next multiple of 4,096, so that SEQ is 0. -/
def State.newSession (s : State) (n : Nat) (base : List Nat) : State :=
  let l := s.lk n
  let s0 := if s.rd (LNK_RSTAT_DSTATE n) = 2 ∨ !l.buf.isEmpty ∨ !l.msgs.isEmpty then s.flushLink n else s
  let s1 := s0.dropPartial n
  let l1 := s1.lk n
  let top := (l1.txAbs + 4095) / 4096 * 4096
  let l2 : LinkSt := { l1 with txAbs := top, ackAbs := top, run := [], hsDecided := true, resumeNxt := none, txKey := none, rxKey0 := none,
                               rxKey1 := none, txUsed := false, rxUsed := false, rxPar := false,
                               session := some (l1.peer.1, l1.peer.2.1, l1.peer.2.2.1) }
  let s2 := (((((s1.setLk n l2).wr (LNK_SEQ_RXEXP n) 0).wr (LNK_RSTAT_RC n) 0).wr (LNK_RSTAT_EL n) 0).wr (LNK_SEC_TXKEY n) 0).wr (LNK_SEC_RXKEY n) 0
  let s3 := (List.range 8).foldl (fun s v => s.wr (LNK_VC_CRED n v) (base.getD v 0)) (s2.wr (LNK_SEC_KEP n) 0)
  (s3.wr (LNK_RSTAT_DSTATE n) 0).showSeq n

/-- The link cannot carry DATA flits while encryption is asked for: not negotiated, different at the partner, or
without a key (R190, R194). -/
def State.checkSec (s : State) (n : Nat) : State :=
  s.raiseIf (s.secBad n || (s.on (LNK_SEC_EN n) && !(s.on (LNK_SEC_TXKEY n) && s.on (LNK_SEC_RXKEY n)))) (EV_LNKR_SECFAIL n)

/-- LSTATE (R189, R190): HELD, SEENL, ENC, DONE, EXP, NXT and BASE of VC0 to VC7. -/
def execLstate (n : Nat) (held seenl enc done : Bool) (exp nxt : Nat) (base : List Nat) (s : State) : Host.Outcome State Fault Refusal :=
  onLinkSel n s fun s =>
    let s0 := s.dropCmd n 7
    if !s.lup n then s0
    else
      let l := s0.lk n
      let s1 := s0.setLk n { l with hsSeen := true, hsDone := l.hsDone || seenl, peerEnc := if l.hsDecided then l.peerEnc else enc }
      let s2 := if l.hsDecided then s1
        else
          let own := match l.hsOwn with
            | some x => x.1
            | none => false
          (if own && held then s1.resume n exp nxt base else s1.newSession n base).checkSec n
      if done then s2 else if s2.lup n then s2.sendCmd n (s2.lstateCmd n) else s2

/-- LSTATE_HANDSHAKE_TIMEOUT (R189): the attempt fails with cause 4. -/
def execLstateHandshakeTimeout (n : Nat) (s : State) : Host.Outcome State Fault Refusal :=
  onLinkSel n s fun s => if s.lup n && !(s.lk n).hsDone then s.attemptFail n (some 4) else s

/-! ## Replay, grace, credits (R175, R179 to R181, R185, R187, R192) -/

/-- The replay limit within its range (R195). -/
def State.rmax (s : State) (n : Nat) : Nat := min 8 (max 2 (s.rd (LNK_RCTL_RMAX n)))

/-- The replay timer runs (R179). -/
def State.replayTimerOn (s : State) (n : Nat) : Bool :=
  s.lup n && (s.lk n).hsDone && (s.lk n).hsDecided && s.rd (LNK_RSTAT_DSTATE n) == 0 && decide ((s.lk n).ackAbs < (s.lk n).txAbs)

/-- REPLAY_TIMER_EXPIRY (R180, R181). -/
def execReplayTimerExpiry (n : Nat) (s : State) : Host.Outcome State Fault Refusal :=
  onLinkSel n s fun s =>
    if !s.replayTimerOn n then s
    else
      let rc := s.rd (LNK_RSTAT_RC n) + 1
      let s1 := s.wr (LNK_RSTAT_RC n) rc
      if rc < s.rmax n then
        (s1.lmod n fun l => { l with run := (l.buf.filter fun f => decide (l.ackAbs ≤ f.num)).map (·.num) }).raise (EV_LNKR_REPLAY n)
      else s1.escalate n

/-- AGE_LIMIT_EXPIRY (R181 step 4). -/
def execAgeLimitExpiry (n : Nat) (s : State) : Host.Outcome State Fault Refusal :=
  onLinkSel n s fun s => if s.rd (LNK_RSTAT_DSTATE n) < 2 ∧ (s.lk n).ackAbs < (s.lk n).txAbs then s.downWait n 1 else s

/-- EL_DECAY (R181 step 3). -/
def execElDecay (n : Nat) (s : State) : Host.Outcome State Fault Refusal := onLink n s fun s => s.wr (LNK_RSTAT_EL n) 0

/-- ACK_KEEPALIVE_TIMER (R175). -/
def execAckKeepaliveTimer (n : Nat) (s : State) : Host.Outcome State Fault Refusal :=
  onLink n s fun s => if s.lup n then s.lmod n fun l => { l with ackDue := true } else s

/-- CREDIT_RETURN_TIMER (R185). -/
def execCreditReturnTimer (n : Nat) (s : State) : Host.Outcome State Fault Refusal :=
  onLink n s fun s => if (s.lk n).owed.any (0 < ·) then s.lmod n fun l => { l with fillerDue := true } else s

/-- GRACE_EXPIRY (R182, R192). -/
def execGraceExpiry (n : Nat) (s : State) : Host.Outcome State Fault Refusal :=
  onLinkSel n s fun s => if s.rd (LNK_RSTAT_DSTATE n) = 2 then (s.flushLink n).replayRetire n else s

/-- The resync mode is in force (R187). -/
def State.resync (s : State) (n : Nat) : Bool := s.on (LNK_RCTL_CMODE n) && bitAt (s.rd (LNK_CAPS n)) 1

/-- CRSYNC_TIMER (R187): the totals are filled in when the flit that carries them is sent. -/
def execCrsyncTimer (n : Nat) (s : State) : Host.Outcome State Fault Refusal :=
  onLink n s fun s => if s.resync n && s.lup n then (s.sendByp n 1).sendByp n 2 else s

/-- An accepted bypass message that is acted on leaves the list. -/
def State.dropByp (s : State) (n ty : Nat) : State :=
  s.lmod n fun l => { l with rxByp := (takeFirst (fun u : Unit128 => bits u.toNat 0 8 == ty) l.rxByp).2 }

/-- Stated totals against the totals received (R187), for four VCs from `v0`. -/
def State.takeTotals (s : State) (n v0 : Nat) (totals : List Nat) : State :=
  if s.resync n then
    let d := fun i => sgn 24 ((totals.getD i 0 + 2 ^ 24 - (s.lk n).taken.getD (v0 + i) 0) % 2 ^ 24)
    let s1 := (List.range 4).foldl (fun s i =>
      (s.wr (LNK_VC_CRED n (v0 + i)) (unsgn 14 ((s.rd (LNK_VC_CRED n (v0 + i)) : Int) + d i))).lmod n
        fun l => { l with taken := l.taken.set (v0 + i) (totals.getD i 0 % 2 ^ 24) }) s
    s1.raiseIf ((List.range 4).any fun i => d i != 0) (EV_LNKR_CLEAK n)
  else s

/-- CRSYNC_LO (R187, R188). -/
def execCrsyncLo (n : Nat) (totals : List Nat) (s : State) : Host.Outcome State Fault Refusal :=
  onLinkSel n s fun s => (s.dropByp n 1).takeTotals n 0 totals

/-- CRSYNC_HI (R187, R188). -/
def execCrsyncHi (n : Nat) (totals : List Nat) (s : State) : Host.Outcome State Fault Refusal :=
  onLinkSel n s fun s => (s.dropByp n 2).takeTotals n 4 totals

/-! ## What writes of the link's registers do -/

/-- EN = 0 (R154, R182, R191). -/
def State.linkOff (s : State) (n : Nat) : State :=
  let s1 := if s.rd (LNK_RSTAT_DSTATE n) = 2 then s.flushLink n else s.declareDown n 3
  s1.toDown n

/-- EN of KB_LNK_SEC has changed (R190, R194). -/
def State.secChanged (s : State) (n : Nat) : State := if s.lup n && (s.lk n).hsDecided then s.checkSec n else s

/-- A change of WMAX from the width `old` (R164, R165). A switch that the transmitter starts on its own has no mask to go
by, and takes the first lanes of TXMAP in logical order: DESIGN CHOICE (assumption 70; R164 does not say). -/
def State.wmaxChanged (s : State) (n old : Nat) : State :=
  if !s.lup n then s
  else if s.wmax n < widthOf (s.rd (LNK_STATUS_TXW n)) then s.startSwitch n (s.wmax n) (mapped (s.rd (LNK_MAP_TXMAP n)))
  else if old < s.wmax n then s.startWiden n
  else s

/-- ACCEPT (R160). -/
def State.nbrAccept (s : State) (n : Nat) : State :=
  if s.on (LNK_NBR_QID n) then
    let s1 := ((s.wr (LNK_EXP_LINK n) (s.rd (LNK_OBS_LINK n))).wr (LNK_EXP_FNA n) (s.rd (LNK_OBS_FNA n))).wr (LNK_NBR_QID n) 0
    let s2 := if s1.ownQuar n then s1 else s1.lmod n fun l => { l with quarEnd := 3 }
    s2.leaveQuar n
  else s

end Sys2Proof.Machine
end

