-- ==== Sys2Proof/Machine/Test.lean ====
section
/-!
DEFINITION. Test and factory calibration (chapter 17 of spec/): loopback at the bond pads, memory self-test, near-end
loopback of the links, calibration, and the TAPs. Register access from the TAPs is in Access.lean.
-/
namespace Sys2Proof.Machine

/-! ## The tests of a half -/

def State.tmode (s : State) (atB : Bool) : Bool := if atB then s.on TST_STATUS_TMODE else s.on KT_TST_STATUS_TMODE

def State.testBusy (s : State) (atB : Bool) : Bool := if atB then s.on TST_STATUS_BUSY else s.on KT_TST_STATUS_BUSY

def State.setRej (s : State) (atB : Bool) (v : Nat) : State := if atB then s.wr TST_STATUS_REJ v else s.wr KT_TST_STATUS_REJ v

/-- A test starts or ends in a half. -/
def State.setRun (s : State) (atB : Bool) (r : TestRun) : State :=
  let b := b2n (decide (r ≠ .none_))
  if atB then ({ s with test := { s.test with runB := r } }).wr TST_STATUS_BUSY b
  else ({ s with test := { s.test with runT := r } }).wr KT_TST_STATUS_BUSY b

def State.running (s : State) (atB : Bool) : TestRun := if atB then s.test.runB else s.test.runT

/-! ## Loopback at the bond pads (R451) -/

/-- GO of LPCTL in a half in test mode. The receive taps go to 32, or to TARGET. A GO that cannot start sets REJ. -/
def State.bondLoop (s : State) (atB : Bool) : State :=
  if !s.tmode atB || s.testBusy atB then s.setRej atB 1
  else
    let src := if atB then s.on TST_LPCTL_SRC else s.on KT_TST_LPCTL_SRC
    let keys := (s.regs.filter fun (e : Nat × Word) => isTapKey e.1 && decide (e.1 < 0x4000000) == atB).map fun (e : Nat × Word) => e.1
    let s1 := keys.foldl (fun (s : State) k => s.setWord k (putField (s.word k) 0 6 (if src then bits (s.word k).toNat 8 6 else 32))) s
    (s1.setRun atB .loopback).setRej atB 0

/-- A group passes CHECK: it is aligned, and its failed logical wires fit on usable spares (R101). -/
def State.loopPass (s : State) (depth : Nat) (errs : List Nat) : Bool :=
  let bad := (List.range (65 + s.spares)).filter fun w => errs.getD w 0 != 0
  let badW := (bad.filter fun w => decide (w < 65)).length
  let badK := (bad.filter fun w => decide (65 ≤ w)).length
  1 ≤ depth && depth ≤ 4 && badW + badK ≤ s.spares

/-- BOND_LOOPBACK_DONE (R451): by group, the depth found (0: none) and the errors of wires 0 to 68; groups not named
passed without error. -/
def execBondLoopbackDone (atB : Bool) (res : List (Nat × Nat × List Nat)) (s : State) : Host.Outcome State Fault Refusal :=
  s.done <| (if atB then s.onB else s.onT) fun s =>
    if s.running atB ≠ .loopback then s
    else
      let mine := res.filter fun r => decide (r.1 < s.groups) && gBT r.1 != atB
      let fails := (mine.filter fun r => !s.loopPass r.2.1 r.2.2).map (·.1)
      let s1 := mine.foldl (fun (s : State) r => (List.range 69).foldl (fun (s : State) w =>
        s.wr (if atB then BND_WERR r.1 w else KT_BND_WERR r.1 w) (r.2.2.getD w 0)) s) s
      let first := match fails with
        | [] => 0xFFF
        | f :: fs => fs.foldl min f
      let s2 := if atB then (s1.wr TST_LPRES_FAILG fails.length).wr TST_LPRES_FIRST first else (s1.wr KT_TST_LPRES_FAILG fails.length).wr KT_TST_LPRES_FIRST first
      s2.setRun atB .none_

/-! ## Memory self-test (R455) -/

/-- GO of MBCTL, or Update-DR of 1 in MBIST: ignored while a test runs, and refused outside test mode. -/
def State.mbistGo (s : State) (atB : Bool) : State :=
  if s.testBusy atB then s else if s.tmode atB then (s.setRun atB .mbist).setRej atB 0 else s.setRej atB 1

/-- The memories of a half that the run tests. -/
def State.mbistMems (s : State) (atB : Bool) : List Nat := if atB then (if s.on TST_MBCTL_CADDY then List.range 8 else List.range 7) else [0, 1]

/-- The registers that show a memory of Kalvon-B: routing table, program store. -/
def inMemory (m key : Nat) : Bool :=
  (m == 0 && 0x40000 ≤ key && key < 0x80000) || (m == 1 && 0xC0000 ≤ key && key < 0xE0000)

/-- The memory of check bits (Upset) that a memory of the self-test holds: link buffers have one each. -/
def eccOf (m mem : Nat) : Bool := (m == 0 && mem == 0) || (m == 1 && mem == 2) || (m == 2 && mem == 1) || (m == 3 && 4 ≤ mem) || (m == 5 && mem == 3)

/-- The words of a memory have fresh check bits. -/
def State.eccFresh (s : State) (m : Nat) : State :=
  { s with ecc := { s.ecc with words := s.ecc.words.filter fun (e : Nat × Nat) => !eccOf m (e.1 / 2 ^ 24) } }

/-- March C− ends with every word at 0 (PRESUMED, the test's usual form): the contents of a memory are gone. -/
def State.mbistClear (s : State) (atB : Bool) (m : Nat) : State :=
  if atB then
    if m ≤ 1 then
      ((s.regs.filter fun (e : Nat × Word) => inMemory m e.1).map fun (e : Nat × Word) => e.1).foldl (fun (s : State) k => s.setWord k 0) s
    else if m = 2 then { s with pour := { s.pour with armed := s.pour.armed.map fun a => { a with slot := none } } }
    else if m = 3 then { s with lnk := s.lnk.map fun (e : Nat × LinkSt) => (e.1, { e.2 with buf := [], msgs := [] }) }
    else if m = 4 then { s with lnk := s.lnk.map fun (e : Nat × LinkSt) => (e.1, { e.2 with part := [], rxq := [] }) }
    else if m = 5 then { s with blend := { s.blend with wide := [], narrow := [] } }
    else if m = 6 then { s with xing := { s.xing with dir := [] } }
    else if m = 7 then { s with caddy := [], hdr := CaddyHdr.blank }
    else s
  else { s with xing := { s.xing with cache := [], plru := [] } }

/-- The result word of a memory: its failing banks. Memories 0 to 3 of Kalvon-B have a spare bank. -/
def State.mbistRes (s : State) (atB : Bool) (m : Nat) (banks : List Nat) : State :=
  let fail := b2n (!banks.isEmpty)
  let rep := b2n (atB && decide (m < 4) && banks.length == 1)
  let first := match banks with
    | [] => 0x7F
    | b :: bs => bs.foldl min b % 128
  let n := clampTop 63 banks.length
  if atB then
    ((((s.wr (TST_MBRES_DONE m) 1).wr (TST_MBRES_FAIL m) fail).wr (TST_MBRES_REPAIR m) rep).wr (TST_MBRES_FBANKS m) n).wr (TST_MBRES_FIRST m) first
  else
    ((((s.wr (KT_TST_MBRES_DONE m) 1).wr (KT_TST_MBRES_FAIL m) fail).wr (KT_TST_MBRES_REPAIR m) rep).wr (KT_TST_MBRES_FBANKS m) n).wr (KT_TST_MBRES_FIRST m) first

/-- MBIST_DONE (R455): the failing banks of each memory, numbered as FIRST numbers them. -/
def execMbistDone (atB : Bool) (fails : List (Nat × List Nat)) (s : State) : Host.Outcome State Fault Refusal :=
  s.done <| (if atB then s.onB else s.onT) fun s =>
    if s.running atB ≠ .mbist then s
    else
      ((s.mbistMems atB).foldl (fun (s : State) m => ((if atB then s.eccFresh m else s).mbistClear atB m).mbistRes atB m (((fails.find? fun f => f.1 == m).map (·.2)).getD [])) s).setRun atB .none_

/-! ## Near-end loopback of the links (R456) -/

/-- GO of KB_LNK_TST. -/
def State.laneLoop (s : State) (n : Nat) : State :=
  if s.lst n ≠ 0 ∨ s.on (LNK_TST_BUSY n) then s.wr (LNK_TST_REJ n) 1
  else
    let lanes := s.rd (LNK_TST_LANES n)
    ((((s.wr (LNK_TST_REJ n) 0).wr (LNK_TST_BUSY n) 1).wr (LNK_TST_PASS n) 0)).lmod n fun l => { l with lpbk := lanes, txen := lanes }

/-- LANE_LOOPBACK_DONE (R456): for each lane whether it locked, its PRBS errors, and whether every received byte 7 named
the lane itself. -/
def execLaneLoopbackDone (n : Nat) (res : List (Nat × Bool × Nat × Bool)) (s : State) : Host.Outcome State Fault Refusal :=
  onLink n s fun s =>
    if !s.on (LNK_TST_BUSY n) then s
    else
      let mine := res.filter fun r => bitAt (s.rd (LNK_TST_LANES n)) r.1 && decide (r.1 < 5)
      let s1 := mine.foldl (fun (s : State) r => s.wr (LNK_PRBS_ERR n r.1) r.2.2.1) s
      let pass := (List.range 5).filter fun q => mine.any fun r => r.1 == q && r.2.1 && decide (r.2.2.1 ≤ s.rd (LNK_CTL_PRBSMAX n)) && r.2.2.2
      let s2 := ((s1.wr (LNK_TST_PASS n) (maskOf pass)).wr (LNK_TST_BUSY n) 0).lmod n fun l => { l with lpbk := 0, txen := 0 }
      s2.tryEnable n

/-! ## Factory deskew calibration (R457 to R459) -/

/-- GO of CCTL. -/
def State.calGo (s : State) : State :=
  if !s.tmode true || s.testBusy true then s.setRej true 1
  else
    let s1 := ((s.setRun true .calibration).setRej true 0).wr TST_STATUS_CSTATE 1
    let s2 := { s1 with test := { s1.test with calTries := 0, calAcked := false }, bond := { s1.bond with driveB := true, acked := [] } }
    s2.wr BND_STATUS_STATE 1

/-- CAL in Kalvon-T (R99, R458): acted on in the states WAKE to CHECK, and answered with CAL_ACK. -/
def execCal (start dwell hmin : Nat) (s : State) : Host.Outcome State Fault Refusal :=
  s.done <| s.onT fun s =>
    let body := pack [(0, 32, start), (32, 8, dwell), (40, 8, hmin)]
    let s1 := s.tookT 0x16 body
    let st := s1.rd KT_BND_STATUS_STATE
    if 1 ≤ st ∧ st ≤ 6 then ({ s1 with test := { s1.test with calT := some (start, dwell, hmin) } }).ctlToB 0x17 body
    else s1.raise EV_KT_XPR_PROTO

/-- CAL_ACK in Kalvon-B (R458): the echo of the CAL last sent. -/
def execCalAck (start dwell hmin : Nat) (s : State) : Host.Outcome State Fault Refusal :=
  s.done <| s.onB fun s =>
    let s1 := s.tookB 0x17 (pack [(0, 32, start), (32, 8, dwell), (40, 8, hmin)])
    if s1.rd TST_STATUS_CSTATE = 1 ∧ start = s1.test.calS % 2 ^ 32 ∧ dwell = s1.rd TST_CCTL_DWELL ∧ hmin = s1.rd TST_CCTL_HMIN then
      { s1 with test := { s1.test with calAcked := true } }
    else s1

/-- CAL_RETRY_TIMEOUT (R458): eight CALs in all. -/
def execCalRetryTimeout (s : State) : Host.Outcome State Fault Refusal :=
  s.done <| s.onB fun s =>
    if s.rd TST_STATUS_CSTATE = 1 ∧ 1 ≤ s.test.calTries ∧ !s.test.calAcked then (if s.test.calTries < 8 then s.sendCal else s.calFail) else s

/-- Every receive tap of a half at one value. -/
def State.allTaps (s : State) (atB : Bool) (v : Nat) : State := (s.tapKeys atB).foldl (fun (s : State) k => s.setWord k (putField (s.word k) 0 6 v)) s

/-- CAL_SWEEP_START (R458): at S the sweep begins in both halves, at full rate, from tap 0. -/
def execCalSweepStart (s : State) : Host.Outcome State Fault Refusal :=
  s.done <| s.onB fun s =>
    if s.rd TST_STATUS_CSTATE = 1 ∧ s.test.calAcked then
      let s1 := ((s.wr TST_STATUS_CSTATE 2).wr BND_STATUS_RATE 0).allTaps true 0
      if s1.test.calT.isSome ∧ !s1.tReset then (s1.wr KT_TST_STATUS_CSTATE 2).allTaps false 0 else s1
    else s

/-- The median bin of a wire's hits: the bin of the hit in the middle, the lower of two (R457). `n` is how many hits
are still to pass. -/
def medianBin : List Nat → Nat → Nat → Nat
  | [], _, t => t
  | h :: hs, n, t => if n < h then t else medianBin hs (n - h) (t + 1)

/-- The target of a wire from its hits by bin: none without an edge (R457). -/
def calTarget (hits : List Nat) (hmin : Nat) : Option Nat :=
  let total := hits.foldl (· + ·) 0
  if total < hmin ∨ total = 0 then none else some ((medianBin hits ((total - 1) / 2) 0 + 32) % 64)

/-- The median of a list of odd length. -/
def middleOf (xs : List Nat) : Nat := (xs.mergeSort (· ≤ ·)).getD (xs.length / 2) 0

/-- The tap set of a group is plausible (R387). -/
def State.plausible (s : State) (g : Nat) (tap : Nat → Nat) : Bool :=
  let m := middleOf ((List.range 65).map tap)
  decide (8 ≤ m) && decide (m ≤ 55) && (List.range (65 + s.spares)).all fun w =>
    (decide (65 ≤ w) && s.spare g (w - 65) == 0x7E) || (decide (m ≤ tap w + 12) && decide (tap w ≤ m + 12))

/-- The histogram registers of a half read 0. -/
def State.clearHist (s : State) (atB : Bool) : State :=
  let lo := histKey (if atB then 0 else 1) 0 0
  let hi := histKey (if atB then 1 else 2) 0 0
  { s with regs := s.regs.filter fun (e : Nat × Word) => !(decide (lo ≤ e.1) && decide (e.1 < hi)) }

/-- One half at the end of the sweep: histograms, targets, and the wires without an edge. -/
def State.sweepHalf (s : State) (atB : Bool) (hmin : Nat) (hits : List (Nat × Nat × List Nat)) : State × Nat :=
  let gs := (List.range s.groups).filter fun g => gBT g != atB
  let of (g w : Nat) : List Nat := ((hits.find? fun h => h.1 == g && h.2.1 == w).map (·.2.2)).getD []
  let s0 := (s.clearHist atB).allTaps atB 62
  let s1 := (hits.filter fun h => gs.contains h.1).foldl (fun (s : State) h => (List.range 63).foldl (fun (s : State) b =>
    s.wr (if atB then TST_HIST h.1 h.2.1 b else KT_TST_HIST h.1 h.2.1 b) (h.2.2.getD b 0)) s) s0
  gs.foldl (fun (acc : State × Nat) g => (List.range (65 + s.spares)).foldl (fun (acc : State × Nat) w =>
    let t := calTarget (of g w) hmin
    (acc.1.wr (if atB then BND_TAP_TARGET g w else KT_BND_TAP_TARGET g w) (t.getD 32), acc.2 + b2n t.isNone)) acc) (s1, 0)

/-- CAL_SWEEP_END (R457, R458): the hits of each wire by bin. Both halves return to half rate and compute targets; APPLY
begins. -/
def execCalSweepEnd (hits : List (Nat × Nat × List Nat)) (s : State) : Host.Outcome State Fault Refusal :=
  s.done <| s.onB fun s =>
    if s.rd TST_STATUS_CSTATE = 2 then
      let s0 := match s.test.calT with
        | some (_, _, hmin) => ({ (s.sweepHalf false hmin hits).1 with test := { s.test with calT := none } }).wr KT_TST_STATUS_CSTATE 0
        | none => s
      let (s1, noedge) := s0.sweepHalf true (s0.rd TST_CCTL_HMIN) hits
      let bad := (List.range s1.groups).find? fun g => !gBT g && !s1.plausible g fun w => s1.rd (BND_TAP_TARGET g w)
      let s2 := ((s1.wr TST_CRES_NOEDGE noedge).wr TST_CRES_PLG (bad.getD 0xFFF)).wr BND_STATUS_RATE 1
      (s2.wr TST_STATUS_CSTATE 3).wr BND_STATUS_STATE 3
    else s

/-- CAL_VERIFY_DONE (R458): the wires that failed CHECK, by group. Failed wires go to spares. -/
def execCalVerifyDone (errs : List (Nat × List Nat)) (s : State) : Host.Outcome State Fault Refusal :=
  s.done <| s.onB fun s =>
    if s.rd TST_STATUS_CSTATE = 4 then
      let one := fun (acc : State × Bool) (g : Nat) =>
        if acc.1.rd (BND_GSTAT_DEPTH g) = 0 then (acc.1, false)
        else match acc.1.checkWires g (((errs.find? fun e => e.1 == g).map (·.2)).getD []) with
          | some s1 => (s1, acc.2)
          | none => (acc.1, false)
      let (s1, ok) := (List.range s.groups).foldl one (s, true)
      if ok then (s1.setRun true .none_).wr TST_STATUS_CSTATE 5 else s1.calFail.wr BND_STATUS_RATE 1
    else s

/-! ## The TAPs (R452, R453) -/

def State.tap (s : State) (atB : Bool) : TapSt := if atB then s.test.tapB else s.test.tapT

def State.setTap (s : State) (atB : Bool) (t : TapSt) : State :=
  if atB then { s with test := { s.test with tapB := t } } else { s with test := { s.test with tapT := t } }

/-- A TAP is reached: Kalvon-T's through Kalvon-B's secondary TAP in working mode, through its own pins in test mode. -/
def State.tapReached (s : State) (atB : Bool) : Bool := atB || s.tmode false || bitAt s.test.tapB.sconfig 0

/-- TAP_RESET: IDCODE is selected; the die configuration register clears, so that the secondary TAP is off, and the
wrapper is transparent (PRESUMED, IEEE 1838); trst_n also resets the TCK side of REGACC (R454). -/
def execTapReset (atB trst : Bool) (s : State) : Host.Outcome State Fault Refusal :=
  s.done <| if s.tapReached atB then
    s.setTap atB { s.tap atB with ir := 1, sconfig := 0, extest := false, regData := if trst then 0 else (s.tap atB).regData, regSts := if trst then 0 else (s.tap atB).regSts }
  else s

/-- SCONFIG: bit 0 enables the secondary TAP; the others are reserved. -/
def execSconfig (atB : Bool) (v : Nat) (s : State) : Host.Outcome State Fault Refusal :=
  s.done <| if s.tapReached atB then s.setTap atB { s.tap atB with ir := 0x10, sconfig := v % 2, extest := false } else s

/-- MBIST: Update-DR of 1 starts the memory self-test in test mode; in working mode it acts as BYPASS. -/
def execMbist (atB : Bool) (v : Nat) (s : State) : Host.Outcome State Fault Refusal :=
  s.done <| if s.tapReached atB then
    let s1 := s.setTap atB { s.tap atB with ir := 0x21, extest := false }
    (if atB then s1.onB else s1.onT) fun s => if v % 2 = 1 ∧ s.tmode atB then s.mbistGo atB else s
  else s

/-- EXTEST: in test mode the wrapper drives what the die wrapper register holds, after `v` is loaded; in working mode it
acts as BYPASS. -/
def execExtest (atB : Bool) (v : Nat) (s : State) : Host.Outcome State Fault Refusal :=
  s.done <| if s.tapReached atB then
    let t := s.tap atB
    s.setTap atB (if s.tmode atB then { t with ir := 0x03, dwr := v, extest := true } else { t with ir := 0x03, extest := false })
  else s

/-- SAMPLE/PRELOAD: the wrapper register captures the ports and pads, then is loaded with `v`. -/
def execSamplePreload (atB : Bool) (seen v : Nat) (s : State) : Host.Outcome State Fault Refusal :=
  s.done <| if s.tapReached atB then s.setTap atB { s.tap atB with ir := 0x02, captured := seen, dwr := v, extest := false } else s

end Sys2Proof.Machine
end

