-- ==== Sys2Proof/Machine/Boot.lean ====
section
/-!
DEFINITION. Start-up, the image and Caddy (chapter 14 of spec/): the boot steps, the checks of the image and of the
factory data, the restore of class C, the journal, and the commands of the flash window.
-/
namespace Sys2Proof.Machine

/-! ## The register map as the image and Caddy address it (R381, R389) -/

/-- A register beyond the build's links (R8, R465). -/
def State.beyondLinks (s : State) (key : Nat) : Bool :=
  (0x10000 ≤ key && key < 0x20000 && s.links ≤ (key - 0x10000) / 0x400) || (0x90100 ≤ key && key < 0x90200 && s.links ≤ (key - 0x90100) / 4) ||
  (0xf3200 ≤ key && key < 0xf3300 && s.links ≤ (key - 0xf3200) / 4)

/-- A class-C register that holds history: a counter, KB_CDY_INC, the fence table, the source flow table, the delivery log
windows (R381). -/
def isHistory (key : Nat) : Bool :=
  key == 0x2004 || (0x30000 ≤ key && key < 0x31000) || key == 0x80104 || key == 0x80124 || key == 0x80128 || key == 0xe002c ||
  (match regRow key with
   | some r => r.flds.any fun f => decide (f.cls = .c) && decide (f.acc = .ro) && f.w == 32 && !(0xb0400 ≤ key && key < 0xb0500)
   | none => false)

/-- The bits of `b` where the mask is 1, of `a` elsewhere. -/
def mixBits (mask a b : Nat) : Nat := (a &&& (0xFFFFFFFF ^^^ mask)) ||| (b &&& mask)

/-- Some bits of a register replaced. -/
def State.setMasked (s : State) (key mask v : Nat) : State := s.setWord key (BitVec.ofNat 32 (mixBits mask (s.word key).toNat v))

/-! ## Boot step 2: the image (R379 to R385) -/

/-- A word of an image section is good: ADDR in the form of R381, with its reserved bits ignored (R13), and fields of the class at its
offset. -/
def wordOk (k : Cls) (w : Nat × Nat) : Bool :=
  let off := bits w.1 0 20
  let key := if bitAt w.1 31 then tBase + off else off
  off % 4 == 0 && clsMask key k != 0 && !(decide (k = .c) && (bitAt w.1 31 || isHistory key))

/-- One word applied (R381): a class-I word to Kalvon-B's register, or held for Kalvon-T; a default held. -/
def State.applyWord (s : State) (k : Cls) (w : Nat × Nat) : State :=
  let off := bits w.1 0 20
  let v := w.2 % 2 ^ 32
  if k = .i then
    if bitAt w.1 31 then
      let old := (Sparse.get (fun k => regReset (tBase + k)) s.boot.tWords off).toNat
      { s with boot := { s.boot with tWords := Sparse.put off (BitVec.ofNat 32 (mixBits (clsMask (tBase + off) .i) old v)) (Sparse.drop off s.boot.tWords) } }
    else if s.beyondLinks off then s
    else s.setMasked off (clsMask off .i) v
  else
    let old := (Sparse.get regReset s.boot.defaults off).toNat
    if s.beyondLinks off then s
    else { s with boot := { s.boot with defaults := Sparse.put off (BitVec.ofNat 32 (mixBits (clsMask off .c) old v)) (Sparse.drop off s.boot.defaults) } }

def sectionCls (ty : Nat) : Option Cls := if ty = 1 ∨ ty = 2 then some .i else if ty = 3 then some .c else none

/-- Every section applied, in table order. -/
def State.applyImage (s : State) (secs : List ImgSection) : State :=
  secs.foldl (fun (s : State) x => match sectionCls x.ty with
    | some k => x.words.foldl (fun (s : State) w => s.applyWord k w) s
    | none => s) s

/-- The section table (R380). -/
def sectionsOk (r : SlotRead) : Bool :=
  r.sections.length == r.nsect &&
  (r.sections.all fun x => ((1 ≤ x.ty && x.ty ≤ 3) || 0x8000 ≤ x.ty) && x.offset % 16 == 0 && 256 + 16 * r.nsect ≤ x.offset &&
    x.offset + x.length + 96 ≤ r.totlen && (if x.ty = 2 then x.length == 8 + 4 * x.words.length else 0x8000 ≤ x.ty || x.length / 8 == x.words.length)) &&
  (r.sections.zipIdx.all fun a => r.sections.zipIdx.all fun b => a.2 == b.2 || a.1.offset + a.1.length ≤ b.1.offset || b.1.offset + b.1.length ≤ a.1.offset)

/-- The role table of a direction (R92). -/
def State.rolesOk (s : State) (bt : Bool) : Bool :=
  let codes := (List.range s.tiles).flatMap fun t => (List.range 8).map fun i => (t, bits (s.rd (if bt then BND_ROLE_BT t else BND_ROLE_TB t)) (2 * i) 2)
  let n := fun c => (codes.filter fun x => x.2 == c).length
  n 0 ≠ 0 && n 1 ≠ 0 && n 2 ≠ 0 && n 3 ≠ 0 && n 3 ≤ 4 && codes.all fun x => x.2 != 3 || bitAt (s.rd BND_KTILE_MASK) x.1

/-- A row of the customer table does not decrease (R355). -/
def nonDecreasing : List Nat → Bool
  | a :: b :: xs => a ≤ b && nonDecreasing (b :: xs)
  | _ => true

/-- The content checks (R384), on the state with the sections applied. -/
def State.contentOk (s : State) : Bool :=
  let p := s.rd TIM_PIMG_P
  let e := s.rd TIM_EPOCH_EPER
  s.rolesOk false && s.rolesOk true &&
  ((List.range s.links).all fun n => (List.range 8).foldl (fun a v => a + s.rd (LNK_VC_ALLOC n v)) 0 ≤ 10240) &&
  ((s.rd DLV_RCTL_RRMAX + 1) * max 1 (s.rd DLV_RCTL_RTO) + 100 ≤ max 1 (s.rd DLV_RCTL_RHOLD) * 100) &&
  (78125 ≤ p && p ≤ 1562500 && 1000 ≤ e && e ≤ 1000000 && e % 4 == 0 && (e * 3125 / 2) % p == 0) &&
  ((List.range 16).all fun o => nonDecreasing ((List.range 16).map fun k => s.rd (PAC_PTAB_PW (16 * o + k)))) &&
  ((List.range 16).foldl (fun a d => if s.on (PAC_DOM_USED d) then a + s.rd (PAC_DW_DW d) else a) 0 == 256)

/-- The header of a slot is valid (R379, R383). -/
def State.headerOk (s : State) (r : SlotRead) : Bool :=
  r.magic == 0x49505041 && r.fmt == 1 && r.hdrlen == 256 && bits r.target 16 16 == 1 && bits r.target 0 16 ≤ 2 &&
  r.build == s.buildWord && r.keyid ≤ 1 && 1 ≤ r.seq && r.seq < 2 ^ 32 && r.totlen % 16 == 0 && r.totlen ≤ 2 ^ 22 && 352 ≤ r.totlen && 1 ≤ r.nsect && r.nsect ≤ 64

/-- The result code of a slot before it is tried (R404): 2 for a candidate. -/
def State.slotCode (s : State) (floor : Nat) (r : SlotRead) : Nat :=
  if r.flashErr then 8 else if !s.headerOk r then 3 else if r.seq < floor then 6 else 2

/-- A slot tried: its result code, and the state with its sections applied. -/
def State.trySlot (s : State) (r : SlotRead) : Nat × State :=
  if !sectionsOk r then (4, s)
  else if !r.sigOk then (5, s)
  else
    let ok := r.sections.all fun x => match sectionCls x.ty with
      | some k => x.words.all fun w => wordOk k w
      | none => true
    let s1 := s.applyImage r.sections
    if ok && s1.contentOk then (1, s1) else (7, s)

def State.setSlot (s : State) (b : Bool) (code : Nat) : State := s.wr (if b then IMG_SLOT_STB else IMG_SLOT_STA) code

/-- A slot boots: its state, with what step 2 records of it. -/
def State.slotBooted (s : State) (b : Bool) (seq : Nat) : State :=
  ((((s.setSlot b 1).wr IMG_SEQ seq).wr IMG_BCTL_CUR (b2n b)).wr TIM_PCUR_P (s.rd TIM_PIMG_P)).wr IMG_BOOT_STEP 3

/-- The retained floor (R383 step 1): Caddy's if its check passes, else the journal's, else 0. -/
def State.imageFloor (s : State) (caddyBad : Bool) (journal : Option Nat) : Nat :=
  if !s.boot.aonPor && s.hdr.good && !caddyBad then s.hdr.seqFloor else journal.getD 0

/-- Slot choice (R383): the candidate with the higher SEQ first, slot A on a tie; then the other. -/
def State.chooseSlot (s : State) (floor : Nat) (a b : SlotRead) : State :=
  let ca := s.slotCode floor a
  let cb := s.slotCode floor b
  let s0 := (s.setSlot false ca).setSlot true cb
  let order := (if ca = 2 ∧ cb = 2 then (if a.seq < b.seq then [true, false] else [false, true])
    else (if ca = 2 then [false] else []) ++ (if cb = 2 then [true] else []))
  let read := fun x => if x then b else a
  match order with
  | [] => s0.stopBoot 2
  | x :: rest =>
    let (c1, s1) := s0.trySlot (read x)
    if c1 = 1 then s1.slotBooted x (read x).seq
    else
      let s2 := (s0.setSlot x c1).raise EV_IMG_SLOTFAIL
      match rest with
      | [] => s2.stopBoot 2
      | y :: _ =>
        let (c2, s3) := s2.trySlot (read y)
        if c2 = 1 then (s3.slotBooted y (read y).seq).raise EV_IMG_FALLBACK else ((s2.setSlot y c2).raise EV_IMG_SLOTFAIL).stopBoot 2

/-- IMAGE_STEP_DONE (R377, R383): discovery gives log2 of the flash's bytes and whether reads are slow, or no flash is
found. In test mode only discovery runs (R449). -/
def execImageStepDone (flash : Option (Nat × Bool)) (caddyBad : Bool) (journal : Option Nat) (a b : SlotRead) (s : State) : Host.Outcome State Fault Refusal :=
  s.done <| s.onB fun s =>
    if 2 < s.rd IMG_BOOT_STEP ∨ s.on IMG_BOOT_STOP then s
    else
      match flash with
      | none => if s.tmode true then s else (s.wr IMG_BOOT_STEP 2).stopBoot 1
      | some (dens, slow) =>
        let s1 := (s.wr IMG_FLASH_DENS dens).wr IMG_FLASH_SLOW (b2n slow)
        if s1.tmode true then s1 else (s1.wr IMG_BOOT_STEP 2).chooseSlot (s1.imageFloor caddyBad journal) a b

/-! ## Boot step 3: factory data and the restore (R386 to R394) -/

/-- A value by key in a list of pairs. -/
def lookupD (xs : List (Nat × Nat)) (k d : Nat) : Nat := ((xs.find? fun x => x.1 == k).map (·.2)).getD d

/-- The first implausible group of a tap set (R387). A group that the lists do not name holds taps of 32. -/
def State.badGroup (s : State) (taps maps : List (Nat × Nat)) : Option Nat :=
  let gs := ((taps.map fun t => t.1 / 69).eraseDups.mergeSort (· ≤ ·)).filter fun g => decide (g < s.groups)
  gs.find? fun g =>
    let tap := fun w => lookupD taps (69 * g + w) 32
    let m := middleOf ((List.range 65).map tap)
    !(8 ≤ m && m ≤ 55 && (List.range (65 + s.spares)).all fun w =>
      (65 ≤ w && bits (lookupD maps g 0x7F7F7F7F) (8 * (w - 65)) 8 == 0x7E) || (m ≤ tap w + 12 && tap w ≤ m + 12))

/-- The factory section is valid (R387). -/
def State.facValid (s : State) (f : FacRead) : Bool :=
  f.magic == 0x54434146 && f.fmt == 1 && f.build == s.buildWord && f.ngrp == s.groups && f.crcOk && f.sigOk

/-- What the header of the factory section shows. -/
def State.showFac (s : State) (f : FacRead) : State :=
  ((s.wr IMG_CALCNT f.calcnt).wr2 IMG_CALTIME_LO IMG_CALTIME_HI f.caltime).wr2 IMG_SERIAL_LO IMG_SERIAL_HI f.serial

/-- A list of pairs by key; the last of one key stands. -/
def byKey (xs : List (Nat × Nat)) : Sparse Nat := xs.foldl (fun m e => Sparse.put e.1 e.2 (Sparse.drop e.1 m)) []

/-- Two lists of pairs give every key one value, `d` where they do not name it. -/
def sameKeys (d : Nat) (a b : List (Nat × Nat)) : Bool :=
  (a ++ b).all fun e => Sparse.get (fun _ => d) (byKey a) e.1 == Sparse.get (fun _ => d) (byKey b) e.1

/-- Taps and spare maps taken for training (R388). -/
def State.takeTaps (s : State) (src : Nat) (taps maps : List (Nat × Nat)) : State :=
  ({ s with boot := { s.boot with taps := byKey taps, facMaps := byKey maps } }).wr BND_STATUS_TAPSRC src

/-- The retained tap copy holds what its sums say (R395). -/
def State.copyValid (s : State) (c : TapCopy) : Bool := c.magic == 0x5041544B && c.ngrp == s.groups && c.crcOk

/-- The factory data of step 3 (R388). -/
def State.factory (s : State) (fac : Option FacRead) (copy : Option TapCopy) : State :=
  let good := fac.filter s.facValid
  let s1 := match good with
    | some f =>
      let bad := s.badGroup f.taps f.maps
      (((({ s with boot := { s.boot with sensorCal := f.cal } }).showFac f).wr IMG_FAC_FOK 1).wr IMG_FAC_PLOK (b2n bad.isNone)).wr IMG_FAC_PLG (bad.getD 0xFFF)
    | none => ({ s with boot := { s.boot with sensorCal := [] } }).raise EV_IMG_FACFAIL
  match good.filter fun f => (s.badGroup f.taps f.maps).isNone with
  | some f =>
    let same := match copy.filter s.copyValid with
      | some c => sameKeys 32 f.taps c.taps && sameKeys 0x7F7F7F7F f.maps c.maps
      | none => false
    let s2 := s1.takeTaps 0 f.taps f.maps
    { s2 with boot := { s2.boot with copyStale := !same } }
  | none =>
    match copy.filter fun c => s.copyValid c && (s.badGroup c.taps c.maps).isNone with
    | some c => (s1.takeTaps 1 c.taps c.maps).raise EV_IMG_PLAUS
    | none => (s1.takeTaps 2 [] ((good.map (·.maps)).getD [])).raise EV_IMG_PLAUS

/-- The keys that a window's indices reach. -/
def dimKeys : List (Nat × Nat) → Nat → List Nat
  | [], k => [k]
  | (stride, count) :: ds, k => (List.range count).flatMap fun i => dimKeys ds (k + stride * i)

/-- The settings registers whose class-C fields are not 0 at reset. -/
def settingsKeys : List Nat :=
  (regRows.filter fun r => (r.reset &&& r.mask fun f => decide (f.cls = .c)) != 0).flatMap fun r => dimKeys r.dims r.base

/-- The registers take what Caddy holds (R389, R393). -/
def State.loadCaddy (s : State) : State :=
  let keys := (s.caddy.map fun (e : Nat × Word) => e.1) ++ settingsKeys ++ ((s.regs.filter fun (e : Nat × Word) => retMask e.1 != 0).map fun (e : Nat × Word) => e.1)
  keys.foldl (fun (s : State) k => s.setMasked k (retMask k) (s.cword k).toNat) s

/-- A Caddy word rewritten by the restore itself. -/
def State.putCaddy (s : State) (k v : Nat) : State := { s with caddy := Sparse.set caddyReset s.caddy k (BitVec.ofNat 32 v) }

/-- The settings words from DEFAULTS, or from their Reset values (R393). -/
def State.defaultCaddy (s : State) : State :=
  let keep := { s with caddy := s.caddy.filter fun (e : Nat × Word) => 0x10000000 ≤ e.1 || isHistory e.1 }
  let s1 := settingsKeys.foldl (fun (s : State) k => s.putCaddy k ((regReset k).toNat &&& clsMask k .c)) keep
  s.boot.defaults.foldl (fun (s : State) (e : Nat × Word) => s.putCaddy e.1 (e.2.toNat &&& clsMask e.1 .c)) s1

/-- The counts that registers show of what Caddy holds. -/
def State.recount (s : State) : State :=
  let n := ((s.regs.filter fun (e : Nat × Word) => 0x10000000 ≤ e.1 && e.1 < 0x10100000 && e.1 % 0x20 == 4 && decide (2 ^ 30 ≤ e.2.toNat))).length
  ((s.countFences.countLog).wr DLV_STATUS_SFLOWS n).countDegr

/-- Fences restored that name this device (R216). -/
def State.selfFences (s : State) : State :=
  ((List.range 512).filter fun e => s.on (RTE_FENCE_A_VALID e)).foldl (fun (s : State) e => s.selfFence (s.rd (RTE_FENCE_A_FNA e)) (s.rd (RTE_FENCE_B_INC e))) s

/-- The next incarnation number (R394). -/
def nextInc (i : Nat) : Nat := if i = 0xFFFF then 1 else i + 1

/-- The restore of class C from its source: 0 Caddy, 1 journal, 2 image defaults (R393). The incarnation number is that
of the source. -/
def State.restoreFrom (s : State) (seg : Option JournalSeg) (caddyBad : Bool) : State × Nat :=
  let good := !s.boot.aonPor && s.hdr.good && !caddyBad
  if good then
    let s1 := if s.hdr.defReq then ({ s with hdr := { s.hdr with defReq := false } }).defaultCaddy else s
    ((s1.wr CDY_STATUS_SRC 0).loadCaddy, nextInc s.hdr.inc)
  else
    match seg with
    | some g =>
      let h : CaddyHdr := { CaddyHdr.blank with good := true, inc := g.inc, seqFloor := g.seqFloor, defReq := g.defReq,
                                                anchor := g.anchor.isSome, finc := (g.anchor.getD (0, 0, 0)).1, rsize := (g.anchor.getD (0, 0, 0)).2.1, rbase := (g.anchor.getD (0, 0, 0)).2.2 }
      let s1 := g.words.foldl (fun (s : State) e => s.putCaddy e.1 e.2) { s with caddy := [], hdr := h }
      ((s1.wr CDY_STATUS_SRC 1).loadCaddy, nextInc (g.recs.getLastD g.inc))
    | none =>
      let s1 := ({ s with caddy := [], hdr := { CaddyHdr.blank with good := true } }).defaultCaddy
      (((s1.wr CDY_STATUS_SRC 2).loadCaddy).wr CDY_STATUS_INCFRESH 1, 1)

/-- The counters that class C holds (R389): 32-bit read-only words. -/
def isCounter (key : Nat) : Bool :=
  match regRow key with
  | some r => key != 0x2004 && r.flds.any fun f => decide (f.cls = .c) && decide (f.acc = .ro) && f.w == 32 && !(0xb0400 ≤ key && key < 0xb0500)
  | none => false

/-- Counts made between the reset and the restore, added to what the journal or the defaults restored (R19, R401): of two
words from R371, the low word's carry goes on to the high word. -/
def State.addEarly (s : State) (early : Sparse Word) : State :=
  let s1 := early.foldl (fun (s : State) (e : Nat × Word) =>
    if !isCounter e.1 then s
    else if 0xe0800 ≤ e.1 ∧ e.1 < 0xe1850 then
      (if e.1 % 8 = 0 then s.count2 ⟨e.1, 0, 32, true⟩ ⟨e.1 + 4, 0, 32, true⟩ e.2.toNat else s.count2 ⟨e.1 - 4, 0, 32, true⟩ ⟨e.1, 0, 32, true⟩ (e.2.toNat <<< 32))
    else s.count ⟨e.1, 0, 32, true⟩ e.2.toNat) s
  let sag := (Sparse.get regReset early PAC_SAGRST_KT.key).toNat
  (s1.count PAC_SAGRST_KT (min (bits sag 0 8) (255 - s1.rd PAC_SAGRST_KT))).count PAC_SAGRST_KB (min (bits sag 8 8) (255 - s1.rd PAC_SAGRST_KB))

/-- The incarnation record (R394): programmed into the newest complete segment; a full one gives way to a new segment
first (R398). -/
def State.recordInc (s : State) (seg : Option JournalSeg) (progOk : Bool) (newSeg : Nat) : State :=
  match seg with
  | none => s
  | some g =>
    let s0 := (s.wr CDY_JSTAT_SEG g.seg).wr CDY_JSTAT_SSEQ g.sseq
    let s1 := { s0 with hdr := { s0.hdr with sseq := g.sseq } }
    if !progOk then ({ s1 with boot := { s1.boot with recordsUsed := g.used } }).raise EV_CDY_JFAIL
    else if 240 ≤ g.used then
      let s2 := ({ s1 with hdr := { s1.hdr with sseq := g.sseq + 1 }, boot := { s1.boot with recordsUsed := 1 } })
      ((s2.wr CDY_JSTAT_SEG newSeg).wr CDY_JSTAT_SSEQ (g.sseq + 1)).raise EV_CDY_SNAP
    else { s1 with boot := { s1.boot with recordsUsed := g.used + 1, snapWanted := s1.boot.snapWanted || decide (128 < g.used + 1) } }

/-- RESTORE_STEP_DONE (R386 to R394): step 3, and the start of step 4 (R101). In test mode only the header of the factory
section is read (R449). -/
def execRestoreStepDone (fac : Option FacRead) (copy : Option TapCopy) (seg : Option JournalSeg) (caddyBad progOk : Bool) (newSeg : Nat) (s : State) :
    Host.Outcome State Fault Refusal :=
  s.done <| s.onB fun s =>
    if s.tmode true then
      match fac with
      | some f => s.showFac f
      | none => s
    else if s.rd IMG_BOOT_STEP ≠ 3 ∨ s.on IMG_BOOT_STOP then s
    else
      let s0 := s.factory fac copy
      let bad := s0.boot.aonPor || !s0.hdr.good || caddyBad
      let (s1a, inc) := s0.restoreFrom seg caddyBad
      let s1 := if bad then s1a.addEarly s0.regs else s1a
      let s2 := ((s1.recount).raiseIf (bad && !s0.boot.aonPor) EV_CDY_CDYBAD)
      let src := s2.rd CDY_STATUS_SRC
      let s3 := (s2.raiseIf (src == 1) EV_CDY_JRESTORE).raiseIf (src == 2) EV_CDY_JNONE
      let s4 := s3.wr CDY_INC_INC inc
      let s5 := { s4 with hdr := { s4.hdr with inc := inc, seqBooted := s4.rd IMG_SEQ }, boot := { s4.boot with aonPor := false } }
      let s6 := (s5.wr IMG_SEQFLOOR s5.hdr.seqFloor).wr CDY_STATUS_DEFREQ (b2n s5.hdr.defReq)
      let s7 := if src = 1 then s6.staleLog else s6
      ((s7.selfFences).recordInc seg progOk newSeg).startTraining

/-! ## Boot steps 5 to 9 (R136, R373) -/

/-- The next shared setting goes to Kalvon-T; one is outstanding at a time (R25, R117). -/
def State.sendShared (s : State) : State :=
  if s.xing.tunnel.any fun t => t.fromB && t.src == 2 then s
  else
    match s.boot.shared with
    | [] => s
    | (key, v, _) :: _ =>
      let w : RegTunnel := { fromB := true, src := 2, write := true }
      let s1 : State := { s with xing := { s.xing with tunnel := s.xing.tunnel ++ [w] } }
      s1.sendT 3 (mkMsg [(0, 8, 0x41), (8, 2, 2), (16, 20, key % tBase), (36, 32, v)])

/-- A shared setting that Kalvon-B has taken, to be sent from boot step 6 on; `old` is what it held (R25 rule 3). -/
def State.shareValue (s : State) (key v old : Nat) : State :=
  if s.rd IMG_BOOT_STEP < 6 then s else ({ s with boot := { s.boot with shared := s.boot.shared ++ [(key, v % 2 ^ 32, old)] } }).sendShared

/-- A setting of Kalvon-B has been written over `old`. -/
def State.shareSetting (s : State) (key : Nat) (old : Word) : State := s.shareValue key (s.word key).toNat old.toNat

/-- Boot step 6 (R373): ROLES for every tile, Kalvon-T's image settings, the operating point and
the settings of which Kalvon-T holds working copies as shared settings (R25), the port-ready bits, and the expected levels from DBASE. -/
def State.rolesStep (s : State) : State :=
  let s1 := (List.range s.tiles).foldl (fun (s : State) t => s.ctlToT 0x08 (pack [(0, 16, t), (16, 32, (s.word (BND_ROLE_TB t).key).toNat)])) s
  let s2 := ((s1.wr BND_STATUS_STATE 8).wr IMG_BOOT_STEP 6).wr PAC_STATUS_OPP (s1.rd PAC_OPPDEF_OPP)
  let set := (s2.boot.tWords.map fun (e : Nat × Word) => (tBase + e.1, e.2.toNat, (regReset (tBase + e.1)).toNat)) ++ [(tBase + 0x6020, s2.rd PAC_OPPDEF_OPP, 0)] ++
    [0x20000, 0x4040, 0x4080, 0x1040].map fun k => (k, (s2.word k).toNat, (s2.word k).toNat)
  let s3 := { s2 with boot := { s2.boot with shared := set }, portsUp := true }
  (List.range 16).foldl (fun (s : State) d => s.wr (PAC_DSTAT_X d) (s.rd (PAC_DOM_DBASE d))) s3.sendShared

/-- Boot step 7 (R61, R151): the optical engines leave reset and enabled links start training. -/
def State.linksStep (s : State) : State :=
  let s1 := ({ s with pins := { s.pins with oemRstN := true } }).wr IMG_BOOT_STEP 7
  (List.range s1.links).foldl (fun (s : State) n => s.tryEnable n) s1

/-- CAPS_ACK (R136): the common capabilities come back unchanged; boot goes on. -/
def execCapsAck (m : XMsg) (s : State) : Host.Outcome State Fault Refusal :=
  s.done <| s.onB fun s =>
    let s1 := s.tookMsgB m
    if s1.bond.capsTries = 0 ∨ s1.rd IMG_BOOT_STEP ≠ 5 ∨ s1.on IMG_BOOT_STOP ∨ (m.data.headD 0).toNat ≠ s1.caps then s1
    else
      let s2 := (s1.wr BND_CAPS s1.caps).wr BND_HLPS_NEG_MIN (min 1 (s1.rd BND_HLPS_PEER_MIN))
      s2.rolesStep.linksStep

/-- A used link has trained, or has failed an attempt (R373 step 8). -/
def State.linkSettled (s : State) (n : Nat) : Bool := !s.on (LNK_EXP_USED n) || s.lst n == 5 || s.lst n == 6 || s.lst n == 7 || 1 ≤ (s.lk n).fails

/-- DISCOVERY_END (R373): every used link is settled, or DISCMAX ms have passed (`late`). A retained tap copy that differs from the factory
taps in use is written (R388). -/
def execDiscoveryEnd (late : Bool) (s : State) : Host.Outcome State Fault Refusal :=
  s.done <| s.onB fun s =>
    if s.rd IMG_BOOT_STEP = 8 ∧ !s.on IMG_BOOT_STOP ∧ (late || (List.range s.links).all fun n => s.linkSettled n) then
      let s1 := ((s.wr IMG_BOOT_STEP 9).wr IMG_BOOT_READY 1).wr IMG_TREADY (s.kclk * 2 / 3125)
      { s1 with boot := { s1.boot with readyAt := s.kclk, copyStale := false, copyOut := if s.boot.copyStale then some (s.boot.taps, s.boot.facMaps) else s.boot.copyOut } }
    else s

/-! ## Caddy in service and the journal (R391, R398) -/

/-- CADDY_SCRUB (R391): the word is clean (0), corrected (1), or uncorrectable (2) and reloaded from the journal: its
registers as (key, value). -/
def execCaddyScrub (found : Nat) (words : List (Nat × Nat)) (s : State) : Host.Outcome State Fault Refusal :=
  s.done <| s.onB fun s =>
    let s0 := { s with boot := { s.boot with scrub := (s.boot.scrub + 1) % 8192 } }
    if found = 1 then s0.raise EV_CDY_SCRUB
    else if found = 2 then
      let s1 := (words.foldl (fun (s : State) w => (s.setCword w.1 (BitVec.ofNat 32 w.2)).setMasked w.1 (retMask w.1) w.2) s0).recount
      let es := ((words.filter fun w => 0x10100000 ≤ w.1 && w.1 < 0x10120000).map fun w => (w.1 - 0x10100000) / 0x20).eraseDups
      (es.filter fun e => s1.logEntries.contains e).foldl (fun (s : State) e => s.breakDst e 0x07 true false) (s1.raise EV_CDY_CDYU)
    else s0

/-- A snapshot starts. -/
def State.startSnap (s : State) : State :=
  ({ s with boot := { s.boot with snapWanted := false } }).wr CDY_JSTAT_BUSY 1

/-- Kalvon-B may write the journal: class C is restored, and Caddy is in use (R449). -/
def State.journalOk (s : State) : Bool := s.restored && !s.tmode true && !s.on CDY_JSTAT_BUSY && !s.caddyShut

/-- JOURNAL_PERIOD_TIMER (R398): JPER after the previous snapshot, or JMIN after it with a snapshot wanted. -/
def execJournalPeriodTimer (s : State) : Host.Outcome State Fault Refusal :=
  s.done <| s.onB fun s =>
    let s1 := { s with boot := { s.boot with snapGap := false } }
    if s1.journalOk then s1.startSnap else s1

/-- CDY_CMD.SNAP (R398). -/
def State.snapCmd (s : State) : State :=
  if s.journalOk && !s.boot.snapGap then s.startSnap else { s with boot := { s.boot with snapWanted := true } }

/-- CDY_CMD.DEFAULT (R393). -/
def State.defaultCmd (s : State) : State :=
  let s1 : State := if s.caddyOpen then { s with hdr := { s.hdr with defReq := true } } else s
  s1.wr CDY_STATUS_DEFREQ 1

/-- SNAPSHOT_DONE (R398): the segment written, or a flash error. -/
def execSnapshotDone (seg : Nat) (ok : Bool) (s : State) : Host.Outcome State Fault Refusal :=
  s.done <| s.onB fun s =>
    if !s.on CDY_JSTAT_BUSY then s
    else
      let s1 := ({ s with boot := { s.boot with snapGap := true } }).wr CDY_JSTAT_BUSY 0
      if ok then
        let q := s1.hdr.sseq + 1
        let h : CaddyHdr := if s1.caddyOpen then { s1.hdr with sseq := q } else s1.hdr
        let s2 : State := { s1 with hdr := h, boot := { s1.boot with recordsUsed := 0 } }
        ((s2.wr CDY_JSTAT_SEG seg).wr CDY_JSTAT_SSEQ q).raise EV_CDY_SNAP
      else ({ s1 with boot := { s1.boot with snapWanted := true } }).raise EV_CDY_JFAIL

/-- A write of SEQFLOOR; a lower value is ignored (R383). -/
def State.seqFloorWrite (s : State) (v : Nat) : State :=
  if v < s.rd IMG_SEQFLOOR then s
  else
    let s1 : State := if s.caddyOpen then { s with hdr := { s.hdr with seqFloor := v } } else s
    s1.wr IMG_SEQFLOOR v

/-! ## The flash window (R400) -/

/-- The window refuses an address in the slot booted, in the factory section outside test mode, or in the journal. -/
def State.flashRefused (s : State) (addr : Nat) : Bool :=
  let booted := 3 ≤ s.rd IMG_BOOT_STEP
  (booted && (if s.on IMG_BCTL_CUR then 0x400000 ≤ addr && addr < 0x800000 else addr < 0x400000)) ||
  (0x800000 ≤ addr && addr < 0x840000 && !s.tmode true) || (0x840000 ≤ addr && addr < 0x940000)

/-- Window commands wait while Kalvon-B reads the flash in boot steps 2 and 3 (R400). -/
def State.flashWaits (s : State) : Bool := (s.rd IMG_BOOT_STEP == 2 || s.rd IMG_BOOT_STEP == 3) && !s.on IMG_BOOT_STOP && !s.tmode true

/-- A window command refused. -/
def State.flashRefuse (s : State) : State := (s.wr IMG_FSTAT_RES 1).raise EV_IMG_FREFUSE

/-- A window command: 1 read, 2 program, 3 erase. One at a time: a command while BUSY is ignored. One that waits is refused, if it is,
when it executes. -/
def State.flashCmd (s : State) (op : Nat) : State :=
  let a := s.rd IMG_FADDR_ADDR / 4 * 4
  if op = 0 ∨ s.on IMG_FSTAT_BUSY then s
  else if !s.flashWaits && s.flashRefused a then s.flashRefuse
  else ({ s with boot := { s.boot with windowOp := op, windowAddr := a } }).wr IMG_FSTAT_BUSY 1

/-- FLASH_CMD_DONE (R400): with the word that a read returned. No command is done while the window waits. -/
def execFlashCmdDone (data : Nat) (ok : Bool) (s : State) : Host.Outcome State Fault Refusal :=
  s.done <| s.onB fun s =>
    if !s.on IMG_FSTAT_BUSY ∨ s.flashWaits then s
    else
      let s1 := s.wr IMG_FSTAT_BUSY 0
      if s.flashRefused s.boot.windowAddr then s1.flashRefuse
      else if ok then (if s1.boot.windowOp = 1 then s1.wr IMG_FDATA data else s1).wr IMG_FSTAT_RES 0
      else (s1.wr IMG_FSTAT_RES 2).raise EV_IMG_FERR

end Sys2Proof.Machine
end

