-- ==== Sys2Proof/Machine/Liveness.lean ====
section
/-!
DEFINITION. The timed commands of faults and spares (chapter 16 of spec/): heartbeats and the liveness of neighbours
(R439, R440) and the tracker's clock (R435). Bank spares (R437) are in Ecc.lean.
-/
namespace Sys2Proof.Machine

/-! ## Liveness (R439, R440) -/

/-- A heartbeat (R439). -/
def hbMsg (fna inc seq flags : Nat) : Unit128 :=
  BitVec.ofNat 128 (pack [(0, 8, 0x10), (8, 24, fna), (32, 16, inc), (48, 32, seq), (80, 8, flags)])

/-- The flags of a heartbeat. -/
def State.hbFlags (s : State) : Nat :=
  pack [(0, 1, s.rd IMG_BOOT_READY), (1, 1, b2n s.held), (2, 1, s.rd RTE_STAT_SELF), (3, 1, s.rd TIM_STATUS_STALE),
        (4, 1, s.rd GLB_FENCE_TRAFFIC), (5, 1, s.rd PAC_STATUS_TRIP)]

/-- HB_TIMER (R439). -/
def execHbTimer (n : Nat) (s : State) : Host.Outcome State Fault Refusal :=
  onLink n s fun s =>
    if s.linkUp n then
      let q := (s.lk n).hbTx
      (s.lmod n fun l => { l with hbTx := (q + 1) % 2 ^ 32 }).sendByp n (hbMsg s.fna s.inc q s.hbFlags)
    else s

/-- ARG of the liveness alarms (R447). -/
def hbArg (n fna : Nat) : Option Nat := some (n * 2 ^ 24 + fna % 2 ^ 24)

/-- The neighbour's FNA by the session. -/
def State.neighbour (s : State) (n : Nat) : Nat := match (s.lk n).session with
  | some (fna, _, _) => fna
  | none => 0

/-- HB (R439, R440): a heartbeat of the session's identity is accepted. With no session there is no identity to
compare with, and it is ignored (a reading). -/
def execHb (n fna inc seq flags : Nat) (s : State) : Host.Outcome State Fault Refusal :=
  onLink n s fun s =>
    let s0 := s.dropByp n 0x10
    match (s0.lk n).session with
    | none => s0
    | some (f, _, i) =>
      if f ≠ fna ∨ i ≠ inc then s0.raise EV_TELF_HBFOREIGN (hbArg n fna)
      else
        let s1 := ((s0.wr (LNK_LIVE_STATE n) 1).wr (LNK_LIVE_FLAGS n) flags).wr (LNK_HBSEQ n) seq
        s1.raiseIf (s0.rd (LNK_LIVE_STATE n) == 3) EV_TELF_HEARD (hbArg n f)

/-- The neighbour becomes SUSPECT. -/
def State.suspect (s : State) (n : Nat) : State :=
  if s.rd (LNK_LIVE_STATE n) = 1 then (s.wr (LNK_LIVE_STATE n) 2).raise EV_TELF_SUSPECT (hbArg n (s.neighbour n)) else s

/-- SILENCE_SUSPECT (R440). -/
def execSilenceSuspect (n : Nat) (s : State) : Host.Outcome State Fault Refusal := onLink n s fun s => s.suspect n

/-- SILENCE_UNREACHABLE (R440): its threshold is never below that of SUSPECT, so a neighbour that is still ALIVE becomes
SUSPECT first. -/
def execSilenceUnreachable (n : Nat) (s : State) : Host.Outcome State Fault Refusal :=
  onLink n s fun s =>
    let s1 := s.suspect n
    if s1.rd (LNK_LIVE_STATE n) = 2 then (s1.wr (LNK_LIVE_STATE n) 3).raise EV_TELF_UNREACH (hbArg n (s.neighbour n)) else s1

/-! ## The tracker's clock (R435) -/

/-- Residence of an entry in all bands, in units of 10 ms. -/
def State.residence (s : State) (e : Nat) : Nat := (List.range 8).foldl (fun a b => a + s.rd (TEL_TBIN_RES e b)) 0

/-- One entry's residence, and its age in seconds. -/
def State.ageEntry (s : State) (e : Nat) : State :=
  let s1 := s.countSat (TEL_TBIN_RES e (s.band (s.homeSensor (s.rd (TEL_TRID_RID e)))))
  s1.wr (TEL_TCNT_AGE e) (clampTop 255 (s1.residence e / 100))

/-- TRACKER_RESIDENCE_TICK (R435). -/
def execTrackerResidenceTick (s : State) : Host.Outcome State Fault Refusal :=
  s.done <| s.onB fun s => s.track.foldl (fun (s : State) e => s.ageEntry e) s

/-- TRACKER_AGE_EXPIRY (R435): an entry whose age is MWIN is freed. -/
def execTrackerAgeExpiry (e : Nat) (s : State) : Host.Outcome State Fault Refusal :=
  s.done <| s.onB fun s => if s.track.contains e && decide (max 1 (s.rd TEL_FCTL_MWIN) ≤ s.rd (TEL_TCNT_AGE e)) then s.trackFree e else s

/-- A marginal list entry freed (R442). -/
def State.margClear (s : State) (m : Nat) : State :=
  (((s.wr (TEL_MARG_VALID m) 0).wr (TEL_MARG_CAUSE m) 0).wr (TEL_MARG_REPL m) 0).wr (TEL_MARG_RID m) 0

end Sys2Proof.Machine
end

