-- ==== Sys2Proof/Machine/Convert.lean ====
section
/-!
DEFINITION. Blend's number formats (R301 to R305, R313 to R315): elements into exact addends, and accumulators into rounded
elements.
-/
namespace Sys2Proof.Machine

/-! ## Input formats (R301) -/

/-- A floating-point format: exponent bits, mantissa bits, bias. -/
structure FFmt where
  e : Nat
  m : Nat
  bias : Nat
  deriving DecidableEq, Repr

/-- The floating-point formats by code. -/
def ffmt (c : Nat) : Option FFmt :=
  if c = 0 then some ⟨8, 23, 127⟩ else if c = 1 then some ⟨8, 7, 127⟩ else if c = 2 then some ⟨5, 10, 15⟩
  else if c = 3 then some ⟨4, 3, 7⟩ else if c = 4 then some ⟨5, 2, 15⟩ else if c = 5 then some ⟨3, 2, 3⟩
  else if c = 6 then some ⟨2, 3, 1⟩ else if c = 7 then some ⟨2, 1, 1⟩ else none

/-- Bits of an element. -/
def fmtBits (c : Nat) : Nat :=
  if c = 0 ∨ c = 0xA then 32 else if c = 1 ∨ c = 2 then 16 else if c = 5 ∨ c = 6 then 6 else if c = 7 then 4 else 8

/-- A block-scaled format. -/
def scaled (c : Nat) : Bool := c == 5 || c == 6 || c == 7 || c == 9

/-- Bytes of a block: a scale byte and 32 packed elements (R309). -/
def blockBytes (c : Nat) : Nat := 1 + 4 * fmtBits c

/-- What an element says: NaN, an infinity, or (−1)^neg × g × 2^x. -/
inductive Elem where
  | nan
  | inf (neg : Bool)
  | fin (neg : Bool) (g : Nat) (x : Int)
  deriving DecidableEq, Repr

/-- An element of a floating-point format (R301, R302); E4M3 has NaN only at E = 15, M = 7; block-scaled formats have neither
NaN nor infinity. -/
def readFloat (c : Nat) (f : FFmt) (raw : Nat) : Elem :=
  let neg := bitAt raw (f.e + f.m)
  let e := bits raw f.m f.e
  let m := bits raw 0 f.m
  if !scaled c && c == 3 && e == 15 && m == 7 then .nan
  else if !scaled c && c != 3 && e == 2 ^ f.e - 1 then (if m = 0 then .inf neg else .nan)
  else if e = 0 then .fin neg m (1 - (f.bias : Int) - f.m)
  else .fin neg (2 ^ f.m + m) ((e : Int) - f.bias - f.m)

/-- An element of format c with its block's scale byte (127 for a plain format): the scale 0xFF makes it NaN, and a scaled
magnitude of 2^128 or more is the infinity of its sign (R302, R303). The flag says that this happened. -/
def readElem (c raw scale : Nat) : Elem × Bool :=
  let base := match ffmt c with
    | some f => readFloat c f raw
    | none => let v := sgn (fmtBits c) raw; .fin (decide (v < 0)) v.natAbs 0
  if !scaled c then (base, false)
  else if scale = 0xFF then (.nan, false)
  else
    match base with
    | .fin neg g x =>
      let y := x + (scale : Int) - 127
      if g ≠ 0 ∧ (128 : Int) ≤ y + g.log2 then (.inf neg, true) else (.fin neg g y, false)
    | .nan => (.nan, false)
    | .inf neg => (.inf neg, false)

/-! ## Elements of a tile (R309) -/

/-- Elements in `len` bytes of a format; none when they are not whole. -/
def elemCount (c len : Nat) : Option Nat :=
  if scaled c then (if len % blockBytes c = 0 then some (32 * (len / blockBytes c)) else none)
  else if len % (fmtBits c / 8) = 0 then some (len / (fmtBits c / 8)) else none

/-- The raw bits and the scale byte of each element of a payload. -/
def elems (c : Nat) (data : List Byte) : List (Nat × Nat) :=
  let w := fmtBits c
  if scaled c then
    let k := blockBytes c
    (List.range (data.length / k)).flatMap fun b =>
      let blk := (data.drop (k * b)).take k
      let x := ofBytes ((blk.drop 1).map (·.toNat))
      (List.range 32).map fun j => (bits x (w * j) w, (blk.headD 0).toNat)
  else
    (List.range (data.length / (w / 8))).map fun i => (ofBytes (((data.drop (w / 8 * i)).take (w / 8)).map (·.toNat)), 127)

/-! ## Accumulators (R298, R299, R304, R305) -/

/-- L is −149 for a wide accumulator and −24 for a narrow one; this is −L. -/
def accFrac (narrow : Bool) : Nat := if narrow then 24 else 149

/-- INFV. -/
def infv (narrow : Bool) : Int := if narrow then 2 ^ 86 else 2 ^ 307

/-- The identity of an operation; w is the width of an element for OR and AND. -/
def identity (op : Nat) (narrow : Bool) : BAcc :=
  { nan := false, pinf := false, ninf := false,
    v := if op = 1 then - infv narrow else if op = 2 then infv narrow
         else if op = 5 then (if narrow then 2 ^ 8 - 1 else 2 ^ 32 - 1) else 0 }

/-- The addend of a finite element in units of the accumulator's bit 0; exact in the combinations of R300. -/
def addend (narrow : Bool) (neg : Bool) (g : Nat) (x : Int) : Int :=
  let a : Int := g * 2 ^ (x + accFrac narrow).toNat
  if neg then -a else a

/-- An element combined into an accumulator (R304, R305), and whether INCLAMP is set. -/
def combine (op ifmt : Nat) (narrow : Bool) (a : BAcc) (raw scale : Nat) : BAcc × Bool :=
  if op = 4 then ({ a with v := ((a.v.toNat ||| raw : Nat) : Int) }, false)
  else if op = 5 then ({ a with v := ((a.v.toNat &&& raw : Nat) : Int) }, false)
  else
    let (e, clamp) := readElem ifmt raw scale
    if op = 3 then ((if e = .nan then a else { a with v := a.v + 2 ^ accFrac narrow }), false)
    else
      match e with
      | .nan => ({ a with nan := true }, false)
      | .inf neg =>
        if op = 0 then ((if neg then { a with ninf := true } else { a with pinf := true }), clamp)
        else
          let x := if neg then - infv narrow else infv narrow
          ({ a with v := if op = 1 then max a.v x else min a.v x }, clamp)
      | .fin neg g x =>
        let y := addend narrow neg g x
        ({ a with v := if op = 0 then a.v + y else if op = 1 then max a.v y else min a.v y }, false)

/-! ## Rounding (R314, R315) -/

/-- RV of an element (R315). -/
def roundValue (seed scyc otile elem : Nat) : Nat :=
  let m := 2 ^ 64
  let z0 := (seed * 2 ^ 32 + otile * 2 ^ 16 + elem) % m
  let z1 := z0 ^^^ (scyc * 0x9E3779B97F4A7C15 % m)
  let z2 := (z1 ^^^ (z1 >>> 30)) * 0xBF58476D1CE4E5B9 % m
  let z3 := (z2 ^^^ (z2 >>> 27)) * 0x94D049BB133111EB % m
  let z4 := z3 ^^^ (z3 >>> 31)
  z4 >>> 32

/-- A magnitude of `n` units rounded to a multiple of 2^sh units (R314); the result is in multiples of 2^sh. -/
def roundMag (n sh : Nat) (stochastic : Bool) (rv : Nat) : Nat :=
  let a := n >>> sh
  let r := n % 2 ^ sh
  if r = 0 then a
  else if stochastic then (if rv < (r <<< 32) >>> sh then a + 1 else a)
  else if 2 * r < 2 ^ sh then a
  else if 2 ^ sh < 2 * r then a + 1
  else a + a % 2

/-- A result of an emission: the element's bits, and whether OUTRANGE is set (R313). -/
abbrev Emitted := Nat × Bool

/-- Largest finite, infinity and NaN of a floating-point output format, without sign. -/
def floatTop (c : Nat) (f : FFmt) : Nat := if c = 3 then 0x7E else (2 ^ f.e - 1) <<< f.m - 1

def floatInf (c : Nat) (f : FFmt) : Nat := if c = 3 then 0x7F else (2 ^ f.e - 1) <<< f.m

def floatNan (c : Nat) (f : FFmt) : Nat := if c = 3 then 0x7F else (2 ^ f.e - 1) <<< f.m + 2 ^ (f.m - 1)

/-- A finite value V × 2^L, V not 0, into a floating-point format: its magnitude bits, or none when it overflows. -/
def floatMag (c : Nat) (f : FFmt) (n frac : Nat) (stochastic : Bool) (rv : Nat) : Option Nat :=
  let qmin : Int := 1 - (f.bias : Int) - f.m
  -- the spacing is 2^q: the mantissa of the binade of n, or that of the subnormals
  let q : Int := max ((n.log2 : Int) - frac - f.m) qmin
  let sh : Int := q + frac
  let r0 := if 0 ≤ sh then roundMag n sh.toNat stochastic rv else n <<< (-sh).toNat
  let r := if r0 = 2 ^ (f.m + 1) then 2 ^ f.m else r0
  let q1 := if r0 = 2 ^ (f.m + 1) then q + 1 else q
  if r < 2 ^ f.m then some r
  else
    let mag := ((q1 - qmin + 1).toNat) <<< f.m + (r - 2 ^ f.m)
    if mag ≤ floatTop c f then some mag else none

/-- An accumulator into an element of the output format (R313). -/
def emitElem (op ofmt : Nat) (narrow sat stochastic : Bool) (rv : Nat) (a : BAcc) : Emitted :=
  if op = 4 ∨ op = 5 then (a.v.toNat % 2 ^ fmtBits ofmt, false)
  else
    let nan := a.nan || (a.pinf && a.ninf)
    let pinf := a.pinf || decide (a.v = infv narrow)
    let ninf := a.ninf || decide (a.v = - infv narrow)
    match ffmt ofmt with
    | some f =>
      let sign := 2 ^ (f.e + f.m)
      let inf := if sat then floatTop ofmt f else floatInf ofmt f
      if nan then (floatNan ofmt f, false)
      else if pinf then (inf, false)
      else if ninf then (sign + inf, false)
      else if a.v = 0 then (0, false)
      else
        let s := if a.v < 0 then sign else 0
        match floatMag ofmt f a.v.natAbs (accFrac narrow) stochastic rv with
        | some 0 => (0, false)
        | some m => (s + m, false)
        | none => (s + inf, true)
    | none =>
      let w := fmtBits ofmt
      let top : Int := 2 ^ (w - 1) - 1
      if nan then (0, true)
      else if pinf then (unsgn w top, true)
      else if ninf then (unsgn w (-top - 1), true)
      else
        let r : Int := (roundMag a.v.natAbs (accFrac narrow) stochastic rv : Nat)
        let x := if a.v < 0 then -r else r
        if top < x then (unsgn w top, true) else if x < -top - 1 then (unsgn w (-top - 1), true) else (unsgn w x, false)

end Sys2Proof.Machine
end

