-- ==== Sys2Proof/Machine/ProgOps.lean ====
section
/-!
DEFINITION. What the subsystems share of collective programs (R326 to R328, R339, R340, R343): states, registers, contexts,
waits and wakes.
-/
namespace Sys2Proof.Machine

def State.px (s : State) (p : Nat) : ProgX := Sparse.get (fun _ => ProgX.reset) s.prog p

def State.setPx (s : State) (p : Nat) (x : ProgX) : State := { s with prog := Sparse.set (fun _ => ProgX.reset) s.prog p x }

/-- The state of a program (R326): 0 IDLE, 1 READY, 2 RUN, 3 WAIT, 4 DONE, 5 FAULT, 6 STOPPED. -/
def State.pst (s : State) (p : Nat) : Nat := s.rd (BLD_PRG_B_STATE p)

/-- A program in READY, RUN or WAIT. -/
def activeSt (st : Nat) : Bool := st == 1 || st == 2 || st == 3

/-- A new state of a program with its WAIT code; ACTIVE counts the programs in READY, RUN or WAIT. -/
def State.setPst (s : State) (p st wait : Nat) : State :=
  let was := activeSt (s.pst p)
  let s1 := (s.wr (BLD_PRG_B_STATE p) st).wr (BLD_PINFO_WAIT p) wait
  if activeSt st && !was then s1.wr BLD_PSTAT_ACTIVE (s1.rd BLD_PSTAT_ACTIVE + 1)
  else if was && !activeSt st then s1.wr BLD_PSTAT_ACTIVE (s1.rd BLD_PSTAT_ACTIVE - 1)
  else s1

/-- Register Gi of a program. -/
def State.gReg (s : State) (p i : Nat) : Nat := s.rd2 (BLD_PG_LO p i) (BLD_PG_HI p i)

/-- All register arithmetic is modulo 2^64 (R328). -/
def State.setG (s : State) (p i v : Nat) : State := s.wr2 (BLD_PG_LO p (i % 16)) (BLD_PG_HI p (i % 16)) (v % 2 ^ 64)

/-- Programs with state of their own. -/
def State.programs (s : State) : List Nat := (s.prog.map fun (e : Nat × ProgX) => e.1).filter fun p => p < 4096

/-- The context of a program is released (R340). -/
def State.releaseCtx (s : State) (p : Nat) : State :=
  match (s.px p).ctx with
  | some c =>
    let s1 := ((s.wr (BLD_CTX_VALID (c % 256)) 0).wr (BLD_CTX_PROG (c % 256)) 0).wr BLD_PSTAT_CTX (s.rd BLD_PSTAT_CTX - 1)
    s1.setPx p { s1.px p with ctx := none }
  | none => s

/-- The program ends in DONE, FAULT or STOPPED and releases its context. -/
def State.endProg (s : State) (p st : Nat) : State :=
  let s1 := (s.setPst p st 0).releaseCtx p
  s1.setPx p { s1.px p with woke := none, stopping := false }

/-- A fault (R327). -/
def State.progFault (s : State) (p cause : Nat) : State := ((s.wr (BLD_PINFO_FAULT p) cause).endProg p 5).raise EV_PRG_PFAULT

/-- A wait starts; a program that gives up its context does so at once. -/
def State.progWait (s : State) (p wait : Nat) (keep : Bool) (x : ProgX → ProgX) : State :=
  let s1 := (s.setPst p 3 wait).setPx p (x (s.px p))
  if keep then s1 else s1.releaseCtx p

/-- A wait ends: a program in a context runs on, another becomes READY. `due` is the instant that ended the wait. -/
def State.progReady (s : State) (p : Nat) (due : Option Nat) : State :=
  let x := s.px p
  if x.stopping then s.endProg p 6
  else
    let y := { x with woke := (if x.ctx.isNone then due.map fun i => (i, s.kclk) else none), wakeK := due.map fun _ => s.kclk, since := s.kclk }
    let s1 := (s.setPx p y).trace 7 2
    if x.ctx.isSome then s1.setPst p 2 0 else s1.setPst p 1 8

/-- The barrier instant of BARID is reached: the programs that wait on it wake in ascending order, unless the instant was reached
before their wait began (R331, R343); one that realigns takes its realign point (R289, R339, R343). -/
def State.wakeBarrier (s : State) (bar inst : Nat) : State :=
  (s.programs.filter fun p => s.pst p == 3 && (s.px p).obj == bar && decide ((s.px p).inst < inst) && (s.rd (BLD_PINFO_WAIT p) == 2 || s.rd (BLD_PINFO_WAIT p) == 9)).foldl
    (fun (s : State) p =>
      if s.rd (BLD_PINFO_WAIT p) = 2 then (s.setG p (s.px p).d inst).progReady p (some inst)
      else ((s.setG p (s.rd (BLD_PRLN_REG p)) inst).wr (BLD_PINFO_PC p) (s.rd (BLD_PRLN_TARGET p))).progReady p (some inst)) s

/-- A descriptor has come to FULL, ERROR or FREE: the programs in RECV on it go on (R331, R343). -/
def State.wakeRecv (s : State) (rd st : Nat) : State :=
  (s.programs.filter fun p => s.pst p == 3 && s.rd (BLD_PINFO_WAIT p) == 3 && (s.px p).obj == rd).foldl
    (fun (s : State) p => (s.setG p (s.px p).d st).progReady p none) s

/-- A command or a wait of a program ends with a result in G[D]. -/
def State.progDone (s : State) (p v : Nat) : State := (s.setG p (s.px p).d v).progReady p none

/-- A program waits with a WAIT code. -/
def State.progWaits (s : State) (p wait : Nat) : Bool := s.pst p == 3 && s.rd (BLD_PINFO_WAIT p) == wait

/-- The preload lead in KCLK (R340); 0 acts as 1. -/
def State.pre (s : State) : Nat := 16 * max 1 (s.rd BLD_PCTL_PRE)

end Sys2Proof.Machine
end

