-- ==== Sys2Proof/Machine/Blend.lean ====
section
/-!
DEFINITION. Blend (chapter 11 of spec/): descriptors and their commands, tiles at the Blend input, emissions, shadow compare
and lane retirement.
-/
namespace Sys2Proof.Machine

def State.bmod (s : State) (f : BlendSt → BlendSt) : State := { s with blend := f s.blend }

/-! ## Descriptors (R306) -/

/-- A descriptor's state: 0 FREE, 1 INIT, 2 ACCUM, 3 FULL, 4 EMIT, 5 ERROR. -/
def State.dst (s : State) (d : Nat) : Nat := s.rd (BLD_RD_CFG_STATE d)

/-- A new state; ARMED counts the descriptors that are not FREE, and RECV ends in FULL, ERROR and FREE. -/
def State.setDst (s : State) (d st : Nat) : State :=
  let s1 := s.wr (BLD_RD_CFG_STATE d) st
  let s2 := s1.wr BLD_STATUS_ARMED ((List.range 256).filter fun i => s1.dst i != 0).length
  if st = 3 ∨ st = 5 ∨ st = 0 then s2.wakeRecv d st else s2

def State.narrowD (s : State) (d : Nat) : Bool := s.on (BLD_RD_CFG_ACC d)

/-- The accumulator of an offset; a position not listed holds the identity of the descriptor's operation. -/
def State.acc (s : State) (d k : Nat) : BAcc :=
  let n := s.narrowD d
  let p := s.rd (BLD_RD_BASE_BASE d) + k
  Sparse.get (fun _ => identity (s.rd (BLD_RD_CFG_OP d)) n) (if n then s.blend.narrow else s.blend.wide) p

def State.setAcc (s : State) (d k : Nat) (a : BAcc) : State :=
  let n := s.narrowD d
  let p := s.rd (BLD_RD_BASE_BASE d) + k
  let id := identity (s.rd (BLD_RD_CFG_OP d)) n
  if n then s.bmod fun b => { b with narrow := Sparse.set (fun _ => id) b.narrow p a }
  else s.bmod fun b => { b with wide := Sparse.set (fun _ => id) b.wide p a }

/-- Every position of a descriptor at the identity (R307). -/
def State.clearAcc (s : State) (d : Nat) : State :=
  let lo := s.rd (BLD_RD_BASE_BASE d)
  let hi := lo + s.rd (BLD_RD_COUNT_COUNT d)
  let keep := fun (e : Nat × BAcc) => decide (e.1 < lo) || decide (hi ≤ e.1)
  if s.narrowD d then s.bmod fun b => { b with narrow := b.narrow.filter keep } else s.bmod fun b => { b with wide := b.wide.filter keep }

/-- The combinations of R300, without reserved codes. -/
def comboOk (op ifmt ofmt rnd : Nat) (narrow : Bool) : Bool :=
  let outs := [0, 1, 2, 3, 4, 8, 0xA]
  decide (rnd ≤ 1) && decide (ifmt ≤ 0xA) &&
    (if op ≤ 2 then (!narrow || [2, 3, 4, 8].contains ifmt) && outs.contains ofmt
     else if op = 3 then outs.contains ofmt
     else if op ≤ 5 then (narrow && ifmt == 8 && ofmt == 8) || (!narrow && ifmt == 0xA && ofmt == 0xA)
     else false)

/-- Positions of a store line at a width. -/
def lineOf (narrow : Bool) (p : Nat) : Nat := p / (if narrow then 6144 else 2048)

/-- Two descriptors cannot be armed together (R307 reason 4): they overlap, or share a store line at different widths. -/
def State.clash (s : State) (d e : Nat) : Bool :=
  let lo := fun i => s.rd (BLD_RD_BASE_BASE i)
  let hi := fun i => s.rd (BLD_RD_BASE_BASE i) + s.rd (BLD_RD_COUNT_COUNT i) - 1
  if s.narrowD d = s.narrowD e then decide (lo d ≤ hi e) && decide (lo e ≤ hi d)
  else
    let l := fun i => (lineOf (s.narrowD i) (lo i), lineOf (s.narrowD i) (hi i))
    decide ((l d).1 ≤ (l e).2) && decide ((l e).1 ≤ (l d).2)

/-- The reason for which ARM is refused; 0 for none (R307). -/
def State.armReason (s : State) (d : Nat) : Nat :=
  let n := s.narrowD d
  let base := s.rd (BLD_RD_BASE_BASE d)
  let count := s.rd (BLD_RD_COUNT_COUNT d)
  if s.dst d ≠ 0 then 1
  else if !comboOk (s.rd (BLD_RD_CFG_OP d)) (s.rd (BLD_RD_CFG_IFMT d)) (s.rd (BLD_RD_CFG_OFMT d)) (s.rd (BLD_RD_CFG_RND d)) n then 2
  else if count = 0 ∨ (if n then 196608 else 65536) < base + count then 3
  else if (List.range 256).any fun e => e != d && s.dst e != 0 && s.clash d e then 4
  else if s.rd (BLD_RD_EXPECT d) = 0 then 5
  else 0

/-! ## Store rows (R297, R319) -/

/-- Row r of the store, as 2,048 × store line + lane, holds one of the positions `lo` to `lo` + n − 1 (R297). -/
def rowHolds (narrow : Bool) (lo n r : Nat) : Bool :=
  if narrow then (List.range 3).any fun j => let q := r / 2048 * 6144 + j * 2048 + r % 2048; decide (lo ≤ q ∧ q < lo + n)
  else decide (lo ≤ r ∧ r < lo + n)

/-- A descriptor that is not FREE uses a row. -/
def State.usesRow (s : State) (r d : Nat) : Bool :=
  s.dst d != 0 && rowHolds (s.narrowD d) (s.rd (BLD_RD_BASE_BASE d)) (s.rd (BLD_RD_COUNT_COUNT d)) r

/-- Rows with an error among those of `n` positions of a descriptor from offset k. -/
def State.badRows (s : State) (d k n : Nat) : List (Nat × Nat) :=
  (s.ecc.words.filter fun (e : Nat × Nat) => e.1 / 2 ^ 24 == 3 && rowHolds (s.narrowD d) (s.rd (BLD_RD_BASE_BASE d) + k) n (e.1 % 2 ^ 24)).map fun (e : Nat × Nat) => (e.1 % 2 ^ 24, e.2)

/-- ARM and CLEAR rewrite every row of a descriptor's span. -/
def State.freshRows (s : State) (d : Nat) : State :=
  (s.badRows d 0 (s.rd (BLD_RD_COUNT_COUNT d))).foldl (fun (s : State) (e : Nat × Nat) => s.setEcc 3 e.1 0) s

/-- An emission of a descriptor whose row fails ends without its tiles that no one has taken; the result that its program
gets is given nowhere: it is a free value (assumption 3). -/
def State.dropEmits (s : State) (d : Nat) : State :=
  (s.blend.emits.filter fun e => e.cmd.rd == d).foldl (fun (s : State) e =>
    let s1 := s.bmod fun b => { b with emits := eraseOne e b.emits, offered := b.offered.filter fun o => match o with
      | .cvt rd _ _ _ _ => rd != d
      | .net _ => true }
    match e.cmd.prog with
    | some p =>
      let s2 : State := { s1 with dlv := { s1.dlv with waiting := s1.dlv.waiting.filter fun (w : TileFrom × SrcTile) => w.1 != .prog p } }
      let (v, s3) := s2.draw 64
      s3.progDone p v
    | none => s1) s

/-- A row failed: a descriptor that uses it enters ERROR with ERRC = 2. The commands that waited for it can start then (drainCmds). -/
def State.rowFail (s : State) (d : Nat) : State :=
  if s.dst d = 5 then s else ((s.dropEmits d).wr (BLD_RD_SCYC_HI_ERRC d) 2).setDst d 5

/-- Rows are read: a single-bit error is corrected with STOREC; another sets STOREU and stops every descriptor that uses
the row. The flag says that a row failed. -/
def State.readRows (s : State) (d k n : Nat) : State × Bool :=
  let rows := s.badRows d k n
  let s1 := rows.foldl (fun (s : State) (e : Nat × Nat) =>
    if e.2 = 1 then (s.setEcc 3 e.1 0).raise EV_BLD_STOREC
    else ((List.range 256).filter fun x => s.usesRow e.1 x).foldl (fun (s : State) x => s.rowFail x) (s.raise EV_BLD_STOREU)) s
  (s1, rows.any fun e => e.2 != 1)

/-- INIT is entered: RECV, ERRC and PARTIAL return to 0 (R306, R307). -/
def State.enterInit (s0 : State) (d : Nat) : State :=
  let s := s0.freshRows d
  ((((s.wr (BLD_RD_RECV d) 0).wr (BLD_RD_SCYC_HI_ERRC d) 0).wr (BLD_RD_SCYC_HI_PARTIAL d) 0).clearAcc d).setDst d 1

/-- A write to a configuration field of a descriptor (R306). -/
def State.configWrite (s : State) (d : Nat) (f : State → State) : State := if s.dst d = 0 then f s else s.raise EV_BLD_DREJ

/-! ## Emission (R312, R313, R332, R333, R334) -/

/-- Elements of an output tile. -/
def outTile (ofmt : Nat) : Nat := 4096 / (fmtBits ofmt / 8)

/-- The element at an offset as it is emitted. -/
def State.emitAt (s : State) (d k : Nat) : Emitted :=
  let ofmt := s.rd (BLD_RD_CFG_OFMT d)
  let nt := outTile ofmt
  let scyc := s.rd (BLD_RD_SCYC_LO d) + s.rd (BLD_RD_SCYC_HI_SCYC d) <<< 32
  emitElem (s.rd (BLD_RD_CFG_OP d)) ofmt (s.narrowD d) (s.on (BLD_RD_CFG_SAT d)) (s.rd (BLD_RD_CFG_RND d) == 1)
    (roundValue (s.rd (BLD_RD_SEED d)) scyc (k / nt) (k % nt)) (s.acc d k)

/-- The output tiles of an emission: the offset of the first element of each, and its elements. -/
def State.emitTiles (s : State) (d k0 n : Nat) : List (Nat × List Emitted) :=
  let nt := outTile (s.rd (BLD_RD_CFG_OFMT d))
  if n = 0 then []
  else
    (List.range ((k0 + n - 1) / nt - k0 / nt + 1)).map fun i =>
      let lo := max k0 ((k0 / nt + i) * nt)
      let hi := min (k0 + n) ((k0 / nt + i + 1) * nt)
      (lo, (List.range (hi - lo)).map fun j => s.emitAt d (lo + j))

/-- The bytes of emitted elements, least significant byte first. -/
def emitBytes (ofmt : Nat) (es : List Emitted) : List Byte := es.flatMap fun e => (bytesOf (fmtBits ofmt / 8) e.1).map (BitVec.ofNat 8)

/-- A tile of a template (R332): the element offset is added to USER[17:0]. -/
def State.tplTile (s : State) (t off len : Nat) (data : List Byte) : SrcTile :=
  let user := s.rd (BLD_TPL_D t) + s.rd (BLD_TPL_C_USERH t) <<< 32
  { dst := s.rd (BLD_TPL_A_DST t), flow := s.rd (BLD_TPL_B_FLOW t), part := s.rd (BLD_TPL_B_PART t), len := len, use := s.rd (BLD_TPL_B_USE t),
    usearg := s.rd (BLD_TPL_C_USEARG t), user := setBits user 0 18 (user + off), data := data, tseq := 0, tchk := 0 }

/-- The result with which an emission is refused: 1 or 2 (R312), or 3 for a CVT that cannot be (R334); 0 for none. -/
def State.emitReason (s : State) (c : BCmd) : Nat :=
  if !(s.dst c.rd == 3 || (s.dst c.rd == 2 && c.force)) then 1
  else if s.rd (BLD_RD_COUNT_COUNT c.rd) < c.k0 + c.n then 2
  else if c.op = 5 ∧ (c.to_ = c.rd ∨ s.rd (BLD_RD_CFG_IFMT c.to_) ≠ s.rd (BLD_RD_CFG_OFMT c.rd)) then 3
  else 0

/-- An accepted emission: the tiles go to the tile source or, for CVT, to the Blend input. A template with VALID = 0
refuses every tile. When a row fails nothing is emitted (R319), and the program's result is a free value (assumption 3). -/
def State.emitStart (s : State) (c : BCmd) : State :=
  let d := c.rd
  let prev := s.dst d
  let ofmt := s.rd (BLD_RD_CFG_OFMT d)
  let ts := s.emitTiles d c.k0 c.n
  let (s, failed) := s.readRows d c.k0 c.n
  if failed then
    match c.prog with
    | some p => let (v, s1) := s.draw 64; s1.progDone p v
    | none => s
  else
  let s1 := (if prev = 2 then s.wr (BLD_RD_SCYC_HI_PARTIAL d) 1 else s).setDst d 4
  let s2 := s1.count BLD_EMIT_CNT c.n
  let outs := (ts.flatMap (·.2)).filter (·.2)
  let s3 := outs.foldl (fun (s : State) _ => s.raise EV_BLD_OUTRANGE) s2
  let dead := c.op == 4 && !s3.on (BLD_TPL_A_VALID c.to_)
  let s4 := s3.bmod fun b => { b with emits := b.emits ++ [{ cmd := c, prev := prev, bad := dead && !ts.isEmpty }] }
  if c.op = 5 then
    s4.bmod fun b => { b with offered := b.offered ++ ts.map fun t => .cvt d c.to_ t.1 (s3.rd (BLD_RD_CFG_PART d)) (emitBytes ofmt t.2) }
  else if dead then
    (ts.foldl (fun (s : State) _ => s.raise EV_DLV_REFUSE) s4).setPx (c.prog.getD 0) { s4.px (c.prog.getD 0) with refused := (s4.px (c.prog.getD 0)).refused + ts.length }
  else
    let p := c.prog.getD 0
    { s4 with dlv := { s4.dlv with waiting := s4.dlv.waiting ++ ts.map fun t => (TileFrom.prog p, s4.tplTile c.to_ t.1 (t.2.length * (fmtBits ofmt / 8)) (emitBytes ofmt t.2)) } }

/-! ## Commands (R307, R308) -/

/-- A command refused: DREJ and its reason; a program gets the reason too. -/
def State.cmdRefuse (s : State) (c : BCmd) (reason : Nat) : State :=
  let s1 := if c.op ≤ 3 then (s.raise EV_BLD_DREJ).wr BLD_DSTAT_REASON reason else s
  match c.prog with
  | some p => s1.progDone p reason
  | none => s1

/-- A command of a program ends with 0. -/
def State.cmdOk (s : State) (c : BCmd) : State :=
  match c.prog with
  | some p => s.progDone p 0
  | none => s

/-- Tiles already taken are in the accumulators, so a command takes effect at once; an emission keeps its program waiting. -/
def State.runCmd (s : State) (c : BCmd) : State :=
  let s0 := (if c.op ≤ 3 then s.wr BLD_DSTAT_RD c.rd else s).trace 6 3
  if c.op = 1 then (let r := s0.armReason c.rd; if r = 0 then (s0.enterInit c.rd).cmdOk c else s0.cmdRefuse c r)
  else if c.op = 2 then (if s0.dst c.rd = 2 ∨ s0.dst c.rd = 3 then (s0.enterInit c.rd).cmdOk c else s0.cmdRefuse c 1)
  else if c.op = 3 then (s0.setDst c.rd 0).cmdOk c
  else (let r := s0.emitReason c; if r = 0 then s0.emitStart c else s0.cmdRefuse c r)

/-- A command waits while its descriptor is in INIT or EMIT (R308 rule 2), and an emission while the lanes take no element (R317). -/
def State.cmdWaits (s : State) (c : BCmd) : Bool := s.dst c.rd == 1 || s.dst c.rd == 4 || (decide (4 ≤ c.op) && s.on BLD_STATUS_HOLD)

/-- BUSY: a register command waits. -/
def State.showBusy (s : State) : State := s.wr BLD_DSTAT_BUSY (b2n (s.blend.cmds.any fun c => c.prog.isNone))

/-- The first of some commands to start: programs first, the lowest number first (R308, R338). -/
def nextCmd (cs : List BCmd) : Option BCmd :=
  match (cs.filterMap (·.prog)).foldl (fun (b : Option Nat) p => match b with
      | some q => some (min p q)
      | none => some p) none with
  | some p => cs.find? fun c => c.prog == some p
  | none => cs.head?

/-- The commands that waited and need wait no longer start one after the other (R308). -/
def State.drainLoop : Nat → State → State
  | 0, s => s
  | n + 1, s =>
    match nextCmd (s.blend.cmds.filter fun c => !s.cmdWaits c) with
    | some c => State.drainLoop n (((s.bmod fun b => { b with cmds := eraseOne c b.cmds }).showBusy).runCmd c)
    | none => s

def State.drainCmds (s : State) : State := State.drainLoop s.blend.cmds.length s

/-- A command arrives: it starts or waits. -/
def State.blendCmd (s : State) (c : BCmd) : State :=
  if s.cmdWaits c then
    ((if c.op ≤ 3 then s.wr BLD_DSTAT_RD c.rd else s).bmod fun b => { b with cmds := b.cmds ++ [c] }).showBusy
  else (s.runCmd c).drainCmds

/-- INIT_DONE (R307). -/
def execInitDone (rd : Nat) (s : State) : Host.Outcome State Fault Refusal :=
  s.done <| s.onB fun s =>
    if rd < 256 ∧ s.dst rd = 1 then (s.setDst rd 2).drainCmds else s

/-- Tiles of an emission that no one has taken yet. -/
def State.emitOwes (s : State) (e : BEmit) : Bool :=
  if e.cmd.op = 5 then s.blend.offered.any fun o => match o with
    | .cvt d _ _ _ _ => d == e.cmd.rd
    | .net _ => false
  else s.dlv.waiting.any fun (w : TileFrom × SrcTile) => w.1 == .prog (e.cmd.prog.getD 0)

/-- EMISSION_DONE (R312 rule 5, R333): the last position is read and the last tile taken or refused; not while the lanes take no
element (R317). -/
def execEmissionDone (rd : Nat) (s : State) : Host.Outcome State Fault Refusal :=
  s.done <| s.onB fun s =>
    match takeFirst (fun (e : BEmit) => e.cmd.rd == rd) s.blend.emits with
    | (some e, rest) =>
      if s.emitOwes e || s.on BLD_STATUS_HOLD then s
      else
        let s1 := s.bmod fun b => { b with emits := rest }
        let s2 := if e.cmd.free then s1.setDst rd 0 else if e.cmd.clear then s1.enterInit rd else s1.setDst rd e.prev
        let s3 := match e.cmd.prog with
          | some p => s2.progDone p (if e.bad then 3 else 0)
          | none => s2
        s3.drainCmds
    | (none, _) => s

/-! ## Tiles at the Blend input (R309 to R311) -/

/-- What Blend reads of a tile: descriptor, PART, element offset and payload. -/
def offerTile : BOffer → Nat × Nat × Nat × List Byte
  | .net m => let t := spellTileMsg m; (t.usearg % 256, t.part, t.user % 2 ^ 18, t.data)
  | .cvt _ rdd eoff part data => (rdd, part, eoff, data)

/-- A tile waits while its descriptor is FREE, INIT, FULL or EMIT. -/
def State.offerWaits (s : State) (o : BOffer) : Bool :=
  let d := (offerTile o).1
  !(s.dst d == 2 || s.dst d == 5)

/-- The checks of R310. -/
def State.offerOk (s : State) (o : BOffer) : Bool :=
  let (d, part, eoff, data) := offerTile o
  match elemCount (s.rd (BLD_RD_CFG_IFMT d)) data.length with
  | some n => part == s.rd (BLD_RD_CFG_PART d) && decide (eoff + n ≤ s.rd (BLD_RD_COUNT_COUNT d))
  | none => false

/-- The updates of a tile's elements, in order. -/
def State.update (s : State) (d : Nat) : Nat → List (Nat × Nat) → State
  | _, [] => s
  | k, (raw, scale) :: es =>
    let (a, clamp) := combine (s.rd (BLD_RD_CFG_OP d)) (s.rd (BLD_RD_CFG_IFMT d)) (s.narrowD d) (s.acc d k) raw scale
    State.update ((s.setAcc d k a).raiseIf clamp EV_BLD_INCLAMP) d (k + 1) es

/-- A tile is taken off the Blend input; one from the network is delivered (R223, R310), one of CVT counts for its emission. -/
def State.takeOffer (s : State) (o : BOffer) (good : Bool) : State :=
  let s1 := (s.bmod fun b => { b with offered := eraseOne o b.offered }).count BLD_TILE_CNT
  match o with
  | .net m => s1.deliver m
  | .cvt d _ _ _ _ =>
    if good then s1 else s1.bmod fun b => { b with emits := b.emits.map fun e => if e.cmd.rd = d then { e with bad := true } else e }

/-- A tile discarded. -/
def State.badTile (s : State) (o : BOffer) : State := (s.takeOffer o false).raise EV_BLD_BADTILE

/-- A tile taken in ACCUM or ERROR (R310). One that meets a failed row finds its descriptor in ERROR (R319). -/
def State.absorb (s : State) (o : BOffer) : State :=
  let (d, _, eoff, data) := offerTile o
  if s.dst d = 5 then s.badTile o
  else if !s.offerOk o then ((s.badTile o).wr (BLD_RD_SCYC_HI_ERRC d) 1).setDst d 5
  else
    let es := elems (s.rd (BLD_RD_CFG_IFMT d)) data
    let (s, failed) := s.readRows d eoff es.length
    if failed then s.badTile o
    else
    let s1 := (s.takeOffer o true).update d eoff es
    let s2 := s1.wr (BLD_RD_RECV d) (s1.rd (BLD_RD_RECV d) + 1)
    if s2.rd (BLD_RD_RECV d) = s2.rd (BLD_RD_EXPECT d) then (s2.raise EV_BLD_FULL).setDst d 3 else s2

/-- An offered tile that is no longer the next of its flow goes back to the tile destination (R237). -/
def State.offerStale (s : State) (o : BOffer) : Bool :=
  match o with
  | .net m => s.tileCase m != .next || !s.route.local_.any fun (e : Option Nat × RMsg) => e.2 == m
  | .cvt _ _ _ _ _ => false

/-- A tile may be taken now: while lanes are held (R317) only one that is discarded. -/
def State.offerReady (s : State) (o : BOffer) : Bool :=
  !s.offerWaits o && (!s.on BLD_STATUS_HOLD || s.dst (offerTile o).1 == 5 || !s.offerOk o)

/-- BLEND_TAKE (R311): the oldest ready tile. `ups` are errors that have come about in stored words. -/
def execBlendTake (ups : List Upset) (s : State) : Host.Outcome State Fault Refusal :=
  s.done <| s.onB fun s00 =>
    let s := s00.upset ups
    let s0 := s.bmod fun b => { b with offered := b.offered.filter fun o => !s.offerStale o }
    match s0.blend.offered.find? fun o => s0.offerReady o with
    | some o => (s0.absorb o).drainCmds
    | none => s0

/-- BLEND_TWAIT_EXPIRY (R310): the tile at place k of the offers has waited TWAIT. -/
def execBlendTwaitExpiry (k : Nat) (s : State) : Host.Outcome State Fault Refusal :=
  s.done <| s.onB fun s =>
    match s.blend.offered[k]? with
    | some o => if s.offerWaits o && !s.offerStale o then s.badTile o else s
    | none => s

/-! ## Lanes (R316 to R318) -/

/-- The lane that the spare of a group shadows (R316). -/
def State.shadowTarget (s : State) : Nat := s.kclk / 2 ^ max 6 (s.rd BLD_CTL_SHROT) % 32

/-- A lane is retired (R317, R318): the spare serves its positions if it can, else the other lanes do; never the last. -/
def State.retireLane (s : State) (g l : Nat) : State :=
  if bitAt (s.rd (BLD_LRET g)) l then s
  else if !s.on (BLD_LSPR_SPUSE g) && !s.on (BLD_LSPR_SPOUT g) then
    ((((s.wr (BLD_LRET g) (setBits (s.rd (BLD_LRET g)) l 1 1)).wr (BLD_LSPR_SPUSE g) 1).wr (BLD_LSPR_SPL g) l).raise EV_BLD_LRETIRE)
  else if 31 ≤ s.uncovered g then s.raise EV_BLD_LNOSPARE (some g)
  else (((s.wr (BLD_LRET g) (setBits (s.rd (BLD_LRET g)) l 1 1)).raise EV_BLD_LRETIRE).raise EV_BLD_LNOSPARE (some g)).countDegr

/-- The spare of a group goes out of use; if it serves a lane, the other lanes do (R318), and it stays where it is the
last that works. -/
def State.spareLaneOut (s : State) (g : Nat) : State :=
  let serves := s.on (BLD_LSPR_SPUSE g)
  if s.on (BLD_LSPR_SPOUT g) then s
  else if serves && decide (31 ≤ s.uncovered g) then s.raise EV_BLD_LNOSPARE (some g)
  else (((s.wr (BLD_LSPR_SPOUT g) 1).raise EV_BLD_SPOUT).raiseIf serves EV_BLD_LNOSPARE (some g)).countDegr

/-- A marginal lane's retirement (R436): the lane, if the group's spare can serve it, or the spare, if it serves none; a resource without a
usable spare is only listed. -/
def State.replaceLane (s : State) (rid : Nat) : State :=
  let l := bits rid 0 12
  let g := if l < 2048 then l / 32 else l - 2048
  if l < 2048 then
    if bitAt (s.rd (BLD_LRET g)) (l % 32) then s
    else if s.on (BLD_LSPR_SPUSE g) || s.on (BLD_LSPR_SPOUT g) then s.noSpare rid
    else (s.preempt rid).retireLane g (l % 32)
  else if s.on (BLD_LSPR_SPOUT g) then s
  else if s.on (BLD_LSPR_SPUSE g) then s.noSpare rid
  else (s.preempt rid).spareLaneOut g

/-- SHADOW_MISMATCH (R317): in group g, with the signature of R434; `again` says that the repeated computation agrees. -/
def execShadowMismatch (g sig : Nat) (again : Bool) (s : State) : Host.Outcome State Fault Refusal :=
  s.done <| s.onB fun s =>
    if 64 ≤ g ∨ !s.on BLD_CTL_SHEN ∨ s.on (BLD_LSPR_SPUSE g) ∨ s.on (BLD_LSPR_SPOUT g) ∨ s.on BLD_STATUS_HOLD then s
    else
      let l := s.shadowTarget
      let rid := mkRid 3 (32 * g + l)
      let (s1, marg) := s.tagError rid sig
      if again then (let s2 := s1.raise EV_BLD_SHTRANS; if marg then s2.replaceLane rid else s2)
      else (s1.wr BLD_STATUS_HOLD 1).bmod fun b => { b with held := some (g, l, marg) }

/-- KAT_VERDICT (R317): the verdict of the known-answer tests. The update that is written is the exact one, which a working
lane computes. The emissions that waited start. -/
def execKatVerdict (targetPass sparePass : Bool) (s : State) : Host.Outcome State Fault Refusal :=
  s.done <| s.onB fun s =>
    match s.blend.held with
    | none => s
    | some (g, l, marg) =>
      let s1 := if targetPass && !sparePass then s.spareLaneOut g
        else if !targetPass && !sparePass then (s.spareLaneOut g).retireLane g l
        else s.retireLane g l
      let s2 := (s1.bmod fun b => { b with held := none }).wr BLD_STATUS_HOLD 0
      (if marg then s2.replaceLane (mkRid 3 (32 * g + l)) else s2).drainCmds

end Sys2Proof.Machine
end

