-- ==== Sys2Proof/Machine/Pour.lean ====
section
/-!
DEFINITION. Pour (chapter 10 of spec/): schedule entries, arming, slots and paging, release KCLKs, triggers, barriers and
hints.
-/
namespace Sys2Proof.Machine

def State.omod (s : State) (f : PourSt → PourSt) : State := { s with pour := f s.pour }

/-! ## Entries (R280, R281, R283) -/

/-- The content of an entry's 32 bytes (R280). -/
def spellSched (bs : List Byte) : Sched :=
  let x := ofBytes ((bs.take 32).map (·.toNat))
  { c0 := bits x 0 48, a0 := bits x 48 16, rep := bits x 64 16, rcnt := bits x 80 16, gbase := bits x 96 8, gcntm1 := bits x 104 8,
    flags := bits x 112 8, part := bits x 120 8, emask := bits x 128 16, step := bits x 144 16, work := bits x 160 24,
    barid := bits x 184 8, hdmask := bits x 192 16, hlevel := bits x 208 8, hlead := bits x 216 8 }

def Sched.trig (c : Sched) : Bool := bitAt c.flags 0
def Sched.pattern (c : Sched) : Nat := bits c.flags 1 2
def Sched.bar (c : Sched) : Bool := bitAt c.flags 3
def Sched.hint (c : Sched) : Bool := bitAt c.flags 4
/-- G, the triggers of a repetition. -/
def Sched.groups (c : Sched) : Nat := c.gcntm1 + 1

/-- The check of an entry's bytes (R281): the first reason among 1, 2, 3 and 4. -/
def State.checkSched (s : State) (bs : List Byte) : Option Nat :=
  let c := spellSched bs
  let x := (bs.take 32).map (·.toNat)
  if crc16 (x.take 28) ≠ ofBytes ((x.drop 28).take 2) then some 1
  else if !c.trig then none
  else if c.pattern = 3 ∨ (1 ≤ c.gcntm1 ∧ c.step = 0) ∨ 2048 < c.step ∨ 2048 < c.gcntm1 * c.step ∨
      (c.pattern = 2 ∧ !([1, 2, 4, 8, 16, 32, 64, 128, 256].contains c.groups)) then some 2
  else if 255 < c.gbase + c.gcntm1 then some 3
  else if (List.range c.groups).any fun i => !(s.on (POR_GOWN_VALID (c.gbase + i)) && s.rd (POR_GOWN_PART (c.gbase + i)) == c.part) then some 4
  else none

/-- rev: the low `n` bits of i reversed. -/
def revBits : Nat → Nat → Nat
  | 0, _ => 0
  | n + 1, i => (i % 2) * 2 ^ n + revBits n (i / 2)

/-- The offset of trigger i in au (R283). -/
def Sched.offset (c : Sched) (i : Nat) : Nat :=
  if c.pattern = 0 then i * c.step
  else if c.pattern = 1 then (c.gcntm1 - i) * c.step
  else revBits c.groups.log2 i * c.step

/-! ## The instant index (R282, R292) -/

def State.armedAt (s : State) (n : Nat) : Option PArmed := s.pour.armed.find? fun a => a.entry == n

/-- ARMED and SLOTS count the entries. -/
def State.countArmed (s : State) : State :=
  (s.wr POR_STATUS_ARMED s.pour.armed.length).wr POR_STATUS_SLOTS (s.pour.armed.filter fun a => a.slot.isSome).length

/-- The entry's registers follow the index. -/
def State.showArmed (s : State) (a : PArmed) : State :=
  let s1 := ((s.wr (POR_ENEXT_LO a.entry) (a.base / 65536 % 2 ^ 32)).wr (POR_ENEXT_HI_CYCLE a.entry) ((a.base / 65536) >>> 32)).wr (POR_ENEXT_HI_ANGLE a.entry) (a.base % 65536)
  (s1.wr (POR_EREM_ARMED a.entry) 1).wr (POR_EREM_SLOT a.entry) (b2n a.slot.isSome)

/-- Entries by number. -/
def insertArmed (a : PArmed) : List PArmed → List PArmed
  | [] => [a]
  | b :: bs => if a.entry < b.entry then a :: b :: bs else if a.entry = b.entry then a :: bs else b :: insertArmed a bs

/-- An entry of the index put or changed. -/
def State.putArmed (s : State) (a : PArmed) : State :=
  ((s.omod fun p => { p with armed := insertArmed a p.armed }).showArmed a).countArmed

/-- An entry becomes unarmed; its slot is free. -/
def State.disarm (s : State) (n : Nat) : State :=
  if (s.armedAt n).isNone then s
  else
    let s1 := s.omod fun p => { p with armed := p.armed.filter (fun a => a.entry != n), waiting := p.waiting.filter (· != n) }
    let s2 := ((s1.wr (POR_ENEXT_LO n) 0).wr (POR_ENEXT_HI_CYCLE n) 0).wr (POR_ENEXT_HI_ANGLE n) 0
    (((s2.wr (POR_EREM_ARMED n) 0).wr (POR_EREM_SLOT n) 0).wr (POR_EREM_REM n) 0).countArmed

/-- EN = 0 disarms every entry (R282). -/
def State.disarmAll (s : State) : State := (s.pour.armed.map (·.entry)).foldl (fun s n => s.disarm n) s

/-! ## Arming (R282, R336) -/

def State.schedAddr (s : State) (n : Nat) : Nat := s.rd POR_SBASE_LO_BASE <<< 12 + s.rd POR_SBASE_HI_BASE <<< 32 + 32 * n

/-- A refusal of the arm in progress. -/
def State.armRefuse (s : State) (job : ArmJob) (reason : Nat) : State :=
  let s1 := (((s.omod fun p => { p with arming := none }).wr POR_ASTAT_BUSY 0).wr POR_ASTAT_REASON reason).raise EV_POR_ARMREJ
  match job.prog with
  | some p => s1.progDone p reason
  | none => s1

/-- An arm command starts: reasons 8 and 7 need no read. -/
def State.armStart (s : State) (job : ArmJob) : State :=
  let s1 := s.wr POR_ASTAT_ENTRY job.entry
  if !s1.on POR_CTL_EN then s1.armRefuse job 8
  else if (s1.armedAt job.entry).isSome then s1.armRefuse job 7
  else ((s1.omod fun p => { p with arming := some job }).wr POR_ASTAT_BUSY 1).retIssue (.armEntry job.entry) false (s1.schedAddr job.entry) 32 []

/-- Programs whose PTRG waits for BUSY to fall (R336, R338): the lowest number first. -/
def State.nextArm : Nat → State → State
  | 0, s => s
  | n + 1, s =>
    if s.pour.arming.isSome then s
    else
      match s.programs.find? fun p => s.progWaits p 5 with
      | some p =>
        let x := s.px p
        State.nextArm n (s.armStart { entry := x.obj, prog := some p, ovr := if x.send.1 = 1 then some x.inst else none })
      | none => s

/-- An arm command: GO while BUSY is ignored (R282). -/
def State.armCmd (s : State) (job : ArmJob) : State := if s.pour.arming.isSome then s else s.armStart job

/-- A Pour entry of another partition faults the program that named it (R325). -/
def State.armForeign (s : State) (job : ArmJob) (part : Nat) : Bool :=
  match job.prog with
  | some p => s.rd (BLD_PRG_A_PART p) != part
  | none => false

/-- The read of an arm ends: the entry's bytes, or none after RERR (R281, R282). A program that names an entry of another
partition faults after the check of ECHK. -/
def State.armRead (s : State) (n : Nat) (data : Option (List Byte)) : State :=
  match s.pour.arming with
  | none => s
  | some job =>
    if job.entry ≠ n then s
    else
      let done := match data with
        | none => s.armRefuse job 6
        | some bs =>
          let c := spellSched bs
          let base := job.ovr.getD (instant c.c0 c.a0)
          match s.checkSched bs with
          | some 1 => s.armRefuse job 1
          | r =>
            if s.armForeign job c.part then
              let s1 := (s.omod fun p => { p with arming := none }).wr POR_ASTAT_BUSY 0
              match job.prog with
              | some p => if (s1.px p).stopping then s1.endProg p 6 else s1.progFault p 3
              | none => s1
            else
              match r with
              | some k => s.armRefuse job k
              | none =>
                if !s.on POR_CTL_EN then s.armRefuse job 8
                else if !s.ahead base 6250 then s.armRefuse job 5
                else
                  let s1 := (s.omod fun p => { p with arming := none }).wr POR_ASTAT_BUSY 0
                  let s2 := (s1.putArmed { entry := n, sch := c, base := base, paging := false, gone := [], slot := none }).wr (POR_EREM_REM n) (if c.rep = 0 then 0 else c.rcnt)
                  match job.prog with
                  | some p => s2.progDone p 0
                  | none => s2
      State.nextArm (done.programs.length + 1) done

/-! ## Lapses (R291) -/

def State.pourLapse (s : State) (part entry cause w12 inst : Nat) : State :=
  s.lapse { part := part, rank := 3, cause := cause, flags := 0, fna := s.fna, b8 := entry, w12 := w12, inst := (inst / 65536, inst % 65536) }

/-- A trigger that is not issued because its entry reached no slot in time. -/
def State.missTrig (s : State) (a : PArmed) (c : Sched) (i : Nat) : State :=
  (s.raise EV_POR_MISSED).pourLapse c.part a.entry 0x14 (c.gbase + i) (a.base + c.offset i)

/-! ## Slots and paging (R284) -/

/-- The paging window of an entry in µs: max(LOOK, HLEAD + 4 µs). -/
def State.window (s : State) (c : Sched) : Nat := max (min 40 (max 4 (s.rd POR_CTL_LOOK))) (c.hlead + 4)

/-- The window is open: the base instant lies no further ahead than it. -/
def State.windowOpen (s : State) (a : PArmed) : Bool := s.withinUs a.base (s.window a.sch)

/-- LEAD in force (R286). -/
def State.lead (s : State) : Nat :=
  let l := min 256 (max 64 (s.rd POR_CTL_LEAD))
  if s.half then max 128 l else l

/-- The send point of an instant, with nothing in its way, has passed or is here. -/
def State.sendPassed (s : State) (inst : Nat) : Bool :=
  match s.kOf inst with
  | some k => decide (k < s.kclk + s.lead)
  | none => false

/-- A hint given (R290). -/
def State.giveHint (s : State) (c : Sched) (base : Nat) : State := (s.hint c.hdmask c.hlevel base).count POR_HINT_CNT

/-- The hint's time has come. -/
def State.hintDue (s : State) (c : Sched) (base : Nat) : Bool := s.withinUs base c.hlead

/-- Slots taken, with those that a page-in under way will take. -/
def State.slotsTaken (s : State) : Nat := (s.pour.armed.filter fun a => a.slot.isSome || a.paging).length

/-- An entry that is paged before another: its window is open and its base instant, then its number, lower. -/
def State.pagesBefore (s : State) (b a : PArmed) : Bool :=
  b.slot.isNone && !b.paging && s.windowOpen b && (decide (b.base < a.base) || (b.base == a.base && decide (b.entry < a.entry)))

/-- PAGE_IN (R284): the window of an entry is open; it is read for a slot, or waits with SLOTFULL. `ups` are errors that have
come about in stored words. -/
def execPageIn (n : Nat) (ups : List Upset) (s : State) : Host.Outcome State Fault Refusal :=
  s.done <| s.onB fun s0 =>
    let s := s0.upset ups
    match s.armedAt n with
    | none => s
    | some a =>
      if a.slot.isSome || a.paging || !s.windowOpen a then s
      else if 1024 ≤ s.slotsTaken then
        (if s.pour.waiting.contains n then s else (s.omod fun p => { p with waiting := p.waiting ++ [n] }).raise EV_POR_SLOTFULL)
      else if s.pour.armed.any fun b => s.pagesBefore b a then s
      else ((s.omod fun p => { p with waiting := p.waiting.filter (· != n) }).putArmed { a with paging := true }).retIssue (.pageEntry n) false (s.schedAddr n) 32 []

/-- The lowest slot number that no entry has (assumption 2). -/
def State.freeSlot (s : State) : Nat :=
  (findUp (fun k => !s.pour.armed.any fun a => match a.slot with
    | some sl => sl.no == k
    | none => false) 1024 0).getD 0

/-- An entry fails its check in its window: it is disarmed and its repetition is missed (R284 rule 2). -/
def State.schedFail (s : State) (a : PArmed) : State :=
  let w := if a.sch.trig then a.sch.gbase else if a.sch.bar then 0x100 + a.sch.barid else a.sch.gbase
  (((s.disarm a.entry).raise EV_POR_SCHERR).raise EV_POR_MISSED).pourLapse a.sch.part a.entry 0x14 w a.base

/-- A slot is read: one whose word is uncorrectable disarms its entry (R437 step 3). -/
def State.readSlot (s : State) (a : PArmed) (sl : PSlot) (f : State → State) : State :=
  let (s1, bad) := s.eccRead 1 sl.no
  if bad then s1.schedFail a else f s1

/-- The read of a page-in ends (R284 rules 2, 4 and 5). -/
def State.pageRead (s : State) (n : Nat) (data : Option (List Byte)) : State :=
  match s.armedAt n with
  | none => s
  | some a =>
    if !a.paging then s
    else
      let bad := match data with
        | none => true
        | some bs => (s.checkSched bs).isSome
      if bad then s.schedFail a
      else
        let c := spellSched (data.getD [])
        let all := if c.trig then (List.range c.groups) else []
        let lost := all.filter fun i => a.gone.contains i || s.sendPassed (a.base + c.offset i)
        let s1 := (lost.filter fun i => !a.gone.contains i).foldl (fun (s : State) i => s.missTrig a c i) s
        let barMiss := c.bar && decide (a.base <<< 40 + s.incr ≤ s.fnow)
        let s2 := if barMiss then (s1.raise EV_POR_MISSED).pourLapse c.part n 0x14 (0x100 + c.barid) a.base else s1
        let giveNow := c.hint && s2.hintDue c a.base
        let s3 := if giveNow then s2.giveHint c a.base else s2
        let trigs := all.map fun i => ({ i := i, inst := a.base + c.offset i, done := lost.contains i, k := none, passed := none } : PTrig)
        let slotNo := s3.freeSlot
        let sl : PSlot := { no := slotNo, sch := c, trigs := trigs, barDone := !c.bar || barMiss, hintDone := !c.hint || giveNow }
        (s3.eccWrite 1 slotNo).putArmed { a with sch := c, paging := false, gone := [], slot := some sl }

/-- A repetition is over (R284 rule 3): its triggers are out or done, and its barrier and hint are done. -/
def State.slotDone (s : State) (sl : PSlot) : Bool :=
  sl.barDone && sl.hintDone && sl.trigs.all fun t => t.done && (match t.k with
    | some k => decide (k < s.kclk)
    | none => true)

/-- The index advances to the next repetition, or the entry becomes unarmed. -/
def State.leaveSlot (s : State) (a : PArmed) (sl : PSlot) : State :=
  let rem := s.rd (POR_EREM_REM a.entry)
  if sl.sch.rep = 0 ∨ rem = 0 then s.disarm a.entry
  else
    (s.putArmed { a with base := a.base + sl.sch.rep * 65536, slot := none }).wr (POR_EREM_REM a.entry) (if rem = 0xFFFF then rem else rem - 1)

/-- Entries leave their slots at the end of a KCLK. -/
def State.sweepSlots (s : State) : State :=
  s.pour.armed.foldl (fun (s : State) a => match a.slot with
    | some sl => if s.slotDone sl then s.leaveSlot a sl else s
    | none => s) s

/-! ## Release timing (R285 to R288) -/

/-- A trigger to place: k_t, entry, index, and the marker whose step passes over it. -/
structure PlanItem where
  kt : Nat
  entry : Nat
  i : Nat
  passed : Option Nat
  deriving DecidableEq, Repr

/-- In order of k_t, then entry, then index. -/
def insertPlan (x : PlanItem) : List PlanItem → List PlanItem
  | [] => [x]
  | y :: ys =>
    if x.kt < y.kt ∨ (x.kt = y.kt ∧ (x.entry < y.entry ∨ (x.entry = y.entry ∧ x.i < y.i))) then x :: y :: ys else y :: insertPlan x ys

/-- The triggers in slots that have not been sent, in order. -/
def State.toPlace (s : State) : List PlanItem :=
  (s.pour.armed.flatMap fun a => match a.slot with
    | some sl => (sl.trigs.filter fun t => !t.done).filterMap fun t =>
        match t.passed, s.passAt t.inst with
        | some m, _ => some { kt := m, entry := a.entry, i := t.i, passed := some m }
        | none, some m => some { kt := m, entry := a.entry, i := t.i, passed := some m }
        | none, none => (s.kOf t.inst).map fun k => { kt := k, entry := a.entry, i := t.i, passed := none }
    | none => []).foldr insertPlan []

/-- The release KCLK of one trigger, and whether it is more than 1 KCLK after k_t (R285); none before `least` is free. -/
def placeOne (used : List Nat) (least kt : Nat) : Nat × Bool :=
  let free := fun k => !used.contains k && decide (least ≤ k)
  if free kt then (kt, false)
  else if 1 ≤ kt ∧ free (kt - 1) then (kt - 1, false)
  else if free (kt + 1) then (kt + 1, false)
  else ((findUp free (used.length + 1) (max (kt + 2) least)).getD (kt + 2), true)

/-- The KCLK of a trigger once those before it have theirs. -/
def placeAll (least entry i : Nat) : List Nat → List PlanItem → Option (Nat × Bool × PlanItem)
  | _, [] => none
  | used, x :: xs =>
    let (k, late) := placeOne used least x.kt
    if x.entry = entry ∧ x.i = i then some (k, late, x) else placeAll least entry i (k :: used) xs

/-- A trigger of a slot is done, with its release KCLK if it was sent. -/
def State.trigDone (s : State) (a : PArmed) (sl : PSlot) (i : Nat) (k : Option Nat) : State :=
  s.putArmed { a with slot := some { sl with trigs := sl.trigs.map fun t => if t.i = i then { t with done := true, k := k } else t } }

/-- The trigger word (R278). -/
def trigWord (c : Sched) (i : Nat) (late stale : Bool) : Nat :=
  pack [(0, 8, c.gbase + i), (8, 16, c.emask), (24, 24, c.work), (48, 8, c.part), (62, 1, b2n late), (63, 1, b2n stale)]

/-- A trigger in its send point (R286 to R288). -/
def State.sendTrig (s : State) (a : PArmed) (sl : PSlot) (t : PTrig) (k : Nat) (late : Bool) (x : PlanItem) : State :=
  let c := sl.sch
  if s.held then
    ((s.trigDone a sl t.i none).raise EV_POR_HELD).pourLapse c.part a.entry 0x16 (c.gbase + t.i) t.inst
  else
    let stale := s.on TIM_STATUS_STALE
    let w := trigWord c t.i late stale
    let kc := k % 2 ^ 32
    let it : SentItem := { ty := 0x50, kcnt := kc, word := w, entry := a.entry, cyc := t.inst / 65536, ang := t.inst % 65536 }
    let s1 := ((s.trigDone a sl t.i (some k)).omod fun p => { p with sent := k :: p.sent.filter (s.kclk ≤ ·) }).sendT 3 (mkMsg [(0, 8, 0x50), (16, 32, kc), (48, 16, t.inst % 65536), (64, 64, w)])
    let s2 := (({ s1 with bond := { s1.bond with items := s1.bond.items ++ [it] } }).count POR_TRIG_CNT).trace 5 1
    let s3 := if stale then s2.count POR_STALE_CNT else s2
    if !late then s3
    else if x.passed.isSome then (s3.raise EV_POR_PASSED).pourLapse c.part a.entry 0x15 (c.gbase + t.i) t.inst
    else (s3.raise EV_POR_DISPLACE).pourLapse c.part a.entry 0x13 (c.gbase + t.i) t.inst

/-- TRIG_SEND_POINT (R284 rule 4, R286): trigger i of an entry. One in a slot is sent in KCLK k − LEAD; one whose entry is
not in a slot by its send point is not issued. -/
def execTrigSendPoint (entry i : Nat) (s : State) : Host.Outcome State Fault Refusal :=
  s.done <| s.onB fun s =>
    match s.armedAt entry with
    | none => s
    | some a =>
      match a.slot with
      | some sl =>
        (match sl.trigs.find? fun t => t.i == i && !t.done, placeAll (s.kclk + s.lead) entry i s.pour.sent s.toPlace with
         | some t, some (k, late, x) => if k = s.kclk + s.lead then s.readSlot a sl fun s => s.sendTrig a sl t k late x else s
         | _, _ => s)
      | none =>
        let c := a.sch
        let due := match s.kOf (a.base + c.offset i) with
          | some k => decide (k ≤ s.kclk + s.lead)
          | none => false
        if c.trig && decide (i < c.groups) && !a.gone.contains i && due then (s.missTrig a c i).putArmed { a with gone := a.gone ++ [i] } else s

/-! ## Barriers and hints (R289, R290) -/

/-- BARRIER_INSTANT (R289): the base instant of a barrier entry in a slot is reached. -/
def execBarrierInstant (n : Nat) (s : State) : Host.Outcome State Fault Refusal :=
  s.done <| s.onB fun s0 =>
    let s := s0.firstOpp
    match s.armedAt n with
    | some a =>
      (match a.slot with
       | some sl =>
         if !sl.barDone && s.reached a.base then s.readSlot a sl fun s =>
           let s1 := (s.putArmed { a with slot := some { sl with barDone := true } }).wr (POR_BAR sl.sch.barid) (a.base / 65536 % 2 ^ 32)
           (s1.raise EV_POR_BAR).wakeBarrier sl.sch.barid a.base
         else s
       | none => s)
    | none => s

/-- HINT_TIME (R290). -/
def execHintTime (n : Nat) (s : State) : Host.Outcome State Fault Refusal :=
  s.done <| s.onB fun s =>
    match s.armedAt n with
    | some a =>
      (match a.slot with
       | some sl =>
         if !sl.hintDone && s.hintDue sl.sch a.base then s.readSlot a sl fun s =>
           (s.putArmed { a with slot := some { sl with hintDone := true } }).giveHint sl.sch a.base
         else s
       | none => s)
    | none => s

end Sys2Proof.Machine
end

