-- ==== Sys2Proof/Machine/Programs.lean ====
section
/-!
DEFINITION. Collective programs (chapter 12 of spec/): start and stop, contexts, deadlines, and the instructions. Each
instruction is a command that a running program executes when its fetched word spells it (R329 to R331).
-/
namespace Sys2Proof.Machine

/-! ## Start, stop, contexts (R327, R340 to R343) -/

/-- A program command refused (R327). -/
def State.pcmdRefuse (s : State) (reason : Nat) : State := (s.wr BLD_PCSTAT_REASON reason).raise EV_PRG_PREJ

/-- START. -/
def State.progStart (s : State) (p : Nat) : State :=
  let s0 := s.wr BLD_PCSTAT_PROG p
  let start := s0.rd (BLD_PRG_A_START p)
  if activeSt (s0.pst p) then s0.pcmdRefuse 1
  else if !s0.on (BLD_PRG_A_VALID p) then s0.pcmdRefuse 2
  else if 16384 < start + max 1 (s0.rd (BLD_PRG_B_LEN p)) then s0.pcmdRefuse 3
  else
    let s1 := ((List.range 16).foldl (fun (s : State) i => s.setG p i 0) s0).setG p 0 (s0.rd2 BLD_PARG_LO BLD_PARG_HI)
    let s2 := (((s1.wr (BLD_PINFO_PC p) start).wr (BLD_PINFO_DLV p) 0).wr (BLD_PINFO_RLV p) 0).wr (BLD_PINFO_FAULT p) 0
    (s2.setPst p 1 8).setPx p { ProgX.reset with live := true, since := s.kclk }

/-- The payload reads of a stopped program go to no program: 4,096 names none. -/
def State.orphanSend (s : State) (p : Nat) : State :=
  let f := fun q : RetReq => if q.use = .send p then { q with use := .send 4096 } else q
  { s with dlv := { s.dlv with ret := s.dlv.ret.map f, retWait := s.dlv.retWait.map f, redo := s.dlv.redo.map f } }

/-- STOP: a Blend or Pour command that has started completes first. -/
def State.progStop (s : State) (p : Nat) : State :=
  let s0 := s.wr BLD_PCSTAT_PROG p
  if s0.pst p = 0 then s0.pcmdRefuse 1
  else
    let running := (s0.blend.emits.any fun e => e.cmd.prog == some p) || (match s0.pour.arming with
      | some j => j.prog == some p
      | none => false)
    if running && s0.pst p == 3 then s0.setPx p { s0.px p with stopping := true }
    else ((s0.orphanSend p).bmod fun b => { b with cmds := b.cmds.filter fun c => c.prog != some p }).showBusy.endProg p 6

/-- The barrier instant that Pour knows for a BARID: the least base instant of a slot (R341). -/
def State.barrierKnown (s : State) (bar : Nat) : Option Nat :=
  (s.pour.armed.filterMap fun a => match a.slot with
    | some sl => if sl.sch.bar && sl.sch.barid == bar && !sl.barDone then some a.base else none
    | none => none).foldl (fun (b : Option Nat) i => match b with
      | some j => some (min i j)
      | none => some i) none

/-- An instant lies at most PRE ahead. -/
def State.withinPre (s : State) (i : Nat) : Bool :=
  match s.kOf i with
  | some k => decide (k ≤ s.kclk + s.pre)
  | none => false

/-- The instant at which a program without a context is due (R341). One that realigns is due like one in JOIN (a deduction
from R342). -/
def State.dueAt (s : State) (p : Nat) : Option Nat :=
  let x := s.px p
  let w := s.rd (BLD_PINFO_WAIT p)
  if x.ctx.isSome then none
  else if s.pst p = 1 then x.woke.map (·.1)
  else if s.pst p = 3 ∧ w = 1 then (if s.withinPre x.inst then some x.inst else none)
  else if s.pst p = 3 ∧ (w = 2 ∨ w = 9) then (match s.barrierKnown x.obj with
    | some i => if s.withinPre i then some i else none
    | none => none)
  else none

/-- The least pair by first then second component. -/
def leastPair : List (Nat × Nat) → Option (Nat × Nat)
  | [] => none
  | a :: as => match leastPair as with
    | some b => if b.1 < a.1 ∨ (b.1 = a.1 ∧ b.2 < a.2) then some b else some a
    | none => some a

/-- The next program to get a context (R341). -/
def State.nextProg (s : State) : Option Nat :=
  let ps := s.programs
  match leastPair (ps.filterMap fun p => (s.dueAt p).map fun i => (i, p)) with
  | some e => some e.2
  | none => (leastPair ((ps.filter fun p => s.pst p == 1).map fun p => ((s.px p).since, p))).map (·.2)

/-- CONTEXT_LOAD (R341, R342): the lowest free context goes to the next program; one that runs more than 1 KCLK after its
instant is late. -/
def execContextLoad (ups : List Upset) (s : State) : Host.Outcome State Fault Refusal :=
  s.done <| s.onB fun s0 =>
    let s := s0.upset ups
    match findUp (fun c => !s.on (BLD_CTX_VALID c)) 256 0, s.nextProg with
    | some c, some p =>
      let s1 := ((s.wr (BLD_CTX_VALID c) 1).wr (BLD_CTX_PROG c) p).wr BLD_PSTAT_CTX (s.rd BLD_PSTAT_CTX + 1)
      let x := s.px p
      let s2 := s1.setPx p { x with ctx := some c, issued := 0, woke := none }
      if s.pst p = 1 then
        let s3 := s2.setPst p 2 0
        match x.woke with
        | some (i, k) =>
          if k + 1 < s.kclk then
            (s3.raise EV_PRG_CTXLATE).lapse { part := s.rd (BLD_PRG_A_PART p), rank := 3, cause := 0x17, flags := 0, fna := s.fna, b8 := p,
                                              w12 := s.kclk - k, inst := (i / 65536, i % 65536) }
          else s3
        | none => s3
      else s2
    | _, _ => s

/-- QUANTUM_EXPIRY (R341): a running program gives up its context while another waits for one; not within PRE of the
instant it was due at. -/
def execQuantumExpiry (p : Nat) (s : State) : Host.Outcome State Fault Refusal :=
  s.done <| s.onB fun s =>
    let x := s.px p
    let near := match x.wakeK with
      | some k => decide (s.kclk ≤ k + s.pre)
      | none => false
    if s.pst p = 2 ∧ 16 * max 1 (s.rd BLD_PCTL_QNT) ≤ x.issued ∧ s.nextProg.isSome ∧ !near ∧ (findUp (fun c => !s.on (BLD_CTX_VALID c)) 256 0).isNone then
      let s1 := (s.releaseCtx p).setPst p 1 8
      s1.setPx p { s1.px p with since := s.kclk, woke := none }
    else s

/-- PROGRAM_WAKE (R41, R339): after the key epochs and the operating point that are due, the instant of a WAITA is reached. -/
def execProgramWake (p : Nat) (s : State) : Host.Outcome State Fault Refusal :=
  s.done <| s.onB fun s0 =>
    let s := s0.firstOpp
    if s.progWaits p 1 && s.reached (s.px p).inst then s.progReady p (some (s.px p).inst) else s

/-- A program's deadline. -/
def State.deadline (s : State) (p : Nat) : Nat := s.rd2 (BLD_PDL_LO p) (BLD_PDL_HI p)

/-- A RECV of a descriptor misses its deadline (R343 rules 1 and 2). -/
def State.noteMiss (s : State) (p d : Nat) : State :=
  let dl := s.deadline p
  let s1 := (s.raise EV_PRG_DLMISS).lapse
    { part := s.rd (BLD_PRG_A_PART p), rank := 3, cause := 0x10, flags := 0, fna := s.fna, b8 := p,
      w12 := d + (s.rd (BLD_RD_RECV d) % 2 ^ 24) <<< 8, inst := (dl / 65536, dl % 65536) }
  s1.wr (BLD_PINFO_DLV p) 0

/-- The program waits for the barrier of its realign point, from this KCLK on (R343 rule 4). -/
def State.realign (s : State) (p : Nat) : State := s.progWait p 9 false fun x => { x with obj := s.rd (BLD_PINFO_RBAR p), inst := s.fnow >>> 40 }

/-- The deadline of a RECV in progress is reached (R343). -/
def State.missStep (s : State) (p : Nat) : State :=
  if s.progWaits p 3 && s.on (BLD_PINFO_DLV p) && s.reached (s.deadline p) then
    let s1 := s.noteMiss p (s.px p).obj
    if s1.on (BLD_PINFO_RLV p) then s1.realign p else s1
  else s

/-- DEADLINE_MISS (R343). -/
def execDeadlineMiss (p : Nat) (s : State) : Host.Outcome State Fault Refusal := s.done <| s.onB fun s => s.missStep p

/-! ## Instruction words (R324, R325, R329 to R331) -/

/-- Word w of the program store. -/
def State.prgWord (s : State) (w : Nat) : Nat := s.rd2 (PRG_LO w) (PRG_HI w)

/-- The opcodes of R331. -/
def opcKnown (c : Nat) : Bool := c ≤ 8 || (0x10 ≤ c && c ≤ 0x14) || (0x20 ≤ c && c ≤ 0x25) || c == 0x30 || c == 0x31 || (0x40 ≤ c && c ≤ 0x42)

def fD (w : Nat) : Nat := bits w 52 4
def fA (w : Nat) : Nat := bits w 48 4
def fB (w : Nat) : Nat := bits w 44 4

/-- IMM bits [43:0] sign-extended to 64 bits. -/
def sext44 (w : Nat) : Nat := unsgn 64 (sgn 44 (bits w 0 44))

/-- A running program issues the instruction of its PC. A fetch outside its range, of an uncorrectable word or of a reserved
opcode faults it; an
instruction other than the one its word spells has no effect. -/
def State.issue (s : State) (p opc : Nat) (f : State → Nat → State) : State :=
  if 4096 ≤ p ∨ s.pst p ≠ 2 then s
  else
    let pc := s.rd (BLD_PINFO_PC p)
    let start := s.rd (BLD_PRG_A_START p)
    if pc < start ∨ start + max 1 (s.rd (BLD_PRG_B_LEN p)) ≤ pc then s.progFault p 2
    else
      let (s, bad) := s.eccRead 2 pc
      let w := s.prgWord pc
      if bad then s.progFault p 4
      else if !opcKnown (bits w 56 8) then s.progFault p 1
      else if bits w 56 8 ≠ opc then s
      else f ((s.wr (BLD_PINFO_PC p) (pc + 1)).setPx p { s.px p with issued := (s.px p).issued + 1 }) w

/-- The outcome of an instruction of a program. -/
def instr (s : State) (p opc : Nat) (f : State → Nat → State) : Host.Outcome State Fault Refusal := s.done <| s.onB fun s => s.issue p opc f

/-- The register that a field names. -/
def State.gA (s : State) (p w : Nat) : Nat := s.gReg p (fA w)
def State.gB (s : State) (p w : Nat) : Nat := s.gReg p (fB w)

/-- The descriptor that an instruction names (R330); `lo` is the lowest bit of the field. -/
def State.descOf (s : State) (p w lo : Nat) : Nat := (bits w lo 8 + (if bitAt w 23 then s.gB p w % 256 else 0)) % 256

/-- A descriptor of another partition (R325). -/
def State.foreignD (s : State) (p d : Nat) : Bool := s.rd (BLD_RD_CFG_PART d) != s.rd (BLD_PRG_A_PART p)

def State.foreignT (s : State) (p t : Nat) : Bool := s.rd (BLD_TPL_B_PART t) != s.rd (BLD_PRG_A_PART p)

/-! ## Control and registers -/

/-- NOP. -/
def execNop (p : Nat) (s : State) : Host.Outcome State Fault Refusal := instr s p 0x00 fun s _ => s

/-- END (R327). -/
def execEnd (p : Nat) (s : State) : Host.Outcome State Fault Refusal := instr s p 0x01 fun s _ => (s.endProg p 4).raise EV_PRG_PDONE

/-- JMP. -/
def execJmp (p : Nat) (s : State) : Host.Outcome State Fault Refusal := instr s p 0x02 fun s w => s.wr (BLD_PINFO_PC p) (bits w 0 14)

/-- BNZ. -/
def execBnz (p : Nat) (s : State) : Host.Outcome State Fault Refusal :=
  instr s p 0x03 fun s w => if s.gA p w = 0 then s else s.wr (BLD_PINFO_PC p) (bits w 0 14)

/-- LOOP. -/
def execLoop (p : Nat) (s : State) : Host.Outcome State Fault Refusal :=
  instr s p 0x04 fun s w =>
    let s1 := s.setG p (fA w) (s.gA p w + (2 ^ 64 - 1))
    if s1.gA p w = 0 then s1 else s1.wr (BLD_PINFO_PC p) (bits w 0 14)

/-- LDI. -/
def execLdi (p : Nat) (s : State) : Host.Outcome State Fault Refusal := instr s p 0x05 fun s w => s.setG p (fD w) (sext44 w)

/-- ADDI. -/
def execAddi (p : Nat) (s : State) : Host.Outcome State Fault Refusal := instr s p 0x06 fun s w => s.setG p (fD w) (s.gA p w + sext44 w)

/-- G[A] FN G[B]; none for a reserved FN. -/
def aluFn (fn a b : Nat) : Option Nat :=
  if fn = 0 then some (a + b) else if fn = 1 then some (a + 2 ^ 64 - b) else if fn = 2 then some (a &&& b) else if fn = 3 then some (a ||| b)
  else if fn = 4 then some (a ^^^ b) else if fn = 5 then some (a <<< (b % 64)) else if fn = 6 then some (a >>> (b % 64)) else none

/-- ALU. -/
def execAlu (p : Nat) (s : State) : Host.Outcome State Fault Refusal :=
  instr s p 0x07 fun s w => match aluFn (bits w 0 4) (s.gA p w) (s.gB p w) with
    | some v => s.setG p (fD w) v
    | none => s.progFault p 1

/-- GETT. -/
def execGett (p : Nat) (s : State) : Host.Outcome State Fault Refusal := instr s p 0x08 fun s w => s.setG p (fD w) (s.fnow >>> 40)

/-! ## Waits and deadlines -/

/-- WAITA (R340): an instant already reached does not wait; one more than PRE ahead releases the context. -/
def execWaita (p : Nat) (s : State) : Host.Outcome State Fault Refusal :=
  instr s p 0x10 fun s w =>
    let i := (s.gA p w + sext44 w) % 2 ^ 64
    if s.reached i then s else s.progWait p 1 (s.withinPre i) fun x => { x with inst := i }

/-- JOIN (R289, R331, R339): it takes a barrier instant reached after this KCLK. -/
def execJoin (p : Nat) (s : State) : Host.Outcome State Fault Refusal :=
  instr s p 0x11 fun s w => s.progWait p 2 false fun x => { x with d := fD w, obj := bits w 0 8, inst := s.fnow >>> 40 }

/-- DLN. -/
def execDln (p : Nat) (s : State) : Host.Outcome State Fault Refusal :=
  instr s p 0x12 fun s w => (s.wr2 (BLD_PDL_LO p) (BLD_PDL_HI p) ((s.gA p w + sext44 w) % 2 ^ 64)).wr (BLD_PINFO_DLV p) 1

/-- NODL. -/
def execNodl (p : Nat) (s : State) : Host.Outcome State Fault Refusal := instr s p 0x13 fun s _ => s.wr (BLD_PINFO_DLV p) 0

/-- RALN. -/
def execRaln (p : Nat) (s : State) : Host.Outcome State Fault Refusal :=
  instr s p 0x14 fun s w =>
    if bitAt w 24 then s.wr (BLD_PINFO_RLV p) 0
    else (((s.wr (BLD_PINFO_RLV p) 1).wr (BLD_PINFO_RBAR p) (bits w 0 8)).wr (BLD_PRLN_TARGET p) (bits w 8 14)).wr (BLD_PRLN_REG p) (fD w)

/-! ## Descriptors -/

/-- The registers that field SEL of a descriptor is written to. -/
def cfgKeys (d sel : Nat) : List Nat :=
  if sel = 0 then [(BLD_RD_CFG_OP d).key] else if sel = 1 then [(BLD_RD_BASE_BASE d).key] else if sel = 2 then [(BLD_RD_COUNT_COUNT d).key]
  else if sel = 3 then [(BLD_RD_EXPECT d).key] else if sel = 4 then [(BLD_RD_SEED d).key] else [(BLD_RD_SCYC_LO d).key, (BLD_RD_SCYC_HI_SCYC d).key]

/-- Field SEL of a descriptor, written by program p (R331). A program's write comes before those of the other sources and of
programs of higher number in its KCLK: these stand (R406). -/
def State.writeCfg (s0 : State) (p d sel v : Nat) : State :=
  let s := (cfgKeys d sel).foldl (fun (s : State) k => s.noteWrite k p) s0
  if (cfgKeys d sel).any fun k => s0.outranked k p then s0
  else if sel = 0 then
    (((((((s.wr (BLD_RD_CFG_SAT d) (bits v 27 1)).wr (BLD_RD_CFG_ACC d) (bits v 26 1)).wr (BLD_RD_CFG_RND d) (bits v 24 2)).wr (BLD_RD_CFG_OFMT d) (bits v 20 4)).wr
      (BLD_RD_CFG_IFMT d) (bits v 16 4)).wr (BLD_RD_CFG_OP d) (bits v 12 3)).wr (BLD_RD_CFG_PART d) (bits v 0 8))
  else if sel = 1 then s.wr (BLD_RD_BASE_BASE d) v
  else if sel = 2 then s.wr (BLD_RD_COUNT_COUNT d) v
  else if sel = 3 then s.wr (BLD_RD_EXPECT d) v
  else if sel = 4 then s.wr (BLD_RD_SEED d) v
  else (s.wr (BLD_RD_SCYC_LO d) v).wr (BLD_RD_SCYC_HI_SCYC d) (bits v 32 16)

/-- RDCFG (R306, R338). -/
def execRdcfg (p : Nat) (s : State) : Host.Outcome State Fault Refusal :=
  instr s p 0x20 fun s w =>
    let d := s.descOf p w 0
    let sel := bits w 8 4
    if 6 ≤ sel then s.progFault p 1
    else if s.foreignD p d then s.progFault p 3
    else s.configWrite d fun s => s.writeCfg p d sel (s.gA p w)

/-- RDCMD (R308): the program keeps its context while it waits. -/
def execRdcmd (p : Nat) (s : State) : Host.Outcome State Fault Refusal :=
  instr s p 0x21 fun s w =>
    let d := s.descOf p w 0
    let cmd := bits w 8 4
    if cmd = 0 ∨ 3 < cmd then s.progFault p 1
    else if s.foreignD p d then s.progFault p 3
    else
      (s.progWait p 4 true fun x => { x with d := fD w }).blendCmd
        { op := cmd, rd := d, prog := some p, k0 := 0, n := 0, to_ := 0, clear := false, free := false, force := false }

/-- A RECV of a descriptor in state `st` executes after its deadline (R343); in the deadline's own KCLK FULL, ERROR and FREE win. -/
def State.recvLate (s : State) (p st : Nat) : Bool :=
  s.on (BLD_PINFO_DLV p) && (if st = 3 ∨ st = 5 ∨ st = 0 then decide (s.deadline p <<< 40 + s.incr ≤ s.fnow) else s.reached (s.deadline p))

/-- RECV (R343): one executed after its deadline misses at once. -/
def execRecv (p : Nat) (s : State) : Host.Outcome State Fault Refusal :=
  instr s p 0x22 fun s w =>
    let d := s.descOf p w 0
    let st := s.dst d
    if s.foreignD p d then s.progFault p 3
    else
      let s1 := if s.recvLate p st then s.noteMiss p d else s
      if s.recvLate p st && s.on (BLD_PINFO_RLV p) then s1.realign p
      else if st = 3 ∨ st = 5 ∨ st = 0 then s1.setG p (fD w) st
      else s1.progWait p 3 false fun x => { x with d := fD w, obj := d }

/-- RDST. -/
def execRdst (p : Nat) (s : State) : Host.Outcome State Fault Refusal :=
  instr s p 0x23 fun s w =>
    let d := s.descOf p w 0
    if s.foreignD p d then s.progFault p 3
    else s.setG p (fD w) (pack [(0, 32, s.rd (BLD_RD_RECV d)), (32, 3, s.dst d), (35, 2, s.rd (BLD_RD_SCYC_HI_ERRC d)), (37, 1, s.rd (BLD_RD_SCYC_HI_PARTIAL d))])

/-- The emission that EMIT and CVT ask for. -/
def State.emitCmd (s : State) (p w op d to_ : Nat) : State :=
  (s.progWait p 4 true fun x => { x with d := fD w }).blendCmd
    { op := op, rd := d, prog := some p, k0 := s.gA p w % 2 ^ 18, n := bits w 24 18, to_ := to_, clear := bitAt w 20, free := bitAt w 21, force := bitAt w 22 }

/-- EMIT (R333). -/
def execEmit (p : Nat) (s : State) : Host.Outcome State Fault Refusal :=
  instr s p 0x24 fun s w =>
    let d := s.descOf p w 0
    let t := (bits w 8 10 + (if bitAt w 18 then s.gB p w % 256 else 0)) % 1024
    if s.foreignD p d || s.foreignT p t then s.progFault p 3 else s.emitCmd p w 4 d t

/-- CVT (R334). -/
def execCvt (p : Nat) (s : State) : Host.Outcome State Fault Refusal :=
  instr s p 0x25 fun s w =>
    let d := s.descOf p w 0
    let e := s.descOf p w 8
    if s.foreignD p d || s.foreignD p e then s.progFault p 3 else s.emitCmd p w 5 d e

/-! ## Sending and scheduling -/

/-- The tile of a SEND goes to the tile source; a template with VALID = 0 refuses it (R332). -/
def State.handSend (s : State) (p t off len : Nat) (data : List Byte) : State :=
  if s.on (BLD_TPL_A_VALID t) then { s with dlv := { s.dlv with waiting := s.dlv.waiting ++ [(TileFrom.prog p, s.tplTile t off len data)] } }
  else ((s.raise EV_DLV_REFUSE).setPx p { s.px p with refused := (s.px p).refused + 1 }).progDone p 3

/-- SEND (R335): the payload is read through the retention channels. A length that the tile source refuses is not read. -/
def execSend (p : Nat) (s : State) : Host.Outcome State Fault Refusal :=
  instr s p 0x30 fun s w =>
    let t := bits w 8 10
    let len := bits w 20 13
    let off := s.gB p w % 2 ^ 18
    if s.foreignT p t then s.progFault p 3
    else
      let s1 := s.progWait p 6 false fun x => { x with d := fD w, send := (t, off, len) }
      if len = 0 ∨ 4096 < len then s1.handSend p t off len []
      else s1.retIssue (.send p) false (s.gA p w % 2 ^ 52) len []

/-- The payload of a SEND has arrived, or none after RERR (R335). -/
def State.sendRead (s : State) (p : Nat) (data : Option (List Byte)) : State :=
  if !s.progWaits p 6 then s
  else
    let (t, off, len) := (s.px p).send
    match data with
    | none => s.progDone p 4
    | some bs => s.handSend p t off len (bs.take len)

/-- Tiles of a program that are neither accepted nor refused. -/
def State.unsettled (s : State) (p : Nat) : Bool :=
  ((s.dlv.waiting ++ s.dlv.taken).any fun (w : TileFrom × SrcTile) => w.1 == .prog p) ||
  s.dlv.blocks.any fun (e : Nat × Block) => e.2.from_ == some (.prog p) && (e.2.st == .writing || e.2.st == .written)

/-- WTAC ends once no tile of the program is unsettled. -/
def State.tellWtac (s : State) (p : Nat) : State :=
  if s.progWaits p 7 && !s.unsettled p then
    let n := (s.px p).refused
    (s.setPx p { s.px p with refused := 0 }).progDone p n
  else s

/-- The SEND of a program has its payload or its tile still to come: the tile just taken was one that the program handed
over before it was stopped and started again (R327). -/
def State.sendAhead (s : State) (p : Nat) : Bool :=
  (s.dlv.waiting.any fun (w : TileFrom × SrcTile) => w.1 == .prog p) || ((s.retOpen ++ s.dlv.redo).any fun q => q.use == .send p)

/-- The tile source took or refused a tile of a program (R333, R335). -/
def State.tileTaken (s : State) (p : Nat) (ok : Bool) : State :=
  let s1 := if ok then s else s.setPx p { s.px p with refused := (s.px p).refused + 1 }
  let s2 := if ok then s1 else s1.bmod fun b => { b with emits := b.emits.map fun e => if e.cmd.prog = some p ∧ e.cmd.op = 4 then { e with bad := true } else e }
  if s2.progWaits p 6 && !s2.sendAhead p then s2.progDone p (if ok then 0 else 3) else s2

/-- Every WTAC that can end, ends. -/
def State.tellWtacs (s : State) : State := s.programs.foldl (fun (s : State) p => s.tellWtac p) s

/-- WTAC. -/
def execWtac (p : Nat) (s : State) : Host.Outcome State Fault Refusal :=
  instr s p 0x31 fun s w =>
    if s.unsettled p then s.progWait p 7 false fun x => { x with d := fD w }
    else (s.setG p (fD w) (s.px p).refused).setPx p { s.px p with refused := 0 }

/-- PTRG (R336): it waits while BUSY = 1. -/
def execPtrg (p : Nat) (s : State) : Host.Outcome State Fault Refusal :=
  instr s p 0x40 fun s w =>
    let s1 := s.progWait p 5 false fun x => { x with d := fD w, obj := bits w 0 14, inst := s.gA p w, send := (b2n (bitAt w 16), 0, 0) }
    State.nextArm (s1.programs.length + 1) s1

/-- HINT (R336). -/
def execHint (p : Nat) (s : State) : Host.Outcome State Fault Refusal :=
  instr s p 0x41 fun s w => (s.hint (bits w 0 16) (bits w 16 8) (s.gA p w)).count BLD_PHINT_CNT

/-- SIG. -/
def execSig (p : Nat) (s : State) : Host.Outcome State Fault Refusal :=
  instr s p 0x42 fun s w => ((s.wr BLD_PSIGV_PROG p).wr BLD_PSIGV_VALUE (bits w 0 16)).raise EV_PRG_PSIG

end Sys2Proof.Machine
end

