-- ==== Sys2Proof/Machine/Retention.lean ====
section
/-!
DEFINITION. The tile source and its retention region (chapter 08 of spec/, R220 to R226, R232 to R236, R246), and
the writing of log records through the retention channels (R423). The answers of the base die that read are in
Answers.lean.
-/
namespace Sys2Proof.Machine

/-! ## Taking tiles (R225, R226, R235) -/

/-- The ingress tile header (R220). -/
def spellIngress (t : Tile) : SrcTile :=
  let h := t.hdr.toNat
  { dst := bits h 0 24, flow := bits h 24 12, part := bits h 36 8, len := bits h 44 13, use := bits h 57 3, usearg := bits h 64 16,
    user := bits h 80 48, data := t.data, tseq := 0, tchk := 0 }

/-- R225, R226: why a tile is refused. -/
def State.refusesTile (s : State) (t : SrcTile) : Bool :=
  let st := s.fst t.flow
  t.len == 0 || decide (4096 < t.len) || decide (2 < t.use) || decide (2 ^ 20 ≤ t.dst) || st == 2 || st == 3 ||
  (st == 1 && (s.rd (DLV_SFLOW_DST t.flow) != t.dst || s.rd (DLV_SFLOW_PART t.flow) != t.part || decide (0x7FFFFFFF < s.rd (DLV_SNEXT t.flow))))

/-- FWIN (R251): 0 acts as 1, above 16,384 as 16,384. -/
def State.fwin (s : State) : Nat := min 16384 (max 1 (s.rd DLV_CTL_FWIN))

/-- The flow holds FWIN tiles that are not acknowledged. -/
def State.windowFull (s : State) (f : Nat) : Bool := s.fst f == 1 && decide (s.fwin ≤ s.rd (DLV_SNEXT f) - 1 - s.rd (DLV_SACKED f))

/-- The lowest free block. -/
def State.freeBlockNo (s : State) : Option Nat := findUp (fun b => (s.block b).isNone) (s.rd DLV_RSIZE_BLOCKS) 0

/-- A closed flow opens: DST and PART are bound, NEXT = 1 (R225). -/
def State.openFlow (s : State) (t : SrcTile) : State :=
  if s.fst t.flow = 0 then
    (((((s.setFst t.flow 1).wr (DLV_SFLOW_DST t.flow) t.dst).wr (DLV_SFLOW_PART t.flow) t.part).wr (DLV_SNEXT t.flow) 1).wr (DLV_SACKED t.flow) 0).setSf t.flow SrcFlow.reset
  else s

/-- Steps 2 and 3 of R235 for a tile that the source has taken: with a free block and room in the flow's window it gets its
TSEQ and TCHK, and RWRITE is issued; none while it waits. -/
def State.commitTile (s : State) (from_ : TileFrom) (t : SrcTile) : Option State :=
  match s.freeBlockNo with
  | none => none
  | some b =>
    if s.windowFull t.flow then none
    else
      let s1 := s.openFlow t
      let q := s1.rd (DLV_SNEXT t.flow)
      let t0 := { t with tseq := q }
      let t1 := { t0 with tchk := tileCheck s1.fna t0 }
      let s2 := ((s1.wr (DLV_SNEXT t.flow) (q + 1)).putBlock b { st := .writing, flow := t.flow, tseq := q, tile := some t1, from_ := some from_ }).countFree
      some (s2.retIssue (.tile b) true (s2.blockAddr b) (64 + t.len) (s2.descriptor t1 ++ t1.data))

/-- A tile taken that the flow refuses by now, since it closed or broke while the tile waited, is discarded (R225). -/
def State.refuseTaken (s : State) (from_ : TileFrom) : State :=
  let s1 := s.raise EV_DLV_REFUSE
  match from_ with
  | .stream _ => s1
  | .prog p => s1.setPx p { s1.px p with refused := (s1.px p).refused + 1 }

/-- A tile that the source has taken goes on to retention, or waits (R235 step 2). -/
def State.storeTaken (s : State) (from_ : TileFrom) (t : SrcTile) : State :=
  match s.commitTile from_ t with
  | some s1 => s1
  | none => { s with dlv := { s.dlv with taken := s.dlv.taken ++ [(from_, t)] } }

/-- Step 1 of R235: the tile is taken, and refused, or its flow is open and it goes on. The flag says that it was not
refused. -/
def State.takeSource (s : State) (from_ : TileFrom) (t : SrcTile) : State × Bool :=
  if s.refusesTile t then (s.raise EV_DLV_REFUSE, false) else ((s.openFlow t).storeTaken from_ t, true)

/-- TILE_SOURCE_TAKE (R235): of an ingress channel (0 to 7), or of program `src` − 8, the tile that waits for retention goes on;
without one the oldest tile is taken. -/
def execTileSourceTake (src : Nat) (s : State) : Host.Outcome State Fault Refusal :=
  s.done <| s.onB fun s =>
    let from_ : TileFrom := if src < 8 then .stream src else .prog (src - 8)
    if s.held || s.rd DLV_STATUS_RET ≠ 2 then s
    else
      match takeFirst (fun (e : TileFrom × SrcTile) => e.1 == from_) s.dlv.taken with
      | (some e, rest) =>
        let s1 : State := { s with dlv := { s.dlv with taken := rest } }
        (if s1.refusesTile e.2 then (s1.refuseTaken from_).tellWtacs
         else match s1.commitTile from_ e.2 with
           | some s2 => s2
           | none => s)
      | (none, _) =>
        if src < 8 then
          match takeFirst (fun (e : Nat × Tile) => e.1 == src) s.xing.fromT with
          | (some e, rest) => (({ s with xing := { s.xing with fromT := rest } }).takeSource from_ (spellIngress e.2)).1.creditBack false src
          | (none, _) => s
        else
          match takeFirst (fun (e : TileFrom × SrcTile) => e.1 == from_) s.dlv.waiting with
          | (some e, rest) =>
            let (s1, ok) := ({ s with dlv := { s.dlv with waiting := rest } }).takeSource from_ e.2
            (s1.tileTaken (src - 8) ok).tellWtacs
          | (none, _) => s

/-! ## Acceptance (R235) -/

/-- Every tile of the flow with a lower TSEQ has been written. -/
def State.lowerWritten (s : State) (x : Block) : Bool := !((s.flowBlocks x.flow).any fun e => e.2.st == .writing && decide (e.2.tseq < x.tseq))

/-- The lowest written tile of a flow that waits for acceptance. -/
def State.nextWritten (s : State) (f : Nat) : Option (Nat × Block) :=
  let ws := (s.flowBlocks f).filter fun e => e.2.st == .written && s.lowerWritten e.2
  ws.find? fun e => ws.all fun d => decide (e.2.tseq ≤ d.2.tseq)

/-- Tiles accepted in TSEQ order; each goes to the route stage. `n` bounds their number. -/
def State.acceptTiles : Nat → State → Nat → State
  | 0, s, _ => s
  | n + 1, s, f =>
    match s.nextWritten f with
    | none => s
    | some (b, x) =>
      let s1 := s.putBlock b { x with st := .accepted, tile := none }
      State.acceptTiles n (match x.tile with
        | some t => s1.sendTile t
        | none => s1) f

/-! ## The rebuild after a reset (R246) -/

/-- The region header (R232). -/
def State.headerBytes (s : State) : List Byte := nbytes 64 (pack [(0, 32, 0x52544B31), (32, 16, s.inc), (64, 32, s.blockCount)])

/-- Retention is lost: the region is formatted with the present incarnation number, and every block is free. -/
def State.loseRetention (s : State) : State :=
  let s1 := ({ s with dlv := { s.dlv with blocks := [], lost := true, scan := s.rd DLV_RSIZE_BLOCKS } }).wr DLV_RINC_FINC s.inc
  ((s1.countFree).raise EV_DLV_RETLOST).retIssue .format true s1.retBase 64 s1.headerBytes

/-- The header has been read: its marker and FINC against Caddy's anchor, and the anchor against the region's base and
size (R246 step 1, R393). -/
def State.headerRead (s : State) (bs : List Byte) : State :=
  let w := ofBytes (bs.map (·.toNat))
  let h := s.hdr
  if h.anchor && bits w 0 32 == 0x52544B31 && bits w 32 16 == h.finc && h.rbase == s.retBase && h.rsize * 2 ^ 20 == s.retSize then
    (s.wr DLV_RINC_FINC h.finc).retIssue (.descriptor 0) false (s.blockAddr 0) 64 []
  else s.loseRetention

/-- The header of a formatted region is written: the anchor is the region's, and the source goes on to R246 step 3. -/
def State.formatted (s : State) : State :=
  let h := { s.hdr with anchor := true, finc := s.rd DLV_RINC_FINC, rsize := s.retSize / 2 ^ 20, rbase := s.retBase }
  (if !s.caddyOpen then s else { s with hdr := h }).sendSyncs

/-- A block descriptor has been read (R246 step 2): a live block of an open or closing flow with the same DST and PART
is kept; another live block is freed; after the last one the source goes on to step 3. -/
def State.descriptorRead (s : State) (b : Nat) (bs : List Byte) : State :=
  let (st, gen, t) := spellBlock bs
  let s := ({ s with dlv := { s.dlv with scan := b + 1 } }).countFree
  let live := st == 0xA5 && gen == s.rd DLV_RINC_FINC
  let keep := (s.fst t.flow == 1 || s.fst t.flow == 2) && s.rd (DLV_SFLOW_DST t.flow) == t.dst && s.rd (DLV_SFLOW_PART t.flow) == t.part
  let x : Block := { st := .accepted, flow := t.flow, tseq := t.tseq, tile := none, from_ := none }
  let s1 := if live then (let s0 := (s.putBlock b x).countFree; if keep then s0 else s0.freeBlock b) else s
  if b + 1 < s1.rd DLV_RSIZE_BLOCKS then s1.retIssue (.descriptor (b + 1)) false (s1.blockAddr (b + 1)) 64 [] else s1.sendSyncs

/-- RETENTION_REBUILD (R246): once boot has ended step 8. -/
def execRetentionRebuild (s : State) : Host.Outcome State Fault Refusal :=
  s.done <| s.onB fun s =>
    if s.on IMG_BOOT_READY && s.rd DLV_STATUS_RET == 0 then
      (((s.wr DLV_STATUS_RET 1).wr DLV_RSIZE_BLOCKS s.blockCount).countFree).retIssue .header false s.retBase 64 []
    else s

/-! ## Answers to writes, and refusals (R233, R235, R236) -/

/-- RET returns from unavailable: to ready, or to rebuilding while the rebuild is not complete. `to_` is which. -/
def State.retBack (s : State) (to_ : Nat) : State := if s.rd DLV_STATUS_RET = 3 then s.wr DLV_STATUS_RET to_ else s

/-- A request's record taken out of the outstanding ones; its RID goes to the first request that waits for one. -/
def State.retDone (s : State) (rid : Nat) : Option RetReq × State :=
  let (q, rest) := takeFirst (fun (q : RetReq) => q.rid == rid) s.dlv.ret
  let s1 : State := { s with dlv := { s.dlv with ret := rest } }
  match q, s.dlv.retWait with
  | some _, w :: ws => (q, ({ s1 with dlv := { s1.dlv with retWait := ws } }).retIssue w.use w.write w.addr w.bytes w.data)
  | _, _ => (q, s1)

/-- The queue without a record. -/
def State.dropLog (s : State) (seq : Nat) : State := { s with mgmt := { s.mgmt with logQ := s.mgmt.logQ.filter fun r => r.rseq != seq } }

/-- A tile's write completes; a block no longer wanted is freed. -/
def State.tileWritten (s : State) (b : Nat) : State :=
  let s1 := s.retBack 2
  match s1.block b with
  | none => s1
  | some x => if x.st = .freeing then s1.retIssue (.free b) true (s1.blockAddr b) 64 (List.replicate 64 0) else if x.st = .writing then State.acceptTiles (s1.dlv.blocks.length) (s1.putBlock b { x with st := .written }) x.flow else s1

/-- WDONE (R233, R235, R236): a write completes. -/
def execWdone (rid : Nat) (s : State) : Host.Outcome State Fault Refusal :=
  s.done <| s.onB fun s =>
    match s.retDone rid with
    | (none, _) => s
    | (some q, s1) =>
      if !q.write then s
      else
        match q.use with
        | .tile b => (s1.tileWritten b).tellWtacs
        | .free b => s1.dropBlock b
        | .format => (s1.retBack 1).formatted
        | .log seq => s1.dropLog seq
        | _ => s1

/-- A request that failed waits for the timer (R233, R236, R246). -/
def State.retryLater (s : State) (q : RetReq) (unavailable : Bool) : State :=
  let s1 := ({ s with dlv := { s.dlv with redo := s.dlv.redo ++ [q] } }).raise EV_DLV_RETERR
  if unavailable then s1.wr DLV_STATUS_RET 3 else s1

/-- RETENTION_RETRY_TIMER (R236): every 100 µs each failed request is repeated. -/
def execRetentionRetryTimer (s : State) : Host.Outcome State Fault Refusal :=
  s.done <| s.onB fun s =>
    let qs := s.dlv.redo
    qs.foldl (fun (s : State) q => s.retIssue q.use q.write q.addr q.bytes q.data) { s with dlv := { s.dlv with redo := [] } }

/-! ## Resends (R239) -/

/-- A retained copy of a flow has been read: it goes out if its check holds, and the next one is read; one that is not wanted
any more is dropped. -/
def State.resendRead (s : State) (f b : Nat) (bs : List Byte) : State :=
  match s.block b with
  | none => s.resendOn f
  | some x =>
    match (s.sf f).resend with
    | [] => s
    | q :: qs =>
      if x.st ≠ .accepted ∨ q ≠ x.tseq ∨ x.flow ≠ f then s.resendOn f
      else
        let (st, gen, t) := spellBlock bs
        let good := st == 0xA5 && gen == s.rd DLV_RINC_FINC && t.flow == x.flow && t.tseq == x.tseq && t.data.length == t.len && tileCheck s.fna t == t.tchk
        if good then
          let s1 := s.setSf x.flow { s.sf x.flow with resend := qs }
          (s1.sendTile t).readNext x.flow
        else s.breakOwn x.flow 0x04

/-- A copy that cannot be read breaks its flow with cause 0x04, if it is still wanted. -/
def State.resendLost (s : State) (f b : Nat) : State :=
  match s.block b with
  | none => s.resendOn f
  | some x => if x.st = .accepted ∧ x.flow = f ∧ (s.sf f).resend.head? = some x.tseq then s.breakOwn f 0x04 else s.resendOn f

/-! ## Log records (R423, R426) -/

/-- The ring's base address. -/
def State.logBase (s : State) : Nat := s.rd TEL_LBASE_LO_BASE <<< 16 + s.rd TEL_LBASE_HI_BASE <<< 32

/-- The slot of a record. -/
def State.logAddr (s : State) (seq : Nat) : Nat := s.logBase + 32 * (seq % 131072)

/-- The 32 bytes of a record. -/
def LogRec.spell (r : LogRec) : List Nat :=
  bytesOf 32 (pack [(0, 32, r.rseq), (32, 12, r.src), (44, 4, r.kind), (48, 8, r.b6), (56, 1, r.b7), (64, 32, r.arg), (96, 48, r.cyc), (144, 16, r.ang), (160, 16, r.inc)])

/-- Records in the queue whose write has not been issued go out. -/
def State.sendLogs (s : State) : State :=
  (s.mgmt.logQ.filter fun r => !(s.retOpen.any fun q => q.use == .log r.rseq)).foldl
    (fun (s : State) r => s.retIssue (.log r.rseq) true (s.logAddr r.rseq) 32 (r.spell.map (BitVec.ofNat 8))) s

/-! ## The retention channels of the base fabric port (R56, R234) -/

/-- The beats of a transfer: 512 bytes each, and one for a transfer without data. -/
def RetOut.beats (o : RetOut) : Nat := max 1 ((o.data.length + 511) / 512)

/-- What an outbound channel of the base fabric port shows: _hdr and _data of the beat to transfer; on a memory channel the header
unit and the data units of the message. -/
def State.bfoPort (s : State) (c : Nat) : Option (Unit128 × Nat) :=
  if memPairList.contains c then (s.xing.memOut.find? fun m => m.pair == c).map fun m => (m.m.hdr, packUnits m.m.data)
  else (s.dlv.out.find? fun o => o.chan == c).map fun o =>
    (o.hdr, ofBytes (((o.data.drop (512 * Sparse.get (fun _ => 0) s.dlv.outAt c)).take 512).map (·.toNat)))

/-- One KCLK of a retention channel: a beat goes out if the base die takes it. The last beat of a TDELIV is the command
TDELIV_DONE (R223). -/
def State.drainRet (s : State) (c : Nat) : State :=
  match s.dlv.out.find? fun o => o.chan == c with
  | none => s
  | some o =>
    let i := Sparse.get (fun _ => 0) s.dlv.outAt c + 1
    if !Config.portReady 3 c s.kclk then s
    else if i < o.beats then { s with dlv := { s.dlv with outAt := Sparse.set (fun _ => 0) s.dlv.outAt c i } }
    else if o.tile.isSome then s
    else { s with dlv := { s.dlv with out := eraseOne o s.dlv.out, outAt := Sparse.set (fun _ => 0) s.dlv.outAt c 0 } }

/-- One KCLK of the retention channels (only they have transfers of this kind waiting). -/
def State.drainRets (s : State) : State := (List.range 16).foldl State.drainRet s

end Sys2Proof.Machine
end

