-- ==== Sys2Proof/Machine/Time.lean ====
section
/-!
DEFINITION. The commands of fabric time (chapter 09 of spec/): markers, corrections, two-way time transfer, the
control law, period changes; and key epochs (R194), which wait on instants.
-/
namespace Sys2Proof.Machine

def State.tmod (s : State) (f : TimeSt → TimeSt) : State := { s with time := f s.time }

/-! ## States and stale outputs (R269) -/

/-- STALE as R269 gives it. -/
def State.staleNow (s : State) : Bool :=
  let st := s.tst
  st == 0 || st == 1 || st == 4 || (st == 3 && s.time.holdStale) || (s.tRole == 0 && s.time.corrStale)

/-- STALE follows; each change to 1 is an event. -/
def State.setStale (s : State) : State := s.setQ TIM_STATUS_STALE s.staleNow (some EV_TIM_STALE)

/-- A new state of fabric time, with its event. The run of send points above 1,000 ns starts anew in ACQUIRE (R268). -/
def State.enterT (s : State) (st : Nat) : State :=
  if s.tst = st then s.setStale
  else
    let s1 := (s.wr TIM_STATUS_STATE st).tmod fun t => { t with holdStale := false, big := if st = 1 then 0 else t.big }
    ((((s1.raiseIf (st == 2) EV_TIM_LOCK).raiseIf (st == 3) EV_TIM_HOLD).raiseIf (st == 4) EV_TIM_INCOMPAT)).setStale

/-- A period comes into force with its nominal increment. -/
def State.setPeriod (s : State) (p ceff : Nat) : State :=
  ((s.wr TIM_PCUR_P p).setIncr (incNom p)).tmod fun t => { t with ceff := ceff, pchg := none }

/-! ## Corrections (R265, R266) -/

/-- TCORR_A and TCORR_B of a correction (R262). -/
def corrA (c : Corr) : Unit128 :=
  BitVec.ofNat 128 (pack [(0, 8, 0x24), (8, 8, c.seq), (16, 1, b2n c.stale), (17, 1, b2n c.step), (24, 48, c.f0 >>> 56), (72, 16, bits c.f0 40 16), (88, 40, bits c.f0 0 40)])

def corrB (c : Corr) : Unit128 := BitVec.ofNat 128 (pack [(0, 8, 0x25), (8, 8, c.seq), (16, 40, c.inc), (56, 24, c.period), (80, 48, c.ceff)])

/-- ROW and RACK of an FNA (R198). -/
def rackOf (fna : Nat) : Nat := bits fna 8 12

/-- The links in ACTIVE whose observed FNA has this device's ROW and RACK (R266). -/
def State.rackLinks (s : State) : List Nat :=
  (List.range s.links).filter fun n => s.lst n == 5 && rackOf (s.rd (LNK_OBS_FNA n)) == rackOf s.fna

/-- Both halves on every link within the rack but one (R265, R266). -/
def State.floodCorr (s : State) (but : Option Nat) (c : Corr) : State :=
  (s.rackLinks.filter fun n => some n != but).foldl (fun s n => (s.sendByp n (corrA c)).sendByp n (corrB c)) s

/-- The period and C_eff that a correction carries: those of a change that is pending, else those in force. -/
def State.corrPeriod (s : State) : Nat × Nat :=
  match s.time.pchg with
  | some p => p
  | none => (s.rd TIM_PCUR_P, s.time.ceff)

/-- A correction sent by a leader or root, which it also holds for itself (R265, R268). -/
def State.sendCorr (s : State) (f0 inc : Nat) (step : Bool) : State :=
  let (p, ce) := s.corrPeriod
  let seq := (match s.time.lastSeq with
    | some q => (q + 1) % 256
    | none => 0)
  let c : Corr := { seq := seq, stale := s.on TIM_STATUS_STALE, step := step, f0 := f0, inc := inc, period := p, ceff := ce }
  (s.floodCorr none c).tmod fun t => { t with held := some c, own := some c, lastSeq := some seq, stepDue := step }

/-! ## Markers (R259, R260, R269, R270, R272, R273) -/

/-- F and INC of a correction take effect (R266, R270). -/
def State.applyCorr (s : State) (c : Corr) (cont : Nat) : State :=
  let s1 := (((s.setF c.f0).setIncr c.inc).wr TIM_STATUS_SEQ (c.seq % 16)).raiseIf (c.step && c.f0 != cont) EV_TIM_STEP
  let s2 := s1.tmod fun t => { t with held := none, corrStale := c.stale, stepDue := false }
  if s.tRole = 0 then s2.enterT 2 else s2

/-- A follower that learns of a period after its C_eff (R273). -/
def State.latePeriod (s : State) (p ceff : Nat) : State :=
  let s1 := s.setPeriod p ceff
  if s.tRole = 0 then s1.enterT 4 else (s1.tmod fun t => { t with good := 0 }).enterT 1

/-- The first marker (R259, R272): a root without a parent starts from KB_TIM_SET, another leader or root acquires,
a follower waits for a correction. -/
def State.firstMarker (s : State) : State :=
  let s1 := s.tmod fun t => { t with taken := true, marker := s.kclk, f0 := 0, missed := 0, held := none, frozen := false, lastGood := s.kclk }
  if s.tRole = 0 then s1
  else
    let s2 := s1.setIncr (incNom (s.rd TIM_PCUR_P))
    if s.tRole = 2 ∧ !s.on TIM_CTL_PEN then
      let f := s.rd2 TIM_SET_LO TIM_SET_HI_CYCLE <<< 56
      ((s2.setF f).tmod fun t => { t with f0 := f }).enterT 2
    else (s2.setF 0).enterT 1

/-- A marker without a change of period (R260, R266, R269): the correction held, or the continuation. -/
def State.plainMarker (s : State) (cont : Nat) : State :=
  match s.time.held with
  | some c => s.applyCorr c cont
  | none => if s.tRole = 0 ∧ s.tst ≠ 0 ∧ s.tst ≠ 4 then (s.setF cont).enterT 3 else if s.tst = 0 then s else s.setF cont

/-- The marker that starts C_eff (R273): the period changes, F takes (C_eff, 0, 0), and the increment is that of the correction
made for the new period (R265), else the nominal one. -/
def State.changeMarker (s : State) (p ce : Nat) : State :=
  let s1 := (((s.setPeriod p ce).setIncr (incAfter s.time.held p)).setF (ce <<< 56)).raise EV_TIM_PCHG
  match s.time.held with
  | some c =>
    let s2 := (s1.wr TIM_STATUS_SEQ (c.seq % 16)).tmod fun t => { t with held := none, corrStale := c.stale, stepDue := false }
    if s.tRole = 0 then s2.enterT 2 else s2
  | none => if s.tRole = 0 then s1.enterT 3 else s1

/-- A change whose C_eff the marker's F has passed by more than half an epoch was not applied at its marker (R273). -/
def State.passedChange (s : State) (due : Nat) : Option (Nat × Nat) :=
  match s.time.pchg with
  | some (p, ce) => if s.startsCycle due ce && (s.changeAt due).isNone then some (p, ce) else none
  | none => none

/-- A root that has no parent, or found no sample in time, starts from KB_TIM_SET at its next marker (R272). -/
def State.startsRoot (s : State) : Bool := s.tRole == 2 && (s.time.startSet || (s.tst != 2 && !s.on TIM_CTL_PEN))

/-- A marker on schedule (R260, R266, R269, R272, R273). -/
def State.takeMarker (s : State) : State :=
  let cont := s.continuation
  let due := (match s.time.held with
    | some c => c.f0
    | none => cont)
  let s0 := s.tmod fun t => { t with marker := s.kclk, missed := 0, cand := none, frozen := false }
  let s1 :=
    if s.startsRoot then
      let f := s.rd2 TIM_SET_LO TIM_SET_HI_CYCLE <<< 56
      ((s0.setF f).tmod fun t => { t with startSet := false, held := none }).enterT 2
    else
      match s.changeAt due, s.passedChange due with
      | some (p, ce), _ => s0.changeMarker p ce
      | none, some (p, ce) => (s0.plainMarker cont).latePeriod p ce
      | none, none => s0.plainMarker cont
  let step := (match s.time.held with
    | some c => c.step
    | none => false)
  let s2 := if step then s1.passTrigs cont else s1
  s2.tmod fun t => { t with f0 := s1.fnow }

/-- EPOCH_MARKER (R259, R260, R63): a marker in this KCLK; `bad` is a pulse that breaks R63. A correction held for a marker of the
old schedule goes with it, since F does not change (assumption 76). -/
def execEpochMarker (bad : Bool) (s : State) : Host.Outcome State Fault Refusal :=
  s.done <| s.onB fun s =>
    if s.rd IMG_BOOT_STEP < 4 then s
    else if bad then s.raise EV_TIM_EPOCHERR
    else if !s.time.taken then s.firstMarker
    else if s.kclk = s.nextMarker then s.takeMarker
    else
      let k := (match s.time.cand with
        | some (at_, k) => if s.kclk = at_ + s.epochK then k + 1 else 1
        | none => 1)
      if k = 3 then s.tmod fun t => { t with marker := s.kclk, f0 := s.fnow, cand := none, missed := 0, held := none, stepDue := false, frozen := false }
      else (s.tmod fun t => { t with cand := some (s.kclk, k) }).raise EV_TIM_EPOCHERR

/-- EPOCH_MISS (R259, R260, R269, R271, R273): no marker in the expected KCLK; the schedule goes on without the correction held for
it. A period change that is due there takes effect (assumption 76). -/
def execEpochMiss (s : State) : Host.Outcome State Fault Refusal :=
  s.done <| s.onB fun s =>
    if !s.time.taken then s
    else
      let cont := s.continuation
      let s0 := (s.tmod fun t => { t with marker := s.nextMarker, f0 := if s.tst = 0 then t.f0 else cont, missed := t.missed + 1, held := none, stepDue := false,
                                          frozen := false }).raise EV_TIM_EPOCHMISS
      let s1 := match s.changeAt cont with
        | some (p, ce) => (((s0.setPeriod p ce).setF (ce <<< 56)).tmod fun t => { t with f0 := ce <<< 56 }).raise EV_TIM_PCHG
        | none => s0
      if s1.time.missed = 3 ∧ s.tst ≠ 0 ∧ s.tst ≠ 4 ∧ !(s.tRole = 2 ∧ s.tst = 2) then s1.enterT 3 else s1

/-- CORRECTION_FREEZE (R266, R267). -/
def execCorrectionFreeze (s : State) : Host.Outcome State Fault Refusal :=
  s.done <| s.onB fun s => s.tmod fun t => { t with frozen := true }

/-! ## The control law (R268) -/

/-- Samples in rising order. -/
def insertInt (x : Int) : List Int → List Int
  | [] => [x]
  | y :: ys => if x ≤ y then x :: y :: ys else y :: insertInt x ys

/-- The median; of an even number, the mean of the middle two (presumed). -/
def medianOf (xs : List Int) : Int :=
  let ys := xs.foldr insertInt []
  let n := ys.length
  if n % 2 = 1 then ys.getD (n / 2) 0 else (ys.getD (n / 2 - 1) 0 + ys.getD (n / 2) 0) / 2

/-- |th| compared with nanoseconds: th in units of F, of which a period of P KCLK holds 2^56. -/
def State.thAbove (s : State) (th : Int) (ns : Nat) : Bool :=
  decide ((ns : Int) * 100 * 2 ^ 56 < (th.natAbs : Int) * (s.rd TIM_PCUR_P * 64 : Nat))

/-- th in picoseconds. -/
def State.thPs (s : State) (th : Int) : Int := roundDiv (th * (s.rd TIM_PCUR_P * 640 : Nat)) (2 ^ 56)

/-- th ÷ (2^k × EPER_ns) in units of 2^-40, to the nearest. -/
def State.thRate (s : State) (th : Int) (k : Nat) : Int :=
  roundDiv (th * (s.rd TIM_PCUR_P * 64 : Nat)) ((100 * 2 ^ 16 * 2 ^ k * s.rd TIM_EPOCH_EPER * 1000 : Nat))

def clampInt (lo hi x : Int) : Int := if x < lo then lo else if hi < x then hi else x

/-- A rate of parts per million in units of 2^-40. -/
def ppm (n : Nat) : Int := roundDiv ((n * 2 ^ 40 : Nat)) 1000000

/-- The increment of a period for a frequency and a slew (R268). -/
def incFor (p : Nat) (freq slew : Int) : Nat := (roundDiv ((incNom p : Int) * (2 ^ 40 + freq + slew)) (2 ^ 40)).toNat

/-- The period from the next marker on, at which F will be `f0` (R265, R273). -/
def State.periodFrom (s : State) (f0 : Nat) : Nat :=
  match s.changeAt f0 with
  | some (p, _) => p
  | none => s.rd TIM_PCUR_P

/-- The part of R268 with at least four samples, at a device that acquires or follows a parent: state, freq, slew and
step. -/
def State.controlLaw (s : State) (th : Int) : State × Int × Int :=
  let s0 := (s.tmod fun t => { t with lastGood := s.kclk, samples := [] }).wr TIM_OFFSET (unsgn 32 (s.thPs th))
  if s.tst = 1 ∧ s.thAbove th 2 then
    if s.thAbove th (10 * s.rd TIM_LOOP_STEPMAX) ∧ !s.on TIM_CTL_STEPOK then ((s0.raise EV_TIM_STEPREQ).enterT 3, 0, 0)
    else (s0.tmod fun t => { t with good := 0, big := 0 }, 0, th)
  else
    let f0 := if s.tRole = 2 then 0 else clampInt (-(ppm 100)) (ppm 100) (sgn 32 (s.rd TIM_FREQ) + s.thRate th (s.rd TIM_LOOP_KI))
    let lim := ppm (min 20 (s.rd TIM_LOOP_SLEW))
    let slew := clampInt (-lim) lim (s.thRate th (s.rd TIM_LOOP_KP))
    let ok := !s.thAbove th 2
    let good := if ok then s.time.good + 1 else 0
    let big := if s.thAbove th 1000 then s.time.big + 1 else 0
    let s1 := (s0.tmod fun t => { t with good := good, big := big }).wr TIM_FREQ (unsgn 32 f0)
    let s2 := if s.tst ≠ 2 ∧ (8 ≤ good ∨ (s.tst = 3 ∧ ok)) then s1.enterT 2 else s1
    (if big = 8 then (s2.tmod fun t => { t with good := 0, big := 0 }).enterT 1 else s2, slew, 0)

/-- CORRECTION_SEND_POINT (R265, R268, R272). -/
def execCorrectionSendPoint (s : State) : Host.Outcome State Fault Refusal :=
  s.done <| s.onB fun s =>
    if s.tRole = 0 ∨ s.tst = 0 ∨ !s.time.taken then s
    else if s.tRole = 2 ∧ s.tst = 2 then s.sendCorr s.continuation (incNom (s.periodFrom s.continuation)) false
    else
      let (s1, slew, step) :=
        if 4 ≤ s.time.samples.length then s.controlLaw (medianOf s.time.samples)
        else
          let s1 := s.tmod fun t => { t with samples := [], big := 0 }
          (if decide (s.time.lastGood + 2 * s.epochK ≤ s.kclk) && s.tst != 1 then s1.enterT 3 else s1, 0, 0)
      let freq := if s.tRole = 2 then 0 else sgn 32 (s1.rd TIM_FREQ)
      let f0 := ((s.continuation : Int) + step).toNat
      s1.sendCorr f0 (incFor (s.periodFrom f0) freq slew) (step != 0)

/-! ## Two-way time transfer (R261 to R264) -/

/-- The parent link answers time transfer. -/
def State.parentOk (s : State) : Bool :=
  let n := s.rd TIM_CTL_PARENT
  s.linkUp n && bitAt (s.rd (LNK_CAPS n)) 2

/-- This device follows its parent link's time: a leader, or a root that acquires (R261, R272). -/
def State.learns (s : State) : Bool := s.tRole == 1 || (s.tRole == 2 && s.tst != 2)

/-- TT_REQ goes out: a leader's, or that of a root that acquires from its parent. -/
def State.measures (s : State) : Bool := s.tst != 0 && (s.tRole == 1 || (s.tRole == 2 && s.on TIM_CTL_PEN && s.tst != 2))

/-- TT_REQ_TIMER (R264). -/
def execTtReqTimer (s : State) : Host.Outcome State Fault Refusal :=
  s.done <| s.onB fun s =>
    if s.measures && s.parentOk then
      let q := s.time.ttSeq
      let full := s.tst == 1
      let e : Exchange := { seq := q, full := full, t1 := none, flit := 0, replayed := false, got := none }
      (s.tmod fun t => { t with tt := t.tt.filter (fun x => x.seq != q) ++ [e], ttSeq := (q + 1) % 256 }).sendByp (s.rd TIM_CTL_PARENT)
        (BitVec.ofNat 128 (pack [(0, 8, 0x20), (8, 8, q), (16, 1, b2n full)]))
    else s

/-- An exchange is rejected. -/
def State.ttReject (s : State) (e : Exchange) : State := (s.tmod fun t => { t with tt := t.tt.filter fun x => x.seq != e.seq }).raise EV_TIM_TTREJ

/-- TT_RSP_TIMEOUT (R264). -/
def execTtRspTimeout (seq : Nat) (s : State) : Host.Outcome State Fault Refusal :=
  s.done <| s.onB fun s =>
    match s.time.tt.find? fun e => e.seq = seq with
    | some e => s.ttReject e
    | none => s

/-- TT_REQ (R263): answered with TT_RSP, and TT_CYC when FULL; TT_PCHG follows while a period change is pending
(R273). t3 and its cycle are stamped as the flits leave. -/
def execTtReq (n seq : Nat) (full : Bool) (s : State) : Host.Outcome State Fault Refusal :=
  onLink n s fun s =>
    let t2 := s.rxStamp n
    let s1 := s.dropByp n 0x20
    let pend := s.time.pchg.isSome
    let s2 := s1.sendByp n (BitVec.ofNat 128 (pack [(0, 8, 0x21), (8, 8, seq), (16, 1, s.rd TIM_STATUS_STALE), (17, 1, b2n pend), (24, 48, stampBytes t2)]))
    let s3 := if full then s2.sendByp n (BitVec.ofNat 128 (pack [(0, 8, 0x22), (8, 8, seq), (64, 21, s.rd TIM_PCUR_P)])) else s2
    match s.time.pchg with
    | some (p, ce) => s3.sendByp n (BitVec.ofNat 128 (pack [(0, 8, 0x23), (8, 21, p), (32, 48, ce)]))
    | none => s3

/-- RTTMIN: the smallest RTT accepted in the last second (R264). -/
def State.rttMin (s : State) : Option Nat :=
  match (s.time.rtts.filter fun (e : Nat × Nat) => decide (s.kclk < e.1 + 1562500000)).map (·.2) with
  | [] => none
  | r :: rs => some (rs.foldl min r)

/-- Stamp units (2^-8 au) of 10 ns, rounded down. -/
def State.ns10 (s : State) : Nat := 10 * 100 * 2 ^ 24 / (64 * max 1 (s.rd TIM_PCUR_P))

/-- A round trip in picoseconds. -/
def State.rttPs (s : State) (r : Nat) : Nat := (r * s.rd TIM_PCUR_P * 640) >>> 24

/-- An accepted exchange gives a sample (R263, R264); one taken while a step is on its way is discarded. -/
def State.addSample (s : State) (e : Exchange) (theta : Int) (rtt : Nat) : State :=
  let rs := s.time.rtts.filter (fun (x : Nat × Nat) => decide (s.kclk < x.1 + 1562500000)) ++ [(s.kclk, rtt)]
  let s1 := s.tmod fun t => { t with tt := t.tt.filter (fun x => x.seq != e.seq), rtts := rs, sampled := true,
                                     samples := if t.stepDue then t.samples else t.samples ++ [theta] }
  (s1.wr TIM_RTT (s.rttPs rtt)).wr TIM_RTTMIN (s.rttPs (s1.rttMin.getD rtt))

/-- Offset and round trip of stamps (R263), in units of 2^-9 au and 2^-8 au. -/
def thetaOf (t1 t2 t3 t4 : Nat) : Int := sgn 48 ((t2 + 2 ^ 48 - t1) % 2 ^ 48) - sgn 48 ((t4 + 2 ^ 48 - t3) % 2 ^ 48)
def rttOf (t1 t2 t3 t4 : Nat) : Int := sgn 48 ((t4 + 2 ^ 48 - t1) % 2 ^ 48) - sgn 48 ((t3 + 2 ^ 48 - t2) % 2 ^ 48)

/-- TT_RSP (R264): stamps t2 and t3 as their 6 bytes. One that asked for TT_CYC waits for it. -/
def execTtRsp (n seq : Nat) (stale _pend : Bool) (t2 t3 : Nat) (s : State) : Host.Outcome State Fault Refusal :=
  onLink n s fun s =>
    let s0 := s.dropByp n 0x21
    match s.time.tt.find? fun e => e.seq = seq with
    | none => s0
    | some e =>
      if n ≠ s.rd TIM_CTL_PARENT then s0
      else
        let t4 := s.rxStamp n
        let a := stampOf (e.t1.getD 0)
        let r := rttOf a (readStamp t2) (readStamp t3) (stampOf t4)
        let ovr := (match s.rttMin with
          | some m => decide ((m + s.ns10 : Nat) < r)
          | none => false)
        if e.t1.isNone || e.replayed || stale || ovr then s0.ttReject e
        else if e.full then
          s0.tmod fun t => { t with tt := t.tt.map fun x => if x.seq = seq then { x with got := some (readStamp t2, readStamp t3, t4) } else x }
        else s0.addSample e (thetaOf a (readStamp t2) (readStamp t3) (stampOf t4) * 2 ^ 31) r.toNat

/-- TT_CYC (R262): the full cycle of t3 places the offset; the period in force at the responder is learned (R273). -/
def execTtCyc (n seq cyc period : Nat) (s : State) : Host.Outcome State Fault Refusal :=
  onLink n s fun s =>
    let s0 := s.dropByp n 0x22
    match s.time.tt.find? fun e => e.seq = seq && e.got.isSome with
    | none => s0
    | some e =>
      if n ≠ s.rd TIM_CTL_PARENT then s0
      else if period ≠ s.rd TIM_PCUR_P ∧ s.learns ∧ s.time.pchg.isNone then (s0.tmod fun t => { t with tt := [], samples := [] }).latePeriod period 0
      else
        match e.got with
        | none => s0
        | some (t2, t3, t4) =>
          let a := stampOf (e.t1.getD 0)
          let far := (((cyc <<< 24 + t3 % 2 ^ 24 : Nat) : Int) - ((t4 >>> 32 : Nat) : Int) - sgn 48 ((t3 + 2 ^ 48 - stampOf t4) % 2 ^ 48)) / 2 ^ 48
          s0.addSample e (thetaOf a t2 t3 (stampOf t4) * 2 ^ 31 + far * 2 ^ 80) (rttOf a t2 t3 (stampOf t4)).toNat

/-- TT_PCHG (R273): a change learned in time is pending; one learned after C_eff makes a leader acquire. A root that
acquires learns as a leader does (R272). -/
def execTtPchg (n period ceff : Nat) (s : State) : Host.Outcome State Fault Refusal :=
  onLink n s fun s =>
    let s0 := s.dropByp n 0x23
    if n ≠ s.rd TIM_CTL_PARENT ∨ !s.learns then s0
    else if s.cycle < ceff then s0.tmod fun t => { t with pchg := some (period, ceff) }
    else if period = s.rd TIM_PCUR_P then s0
    else s0.latePeriod period ceff

/-- TCORR_A (R266): the first half waits for the second. -/
def execTcorrA (n seq : Nat) (stale step : Bool) (f0 : Nat) (s : State) : Host.Outcome State Fault Refusal :=
  onLink n s fun s =>
    let c : Corr := { seq := seq, stale := stale, step := step, f0 := f0, inc := 0, period := 0, ceff := 0 }
    (s.dropByp n 0x24).tmod fun t => { t with half := t.half.filter (fun (e : Nat × Corr) => e.1 != n) ++ [(n, c)] }

/-- TCORR_B (R261, R266, R273): a new correction is relayed, and held for the next marker unless it is late. -/
def execTcorrB (n seq inc period ceff : Nat) (s : State) : Host.Outcome State Fault Refusal :=
  onLink n s fun s =>
    match (s.dropByp n 0x25).time.half.find? fun (e : Nat × Corr) => e.1 == n && e.2.seq == seq with
    | none => s.dropByp n 0x25
    | some (_, a) =>
      let s0 := (s.dropByp n 0x25).tmod fun t => { t with half := t.half.filter fun (e : Nat × Corr) => e.1 != n }
      let c : Corr := { a with inc := inc, period := period, ceff := ceff }
      let ahead := (match s.time.lastSeq with
        | some q => let d := (seq + 256 - q) % 256; decide (1 ≤ d ∧ d ≤ 127)
        | none => true)
      if s.tRole ≠ 0 then (if s.time.own = some c then s0 else s0.raise EV_TIM_DUPLEAD)
      else if !ahead then s0
      else
        let s1 := (s0.floodCorr (some n) c).tmod fun t => { t with lastSeq := some seq }
        if !s.time.taken then s1
        else if s.time.frozen then s1.raise EV_TIM_LATECORR
        else
          let s2 := s1.tmod fun t => { t with held := some c }
          if period = s.rd TIM_PCUR_P then s2
          else if c.f0 >>> 56 ≤ ceff then s2.tmod fun t => { t with pchg := some (period, ceff) }
          else (s2.tmod fun t => { t with held := none }).latePeriod period ceff

/-! ## Timers -/

/-- HOLDMAX_EXPIRY (R269). -/
def execHoldmaxExpiry (s : State) : Host.Outcome State Fault Refusal :=
  s.done <| s.onB fun s => if s.tst = 3 then (s.tmod fun t => { t with holdStale := true }).setStale else s

/-- ROOT_START_TIMEOUT (R272): a root without an accepted sample starts at its next marker. -/
def execRootStartTimeout (s : State) : Host.Outcome State Fault Refusal :=
  s.done <| s.onB fun s => if s.tRole = 2 ∧ (s.tst = 1 ∨ s.tst = 3) ∧ !s.time.sampled then s.tmod fun t => { t with startSet := true } else s

/-- TIME_SEND_TIMER (R118): cycle, angle, the KCNT at which that angle began, and STALE. -/
def execTimeSendTimer (s : State) : Host.Outcome State Fault Refusal :=
  s.done <| s.onB fun s =>
    let back := if s.incr = 0 then 0 else s.fnow % 2 ^ 40 / s.incr
    s.sendT 3 (mkMsg [(0, 8, 0x53), (16, 48, s.cycle), (64, 16, s.angle), (80, 32, s.kclk + 2 ^ 32 - back), (112, 1, s.rd TIM_STATUS_STALE)])

/-! ## What writes of registers do (R273, R194) -/

/-- GO of KB_TIM_PCYC_HI (R273): only the root changes the period. -/
def State.periodGo (s : State) : State :=
  let p := s.rd TIM_PNEW_P
  let ce := s.rd2 TIM_PCYC_LO TIM_PCYC_HI_CEFF
  let per := s.epochK / max 1 (s.rd TIM_PCUR_P)
  let ok := s.tRole = 2 ∧ 78125 ≤ p ∧ p ≤ 1562500 ∧ s.epochK % p = 0 ∧ s.time.f0 % 2 ^ 56 = 0 ∧ s.time.f0 >>> 56 ≤ ce ∧
    (ce - s.time.f0 >>> 56) % max 1 per = 0 ∧ s.ahead (instant ce 0) 1562500000
  if ok then s.tmod fun t => { t with pchg := some (p, ce) } else s.raise EV_TIM_PREJ

/-- KB_LNK_KLOAD.GO (R194): the staged key waits for its epoch, or the load is refused. -/
def State.keyLoad (s : State) (n : Nat) (rx : Bool) : State :=
  let l := s.lk n
  let cyc := s.rd2 (LNK_KCYC_LO n) (LNK_KCYC_HI_CYCLE n)
  let i := instant cyc (s.rd (LNK_KCYC_HI_ANGLE n))
  let last := if rx then l.lastRxEp else l.lastTxEp
  let soon := (match last with
    | some k => decide (i * s.rd TIM_PCUR_P < k * s.rd TIM_PCUR_P + 1562500 * 65536)
    | none => false)
  let busy := if rx then l.rxPend.isSome else l.txPend.isSome
  if !s.ahead i 15625 || soon || busy then s.raise (EV_LNKR_KREJ n)
  else
    let k : PendKey := { key := BitVec.ofNat 256 (pack ((List.range 8).map fun j => (32 * j, 32, s.rd (LNK_KEY n j)))), salt := s.rd (LNK_KSALT n),
                         cyc := cyc, ang := s.rd (LNK_KCYC_HI_ANGLE n) }
    if rx then (s.setLk n { l with rxPend := some k }).wr (LNK_KSTAT_RXPEND n) 1
    else (s.setLk n { l with txPend := some k }).wr (LNK_KSTAT_TXPEND n) 1

/-- KEY_EPOCH (R194, R182): the epoch time of a direction's load. -/
def execKeyEpoch (n : Nat) (rx : Bool) (s : State) : Host.Outcome State Fault Refusal :=
  onLinkSel n s fun s => s.keyEpoch n rx

end Sys2Proof.Machine
end

