-- ==== Sys2Proof/Machine/Regs.lean ====
section
/-!
DEFINITION. Reading and writing registers (chapter 15 and R463 to R469 of spec/): what an offset reaches for each source,
who may write it, what a read returns, and what a write does besides storing its fields. A key below tBase is an offset
of Kalvon-B; tBase + offset is one of Kalvon-T.
-/
namespace Sys2Proof.Machine

/-! ## What an offset reaches (R465, R466) -/

/-- The number of a source's copies of the selectors (R466). -/
def copyOf : Master → Nat
  | .side => 0
  | .bPort => 1
  | .tunnel => 2
  | .tPort => 3
  | .debug => 4

/-- The selector registers (R466). -/
def selectors : List Nat := [0x8040, 0x80100, 0x80120, 0xa0020, 0xb3820, 0xf3800, 0xf4014, tBase + 0x2040, tBase + 0x8014]

/-- The home of the register that an access reaches; none where the selector selects nothing (R109, R465). -/
def State.homeOf (s : State) (src : Master) (key : Nat) : Option Nat :=
  let c := copyOf src
  let within := fun lo hi => decide (lo ≤ key ∧ key ≤ hi)
  if selectors.contains key then some (selKey c key)
  else if within 0x8044 0x804c || within 0x8100 0x8213 || within 0x8300 0x83ff || within 0x8480 0x8493 then
    let g := s.rd (BND_SEL_GROUP c)
    if g < s.groups then some (groupKeyB g + (if 0x8480 ≤ key then key - 0x8480 + 0x400 else key - 0x8000)) else none
  else if within 0x80104 0x80114 then some (flowKey (s.rd (DLV_SSEL_FLOW c)) + (key - 0x80100))
  else if within 0x80124 0x8012c then some (dlogKey (s.rd (DLV_DSEL_ENTRY c)) + (key - 0x80120))
  else if within 0xa0024 0xa002c then some (pourKey (s.rd (POR_ESEL_ENTRY c)) + (key - 0xa0020))
  else if within 0xb3824 0xb3830 then some (progKey (s.rd (BLD_PSEL_PROG c)) + (key - 0xb3820))
  else if within 0xb3900 0xb397f then some (progKey (s.rd (BLD_PSEL_PROG c)) + (key - 0xb3820))
  else if within 0xf3804 0xf386f then some (trackKey (s.rd (TEL_TSEL_ENTRY c)) + (key - 0xf3800))
  else if within 0xf4100 0xf41fb then
    let g := s.rd (BND_SEL_GROUP c)
    let w := s.rd (TST_HSEL_WIRE c)
    if g < s.groups ∧ w < 69 then some (histKey 0 g w + (key - 0xf4100)) else none
  else if within (tBase + 0x2100) (tBase + 0x2213) || within (tBase + 0x2300) (tBase + 0x2413) then
    let g := s.rd (KT_BND_SEL_GROUP c)
    if g < s.groups then some (groupKeyT g + (key - tBase - 0x2000)) else none
  else if within (tBase + 0x8100) (tBase + 0x81fb) then
    let g := s.rd (KT_BND_SEL_GROUP c)
    let w := s.rd (KT_TST_HSEL_WIRE c)
    if g < s.groups ∧ w < 69 then some (histKey 1 g w + (key - tBase - 0x8100)) else none
  else some key

/-- Registers of links and bond tiles that the build does not have (R465). -/
def State.beyondBuild (s : State) (key : Nat) : Bool :=
  (0x10000 ≤ key && key < 0x20000 && s.links ≤ (key - 0x10000) / 0x400) || (0x8400 ≤ key && key < 0x8440 && s.tiles ≤ (key - 0x8400) / 4)

/-- An access reaches no register: it lies beyond the build, or the selector selects nothing (R465). -/
def State.reachesNone (s : State) (src : Master) (key : Nat) : Bool := s.beyondBuild key || (s.homeOf src key).isNone

/-! ## What a read returns -/

/-- The event register of an interrupt source (R418). -/
def evtKey (src : Nat) : Option Nat :=
  if src < 13 then [0x8010, 0x8830, 0x20040, 0x80040, 0x90060, 0xa0040, 0xb0040, 0xb3840, 0xe0040, 0x2040, 0x3060, 0x4100, 0xf3040][src]?
  else if 16 ≤ src ∧ src < 80 then some (0x10040 + 0x400 * (src - 16))
  else if 80 ≤ src ∧ src < 144 then some (0x10160 + 0x400 * (src - 80))
  else if 144 ≤ src ∧ src < 147 then some (tBase + [0x2010, 0x4010, 0x1010].getD (src - 144) 0)
  else none

/-- The interrupt source of an event register or of its enable. -/
def sourceOf (key : Nat) : Option Nat :=
  if 0x10000 ≤ key ∧ key < 0x20000 then
    let n := (key - 0x10000) / 0x400
    let o := key % 0x400
    if o = 0x40 ∨ o = 0x44 then some (16 + n) else if o = 0x160 ∨ o = 0x164 then some (80 + n) else none
  else ((List.range 13) ++ [144, 145, 146]).find? fun src => evtKey src == some key || evtKey src == some (key - 4)

/-- The sources asserted, 32 from the first on (KB_GLB_ISRC). -/
def State.sourcesFrom (s : State) (first : Nat) : Nat :=
  pack ((List.range 32).map fun k => (k, 1, match evtKey (first + k) with
    | some e => b2n (decide (first + k < 144) && s.asserted e)
    | none => 0))

/-- A shared setting until Kalvon-T has acknowledged it: the old value, in either half (R25 rule 3). -/
def State.sharedOld (s : State) (key now : Nat) : Nat :=
  match s.boot.shared.find? fun e => e.1 = key with
  | some e => e.2.2
  | none => now

/-- The word of a register, with shared settings as R25 rule 3 has them read. -/
def State.heldWord (s : State) (h : Nat) : Nat :=
  let w := (s.word h).toNat
  if s.boot.shared.isEmpty || h == 0x1040 then w
  else if h = PAC_STATUS_OPP.key then setBits w PAC_STATUS_OPP.lo PAC_STATUS_OPP.w (s.sharedOld (tBase + 0x6020) (s.rd PAC_STATUS_OPP))
  else s.sharedOld h w

/-- What a register shows: its word, with the fields that other state decides. -/
def State.shown (s : State) (h : Nat) : Nat :=
  let w := s.heldWord h
  if h = 4 ∨ h = tBase + 4 then s.buildWord
  else if 0x1000 ≤ h ∧ h < 0x1014 then s.sourcesFrom (32 * ((h - 0x1000) / 4))
  else if h = 0xf0024 then pack [(0, 9, s.alarmsPending.length), (16, 9, s.alarmsPending.headD 0x1FF)]
  else if 0xb0500 ≤ h ∧ h < 0xb0600 then setBits w 11 5 (if s.on BLD_CTL_SHEN && !s.on (BLD_LSPR_SPUSE ((h - 0xb0500) / 4)) && !s.on (BLD_LSPR_SPOUT ((h - 0xb0500) / 4)) then s.shadowTarget else 0)
  else if h = tBase + 0x2000 then setBits w 4 1 (s.rd BND_STATUS_RATE)
  else if tBase + 0x6010 ≤ h ∧ h ≤ tBase + 0x6020 then (if s.portsReady then w else 0)
  else if 0x2000000 ≤ h ∧ h < 0x4000000 then
    let g := (h - 0x2000000) / 0x1000
    if h % 0x1000 = 0x44 then setBits (setBits (setBits w 3 3 (gPhase g)) 2 1 (b2n (gBT g))) 0 2 (s.cls g)
    else if h % 0x1000 = 0x4c then s.spmapRead g
    else if gBT g && decide (0x100 ≤ h % 0x1000) && decide (h % 0x1000 < 0x214) then setBits w 0 6 0
    else w
  else if 0x4000000 ≤ h ∧ h < 0x6000000 ∧ 0x100 ≤ h % 0x1000 then (if gBT ((h - 0x4000000) / 0x1000) then w else 0)
  else w

/-- The word a read of an offset returns, latches apart: 0 for an unassigned offset (R21), for a register beyond the
build and for a selector that selects nothing (R465); 0 in write-only fields (R18). -/
def State.readNow (s : State) (src : Master) (key : Nat) : Nat :=
  match regRow key with
  | none => 0
  | some r =>
    if s.beyondBuild key then 0
    else
      match s.homeOf src key with
      | some h => s.shown h &&& r.mask (fun f => decide (f.acc ≠ .wo))
      | none => 0

/-! ## The latches of pairs (R467, R324) -/

/-- The place of a source's latch for a register. -/
def latchKey (src : Master) (key : Nat) : Nat := 2 ^ 40 * copyOf src + key

/-- A latch: its word, and in the place after it whether it is set. -/
def State.latch (s : State) (src : Master) (key : Nat) : Option Nat :=
  let k := latchKey src key
  if Sparse.get (fun _ => (0 : Word)) s.latches (k + 1) = 0 then none else some (Sparse.get (fun _ => (0 : Word)) s.latches k).toNat

def State.setLatch (s : State) (src : Master) (key : Nat) (v : Option Nat) : State :=
  let k := latchKey src key
  { s with latches := Sparse.set (fun _ => (0 : Word)) (Sparse.set (fun _ => (0 : Word)) s.latches k (BitVec.ofNat 32 (v.getD 0))) (k + 1) (if v.isSome then 1 else 0) }

/-- A register is the _HI of a pair. -/
def isHi (key : Nat) : Bool := 4 ≤ key && isLo (key - 4)

/-- A read by a source: the word, and the state with its latches. A read of a _LO register latches its _HI register;
KB_TIM_CYC_LO latches KB_TIM_ANGLE too. A latch serves the source's next access to its register, and
none serves a register that the build does not have. -/
def State.regRead (s : State) (src : Master) (key : Nat) : Nat × State :=
  let now := s.readNow src key
  if isLo key then
    let s1 := s.setLatch src (key + 4) (some (s.readNow src (key + 4)))
    (now, if key = 0x90014 then s1.setLatch src 0x9001c (some (s.readNow src 0x9001c)) else s1)
  else if 0x40000 ≤ key && key < 0x80000 then
    -- an entry of the routing table is read through its check bits (R203); the stored bits are returned all the same
    let i := (key - 0x40000) / 4
    let (s1, bad) := s.eccRead 0 i
    (now, s1.raiseIf bad EV_RTE_TBLERR (some i))
  else if isHi key || key == 0x9001c then (if s.reachesNone src key then 0 else (s.latch src key).getD now, s.setLatch src key none)
  else (now, s)

/-- A write is an access to the pair too. -/
def State.unlatch (s : State) (src : Master) (key : Nat) : State :=
  if isLo key then s.setLatch src (key + 4) none else if isHi key then s.setLatch src key none else s

/-! ## Ownership, locks, the host fence (R408 to R411) -/

/-- The owner code of the page of an offset. -/
def State.ownerOf (s : State) (key : Nat) : Nat :=
  if key < tBase then bits (s.word (0x4000 + 4 * (key / 0x10000))).toNat (2 * (key / 0x1000 % 16)) 2
  else bits (s.word 0x4040).toNat (2 * ((key - tBase) / 0x1000 % 16)) 2

/-- The registers that belong to the side-band on every page (R409). -/
def sideOnly (key : Nat) : Bool :=
  (0x10000 ≤ key && key < 0x20000 && 0x210 ≤ key % 0x400 && key % 0x400 < 0x240) || key == 0xe0008 || key == 0xe0024 || key == 0x300c ||
  (0x3040 ≤ key && key < 0x3050) || key == 0x2010 || (0x1020 ≤ key && key < 0x1034)

/-- A master may write a page. -/
def State.mayPage (s : State) (side : Bool) (key : Nat) : Bool :=
  if 0x4000 ≤ key ∧ key < 0x5000 then side
  else
    match s.ownerOf key with
    | 1 => !side
    | 2 => side
    | _ => true

/-- The lock bits of a half's pages. -/
def isLockReg (key : Nat) : Bool := 0x4060 ≤ key && key < 0x4084

/-- A master may lock the pages that the 1 bits of a write to a lock register name: those it may write (R410). -/
def State.mayLock (s : State) (side : Bool) (key v : Nat) : Bool :=
  (List.range 32).all fun k => !bitAt v k ||
    (if key = 0x4080 then 16 ≤ k || s.mayPage side (tBase + 0x1000 * k) else s.mayPage side (0x1000 * (32 * ((key - 0x4060) / 4) + k)))

/-- A master may write a register (R408 to R410). -/
def State.mayWrite (s : State) (side : Bool) (key v : Nat) : Bool :=
  if isLockReg key then s.mayLock side key v else if sideOnly key then side else s.mayPage side key

/-- The page of an offset is locked. -/
def State.pageLocked (s : State) (key : Nat) : Bool :=
  if key < tBase then bitAt (s.word (0x4060 + 4 * (key / 0x20000))).toNat (key / 0x1000 % 32) else bitAt (s.word 0x4080).toNat ((key - tBase) / 0x1000 % 16)

/-- Kalvon-B's shared settings of which Kalvon-T holds working copies (R25, R407): the FNA, the owners and the locks of Kalvon-T's
pages, and the side-band's fence (assumption 34). -/
def copiedKeys : List Nat := [0x20000, 0x4040, 0x4080, 0x1040]

/-- Kalvon-T's working copy of one of them. -/
def State.tCopy (s : State) (key : Nat) : Word := Sparse.get regReset s.xing.copies key

/-- What a half checks an access by: Kalvon-B by its registers, Kalvon-T by its working copies (R407). -/
def State.viewOf (s : State) (key : Nat) : State :=
  if tBase ≤ key then copiedKeys.foldl (fun (v : State) k => v.setWord k (s.tCopy k)) s else s

/-- A refusal recorded (R411, R421, R426): 1 ownership, 2 lock, 3 host fence. -/
def State.refuse (s : State) (src : Master) (key why : Nat) : State :=
  if s.bReset then s
  else
    let code := match src with
      | .side => 1
      | .debug => 3
      | _ => 0
    let w := pack [(31, 1, b2n (decide (tBase ≤ key))), (29, 2, code), (27, 2, why), (0, 20, key % tBase)]
    let bit := if why = 2 then 2 else if src = .side then 1 else 0
    let s1 := (s.setWord 0x4110 (BitVec.ofNat 32 w)).raise (if why = 2 then EV_OWN_LOCKIGN else if src = .side then EV_OWN_SREFUSE else EV_OWN_HREFUSE)
    s1.log 11 2 bit w

/-! ## Storing a write (R18) -/

/-- Write-only fields that a later command uses: the staged key and the fence command. -/
def isStaged (key : Nat) : Bool :=
  (0x10000 ≤ key && key < 0x20000 && 0x210 ≤ key % 0x400 && key % 0x400 < 0x23c) || key == 0x20060 || key == 0x20064

/-- The flags of a register that hardware has set in this KCLK: a write of 1 leaves them set (R19). -/
def State.freshBits (s : State) (h : Nat) : Nat := (s.mgmt.fresh.filter fun e => e.1 = h).foldl (fun m e => m ||| 2 ^ e.2) 0

/-- The word after a write: each field by its own access; `keep` holds the locked fields, `fresh` the flags set in this KCLK. -/
def newWord (r : RegRow) (staged : Bool) (old v keep : Nat) (fresh : Nat := 0) : Nat :=
  let put := r.mask (fun f => decide (f.acc = .rw) || decide (f.acc = .rwl) || (staged && decide (f.acc = .wo)))
  let m1 := mixBits (put &&& (0xFFFFFFFF ^^^ keep)) old v
  (m1 &&& (0xFFFFFFFF ^^^ ((v &&& r.mask (fun f => decide (f.acc = .w1c))) &&& (0xFFFFFFFF ^^^ fresh)))) ||| (v &&& r.mask (fun f => decide (f.acc = .w1s)))

/-- A register word stored; its retained fields are Caddy's. -/
def State.store (s : State) (h v : Nat) : State :=
  let s1 := s.setWord h (BitVec.ofNat 32 v)
  if retMask h != 0 && s.restored then (s1.setCword h (BitVec.ofNat 32 (v &&& retMask h))).wantSnap h else s1

/-! ## What writes do besides (R468) -/

/-- KB_LNK_CTL of link n has been written over `old` (R151, R153, R154, R164). -/
def State.linkCtl (s : State) (n old v : Nat) : State :=
  let s1 := if s.on (LNK_CTL_EN n) then s.tryEnable n else if s.lst n = 0 ∧ s.rd (LNK_RSTAT_DSTATE n) ≠ 2 then s else s.reselect fun s => s.linkOff n
  let was := max 1 (widthOf (bits old 1 2))
  let s2 := if s1.wmax n = was then s1 else s1.wmaxChanged n was
  let s3 := if bitAt old 3 = s.on (LNK_CTL_PARK n) then s2 else s2.parkChanged n
  if bitAt v 4 then s3.reselect fun s => s.startRetrain n true else s3

/-- A register of a link page has been written. -/
def State.linkReg (s : State) (n o old v : Nat) : State :=
  if o = 0x4 then s.linkCtl n old v
  else if o = 0x1c then s.tryEnable n
  else if o = 0x2c then (if bitAt v 0 then (s.reselect fun s => s.nbrAccept n).wr (LNK_NBR_ACCEPT n) 0 else s)
  else if o = 0x200 then (if bits old 0 1 = s.rd (LNK_SEC_EN n) then s else s.secChanged n)
  else if o = 0x23c then (if bitAt v 0 then s.keyLoad n (bitAt v 1) else s)
  else if o = 0x300 then (if bitAt v 0 then s.laneLoop n else s)
  else s

/-- A routing table entry or mesh register has been written over `old` (R203, R206). -/
def State.selection (s : State) (usable key : Nat) (old : Word) : State :=
  let s1 : State := if 0x40000 ≤ key then s.eccWrite 0 ((key - 0x40000) / 4) else s
  let s2 := if s1.word key = old then s1 else s1.noteChange usable key old
  (s2.settle (s2.route.queued.length + 1)).sweepRoutes

/-- KB_DLV_SCMD for a flow (R228, R241). -/
def State.scmd (s : State) (f cmd : Nat) : State :=
  if cmd = 1 then s.scmdClose f else if cmd = 2 then s.scmdBreak f else if cmd = 3 then s.scmdFree f else s

/-- KB_POR_ACMD (R282). -/
def State.acmd (s : State) (v : Nat) : State :=
  if !bitAt v 16 then s
  else if bitAt v 17 then (if s.pour.arming.isSome then s else (s.wr POR_ASTAT_ENTRY (bits v 0 14)).disarm (bits v 0 14))
  else s.armCmd { entry := bits v 0 14, prog := none, ovr := none }

/-- KB_BLD_DCMD (R307, R308). -/
def State.dcmd (s : State) (v : Nat) : State :=
  let op := bits v 8 3
  if 1 ≤ op ∧ op ≤ 3 then s.blendCmd { op := op, rd := bits v 0 8, prog := none, k0 := 0, n := 0, to_ := 0, clear := false, free := false, force := false } else s

/-- KB_BLD_PCMD (R327). -/
def State.pcmd (s : State) (v : Nat) : State :=
  if bits v 16 2 = 1 then s.progStart (bits v 0 12) else if bits v 16 2 = 2 then s.progStop (bits v 0 12) else s

/-- KB_BND_DIR_CTL (R132, R138). -/
def State.dirCtl (s : State) (v : Nat) : State :=
  let s1 := if bitAt v 1 then s.flushDir fun _ => true else s
  if bitAt v 0 then ((s1.wr BND_DIR_CTL_RFLUSH 1).flushDir fun k => s1.remoteHome (s1.dirLaddr k)).rflushDone else s1

/-- What a write of `v` to the offset `key`, stored at its home `h` over `old`, does besides. -/
def State.acts (s : State) (usable key h : Nat) (old : Word) (v : Nat) : State :=
  if 0x10000 ≤ key ∧ key < 0x20000 then s.linkReg ((key - 0x10000) / 0x400) (key % 0x400) old.toNat v
  else if (0x20010 ≤ key ∧ key < 0x20030) ∨ (0x40000 ≤ key ∧ key < 0x80000) then s.selection usable key old
  else if key = 0x20000 then (s.selfFences).shareSetting key old
  else if key = 0x4040 ∨ key = 0x4080 then s.shareSetting key old
  else if key = 0x20068 then (if bitAt v 0 then s.fenceCmd none (bitAt v 1) (s.rd RTE_FCMD_FNA_FNA) (s.rd RTE_FCMD_ARG_INC) (s.rd RTE_FCMD_ARG_GEN) else s)
  else if key = 0x8820 then s.dirCtl v
  else if key = 0x80114 then s.scmd ((h - 0x10000000) / 0x20) (bits v 0 2)
  else if key = 0x8012c then (if bitAt v 0 then s.freeLog ((h - 0x10100000) / 0x20) else s)
  else if key = 0x90054 then (if bitAt v 31 then s.periodGo else s)
  else if key = 0xa0004 then (if s.on POR_CTL_EN then s else s.disarmAll)
  else if key = 0xa0010 then s.acmd v
  else if key = 0xb0010 then s.dcmd v
  else if key = 0xb3810 then s.pcmd v
  else if key = 0xe0010 then (if bitAt v 31 then s.oppRequest (bits v 0 4) else s)
  else if key = 0xe0024 then (if bitAt v 0 then s.tripClear else s)
  else if key = 0x2010 then (let s1 := if bitAt v 1 then s.defaultCmd else s; if bitAt v 0 then s1.snapCmd else s1)
  else if key = 0x3048 then s.flashCmd (bits v 0 2)
  else if key = 0xf3010 then s.margClear (bits v 0 5)
  else if key = 0xf4004 then (if bitAt v 8 then s.calGo else s)
  else if key = 0xf400c then (if bitAt v 8 then s.bondLoop true else s)
  else if key = 0xf4020 then (if bitAt v 8 then s.mbistGo true else s)
  else if key = tBase + 0x4008 then (if bitAt v 1 then s.flushRlc else s)
  else if key = tBase + 0x800c then (if bitAt v 8 then s.bondLoop false else s)
  else if key = tBase + 0x8020 then (if bitAt v 8 then s.mbistGo false else s)
  else s

/-- A write to the program store (R324): the low half is staged, for each source on its own; the high half commits both. -/
def State.prgWrite (s : State) (src : Master) (key v : Nat) : State :=
  let stage := 2 ^ 40 * copyOf src + 0xc0000
  if key % 8 = 0 then { s with latches := Sparse.set (fun _ => (0 : Word)) s.latches stage (BitVec.ofNat 32 v) }
  else ((s.setWord (key - 4) (Sparse.get (fun _ => (0 : Word)) s.latches stage)).setWord key (BitVec.ofNat 32 v)).eccWrite 2 ((key - 0xc0000) / 8)

/-- The place of a source in the order in which writes of one register in one KCLK are applied; programs come before, by their
number (R406). The tunnel's place is that of every other host access. -/
def rankOf : Master → Nat
  | .side => 4096
  | .bPort => 4097
  | .tunnel | .tPort | .debug => 4098

/-- A write that may take place, applied: descriptors in use (R306) and programs that run (R325) refuse writes of their
configuration; an event register or its enable may change its source. Where a source of a later place has written the register in
this KCLK, its values stand (R406). -/
def State.applyWrite (s0 : State) (src : Master) (r : RegRow) (key h v0 keep : Nat) : State :=
  let late := s0.outranked h (rankOf src)
  let s := s0.noteWrite h (rankOf src)
  let old := s.word h
  let v := if late then mixBits (r.mask fun f => decide (f.acc = .rw) || decide (f.acc = .rwl)) v0 old.toNat else v0
  let put := fun (s : State) => s.store h (newWord r (isStaged key) old.toNat v keep (s.freshBits h))
  if 0xb1000 ≤ key ∧ key < 0xb3000 then
    (if r.mask (fun f => decide (f.acc = .rw)) = 0 then s else s.configWrite ((key - 0xb1000) / 0x20) put)
  else if 0xb8000 ≤ key ∧ key < 0xc0000 then (if activeSt (s.pst ((key - 0xb8000) / 8)) then s.raise EV_PRG_PREJ else put s)
  else if 0xc0000 ≤ key ∧ key < 0xe0000 then (if late && key % 8 == 4 then s else s.prgWrite src key v)
  else if key = 0x300c then s.seqFloorWrite v
  else if key = 0x20030 ∨ key = 0x20034 then s.reselect put
  else
    match sourceOf key with
    | some n =>
      let e := (evtKey n).getD 0
      (put s).onSource n e (s.asserted e)
    | none => (put s).acts s.usableMask key h old v

/-- A write that reaches a register arbiter from a source (R406 to R411): the state after it, and its STS (R117): 0 done,
1 refused, 3 written with locked fields kept. Kalvon-B records a refusal; one in Kalvon-T reaches it across the bond field. In stand-alone test mode an access of the test port is no host access. -/
def State.regWrite (s : State) (src : Master) (key v : Nat) : State × Nat :=
  let free := decide (src = .debug) && s.tmode (decide (key < tBase))
  let side := decide (src = .side)
  let q := s.viewOf key
  let note := fun (s : State) why => if tBase ≤ key then s else s.refuse src key why
  if !free && !q.mayWrite side key v then (note s 1, 1)
  else if !free && !side && q.on GLB_FENCE_HOST then (note s 3, 1)
  else
    match regRow key, s.homeOf src key with
    | some r, some h =>
      if s.beyondBuild key then (s, 0)
      else
        let keep := if q.pageLocked key then r.mask (fun f => decide (f.acc = .rwl)) else 0
        let hit := ((s.word h).toNat ^^^ v) &&& keep != 0
        let s1 := (s.unlatch src key).applyWrite src r key h v keep
        if hit then (note s1 2, 3) else (s1, 0)
    | _, _ => (s, 0)

/-- Why Kalvon-T has turned a write away, by the STS of it (R411): 1 ownership, 2 lock, 3 host fence, 0 not at all. -/
def State.whyAtT (s : State) (side : Bool) (key v sts : Nat) : Nat :=
  if sts = 3 then 2 else if sts ≠ 1 then 0 else if (s.viewOf key).mayWrite side key v then 3 else 1

/-! ## Shared settings in Kalvon-T (R25) -/

/-- Kalvon-B's copy of a setting register of Kalvon-T. -/
def State.tSetting (s : State) (key : Nat) : Word := Sparse.get (fun k => regReset (tBase + k)) s.boot.tWords (key - tBase)

/-- A write of a Kalvon-T register changes a shared setting of which a half holds `old`. -/
def setsShared (key : Nat) (old : Word) (v : Nat) : Bool := clsMask key .i &&& (old.toNat ^^^ v) != 0

/-- A shared setting of Kalvon-T written in Kalvon-B (R25 rules 1 to 3): checked there as any write is, kept, and sent to Kalvon-T. -/
def State.sharedWrite (s : State) (src : Master) (key v : Nat) : State × Nat :=
  let side := decide (src = .side)
  if !s.mayWrite side key v then (s.refuse src key 1, 1)
  else if !side && s.on GLB_FENCE_HOST then (s.refuse src key 3, 1)
  else
    let old := s.tSetting key
    let new := BitVec.ofNat 32 (mixBits (clsMask key .i) old.toNat v)
    let s1 : State := { s with boot := { s.boot with tWords := Sparse.put (key - tBase) new (Sparse.drop (key - tBase) s.boot.tWords) } }
    (s1.shareValue key v old.toNat, 0)

end Sys2Proof.Machine
end

