-- ==== Sys2Proof/Machine/Sideband.lean ====
section
/-!
DEFINITION. The side-band port (R412 to R417 of spec/): the I3C target, the MCTP endpoint and its requests, the fence, the
ordered full reset, alarm notes and the refill of the log bucket. The always-on domain answers it; what is in the main
domain is unavailable while that is in reset (R415).
-/
namespace Sys2Proof.Machine

/-! ## I3C (R412) -/

def State.imod (s : State) (f : I3cSt → I3cSt) : State := { s with mgmt := { s.mgmt with i3c := f s.mgmt.i3c } }

/-- A GET answered: only a target with a dynamic address can be addressed. -/
def State.i3cGet (s : State) (bs : List Nat) : State := if s.mgmt.i3c.dyn.isSome then s.imod fun i => { i with rdata := bs } else s

/-- ENTDAA: a target without a dynamic address takes one. -/
def execEntdaa (da : Nat) (s : State) : Host.Outcome State Fault Refusal :=
  s.done <| if s.mgmt.i3c.dyn.isNone then s.imod fun i => { i with dyn := some (da % 128), hotJoin := false } else s

def execRstdaa (s : State) : Host.Outcome State Fault Refusal := s.done <| s.imod fun i => { i with dyn := none }

def execSetnewda (da : Nat) (s : State) : Host.Outcome State Fault Refusal :=
  s.done <| if s.mgmt.i3c.dyn.isSome then s.imod fun i => { i with dyn := some (da % 128) } else s

/-- ENEC: a message that waits to be read raises an IBI once they are enabled. -/
def execEnec (ibi hj : Bool) (s : State) : Host.Outcome State Fault Refusal :=
  s.done <| s.imod fun i => { i with ibiEn := i.ibiEn || ibi, hjEn := i.hjEn || hj, ibi := i.ibi || (ibi && !s.mgmt.out.isEmpty) }

def execDisec (ibi hj : Bool) (s : State) : Host.Outcome State Fault Refusal :=
  s.done <| s.imod fun i => { i with ibiEn := i.ibiEn && !ibi, hjEn := i.hjEn && !hj }

/-- The provisional ID: 0x7A11 in bits [47:33], 1 in bit 32, and the random value, which is a free value. -/
def State.pid (s : State) : Nat := pack [(0, 32, Config.freeValue s.mgmt.i3c.pidDraw), (32, 1, 1), (33, 15, 0x7A11)]

def execGetpid (s : State) : Host.Outcome State Fault Refusal := s.done <| s.i3cGet (beBytes 6 s.pid)

def execGetbcr (s : State) : Host.Outcome State Fault Refusal := s.done <| s.i3cGet [0x06]

def execGetdcr (s : State) : Host.Outcome State Fault Refusal := s.done <| s.i3cGet [0x00]

/-- GETSTATUS: the spec does not give the status, so its two bytes are a free value. -/
def execGetstatus (s : State) : Host.Outcome State Fault Refusal :=
  s.done <| let (v, s1) := s.draw 16; s1.i3cGet (beBytes 2 v)

def execGetmwl (s : State) : Host.Outcome State Fault Refusal := s.done <| s.i3cGet (beBytes 2 69)

def execGetmrl (s : State) : Host.Outcome State Fault Refusal := s.done <| s.i3cGet (beBytes 2 69)

def execSetmwl (v : Nat) (s : State) : Host.Outcome State Fault Refusal :=
  s.done <| if v % 65536 < 69 then s else s.imod fun i => { i with mwl := v % 65536 }

def execSetmrl (v : Nat) (s : State) : Host.Outcome State Fault Refusal :=
  s.done <| if v % 65536 < 69 then s else s.imod fun i => { i with mrl := v % 65536 }

/-- HOT_JOIN_TIMER: 1 ms after the power-on of VDD_AON. -/
def execHotJoinTimer (s : State) : Host.Outcome State Fault Refusal :=
  s.done <| if s.mgmt.i3c.dyn.isNone && s.mgmt.i3c.hjEn then s.imod fun i => { i with hotJoin := true } else s

/-! ## Responses and requests (R413 to R415) -/

/-- A response queued; it raises an IBI if they are enabled. -/
def State.sbAnswer (s : State) (eid cmd code : Nat) (body : List Nat) : State :=
  let m : MctpOut := { eid := eid, cmd := cmd, code := some code, body := body }
  ({ s with mgmt := { s.mgmt with out := s.mgmt.out ++ [m] } }).imod fun i => { i with ibi := i.ibi || i.ibiEn }

/-- A register access of Kalvon-B that crosses to Kalvon-T with SRC 1 (R407). -/
def State.sideCross (s : State) (eid cmd : Nat) (write : Bool) (off data : Nat) : State :=
  let w : RegTunnel := { fromB := true, src := 1, write := write }
  let v : SbWait := { eid := eid, cmd := cmd }
  let s1 : State := { s with xing := { s.xing with tunnel := s.xing.tunnel ++ [w] }, mgmt := { s.mgmt with wait := some v } }
  s1.sendT 3 (mkMsg [(0, 8, if write then 0x41 else 0x40), (8, 2, 1), (16, 20, off), (36, 32, data)])

/-- Kalvon-T cannot be reached: before boot step 5, or with the tunnel held (R415). -/
def State.noTunnel (s : State) : Bool := s.rd IMG_BOOT_STEP < 5 || s.held || s.tHold || s.tReset

/-- The fence bits in force (R416). -/
def State.fenceBits (s : State) : Nat := s.rd GLB_FENCE_HOST + 2 * s.rd GLB_FENCE_TRAFFIC

/-- The fence set; Kalvon-T learns of it as of a shared setting (R416, assumption 34). -/
def State.setFence (s : State) (v : Nat) : State :=
  (((s.wr GLB_FENCE_HOST (bits v 0 1)).wr GLB_FENCE_TRAFFIC (bits v 1 1)).shareSetting 0x1040 (s.word 0x1040)).oppPulse s.oppPin

/-- REG_READ and REG_WRITE (R411, R414); a write that changes a shared setting of Kalvon-T is one in Kalvon-B (R25 rule 1). -/
def State.sbAccess (s : State) (eid cmd : Nat) (bs : List Nat) : State :=
  let a := ofBytes (bs.take 4)
  let off := bits a 0 20
  let write := decide (cmd = 2)
  if bs.length ≠ (if write then 8 else 4) ∨ bits a 20 11 ≠ 0 ∨ off % 4 ≠ 0 then s.sbAnswer eid cmd 0x04 []
  else if bitAt a 31 then
    let v := ofBytes (bs.drop 4)
    if s.noTunnel then s.sbAnswer eid cmd 0x03 []
    else if write && decide (off < 0x10000) && setsShared (tBase + off) (s.tSetting (tBase + off)) v then
      let (s1, sts) := s.sharedWrite .side (tBase + off) v
      s1.sbAnswer eid cmd (if sts = 1 then 0x01 else 0x00) []
    else s.sideCross eid cmd write off v
  else if write then
    let (s1, sts) := s.regWrite .side off (ofBytes (bs.drop 4))
    s1.sbAnswer eid cmd (if sts = 1 then 0x01 else if sts = 3 then 0x02 else 0x00) []
  else
    let (d, s1) := s.regRead .side off
    s1.sbAnswer eid cmd 0x00 (bytesOf 4 d)

/-- LOG_READ: the record's slot is read if it can still hold the record. -/
def State.sbLogRead (s : State) (eid seq : Nat) : State :=
  let d := (s.rd TEL_LSEQ + 2 ^ 32 - seq) % 2 ^ 32
  if d = 0 ∨ 131072 < d ∨ s.mgmt.logQ.any (fun r => r.rseq == seq) then s.sbAnswer eid 9 0x06 []
  else
    let v : SbWait := { eid := eid, cmd := 9 }
    ({ s with mgmt := { s.mgmt with wait := some v } }).retIssue (.logRead eid seq) false (s.logAddr seq) 32 []

/-- What the always-on domain answers by itself (R415). -/
def aonRequest (cmd : Nat) (bs : List Nat) : Bool :=
  (3 ≤ cmd && cmd ≤ 6) || 0x100 ≤ cmd || (cmd == 1 && bs.length == 4 && (ofBytes bs == 0x1100 || ofBytes bs == 0x1040))

/-- The request byte of FENCE and UNFENCE is in its form (R414). -/
def fenceOk (bs : List Nat) : Bool := bs.length == 1 && decide (bs.headD 0 < 4)

/-- FENCE and UNFENCE take effect as they are received, also behind a request that waits (R416); they are answered in their
turn. -/
def State.fenceNow (s : State) (cmd : Nat) (bs : List Nat) : State :=
  if (cmd = 3 ∨ cmd = 4) ∧ fenceOk bs then s.setFence (if cmd = 3 then s.fenceBits ||| bs.headD 0 else s.fenceBits &&& (3 ^^^ bs.headD 0)) else s

/-- A request in its turn. Commands of MCTP control are 0x100 and their code. -/
def State.sbRun (s : State) (eid cmd : Nat) (bs : List Nat) : State :=
  if s.bReset && !aonRequest cmd bs then s.sbAnswer eid cmd 0x03 []
  else if cmd = 1 ∨ cmd = 2 then s.sbAccess eid cmd bs
  else if cmd = 3 ∨ cmd = 4 then
    (if fenceOk bs then s.sbAnswer eid cmd 0x00 [s.fenceBits] else s.sbAnswer eid cmd 0x04 [])
  else if cmd = 5 then
    if bs.length ≠ 2 ∨ ofBytes bs ≠ 0xC3A5 then s.sbAnswer eid cmd 0x04 []
    else ({ s with mgmt := { s.mgmt with resetDue := true } }).sbAnswer eid cmd 0x00 []
  else if cmd = 6 then
    if bs.length ≠ 0 then s.sbAnswer eid cmd 0x04 []
    else s.sbAnswer eid cmd 0x00 (bytesOf 4 (s.word IMG_BOOT_STEP.key).toNat ++ bytesOf 4 (s.word 0x1100).toNat ++ [s.fenceBits] ++
      bytesOf 2 s.alarmsPending.length ++ bytesOf 2 s.inc)
  else if cmd = 7 ∨ cmd = 8 then
    let e := ofBytes bs
    if bs.length ≠ 2 ∨ 320 ≤ e then s.sbAnswer eid cmd 0x04 []
    else if cmd = 7 then
      s.sbAnswer eid cmd 0x00 (bytesOf 4 (s.rd (TEL_ACOUNT e)) ++ bytesOf 4 (s.rd (TEL_AARG e)) ++ bytesOf 4 (s.rd (TEL_AFIRST e)) ++ bytesOf 4 (s.rd (TEL_ALAST e)) ++
        [bits (s.word (TEL_APEND (e / 32)).key).toNat (e % 32) 1])
    else (s.wr ⟨(TEL_APEND (e / 32)).key, e % 32, 1, false⟩ 0).sbAnswer eid cmd 0x00 []
  else if cmd = 9 then (if bs.length ≠ 4 then s.sbAnswer eid cmd 0x04 [] else s.sbLogRead eid (ofBytes bs))
  else if cmd = 0x101 then
    let e := bs.getD 1 0
    ({ s with mgmt := { s.mgmt with eid := e, ctrlEid := some eid } }).sbAnswer eid cmd 0x00 [0, e, 0]
  else if cmd = 0x102 then s.sbAnswer eid cmd 0x00 [s.mgmt.eid, 0, 0]
  else if cmd = 0x103 then s.sbAnswer eid cmd 0x00 (bytesOf 16 (Config.uuid (s.rd IMG_SERIAL_LO + s.rd IMG_SERIAL_HI <<< 32) s.pid))
  else if cmd = 0x104 then s.sbAnswer eid cmd 0x00 [1, 0xF1, 0xF3, 0xFF, 0x00]
  else if cmd = 0x105 then s.sbAnswer eid cmd 0x00 [2, 0x00, 0x7F]
  else s.sbAnswer eid cmd 0x04 []

/-- A request arrives: up to 4 are held, with the one that waits; a fifth is answered at once with busy (R413). -/
def State.sbRequest (s : State) (eid cmd : Nat) (bs : List Nat) : State :=
  if s.mgmt.wait.isNone then (s.fenceNow cmd bs).sbRun eid cmd bs
  else if s.mgmt.queued.length < 3 then (let s1 := s.fenceNow cmd bs; { s1 with mgmt := { s1.mgmt with queued := s1.mgmt.queued ++ [(eid, cmd, bs)] } })
  else s.sbAnswer eid cmd 0x05 []

/-- The requests behind one that waited, in order of arrival, until one waits again. -/
def State.sbNext : Nat → State → State
  | 0, s => s
  | n + 1, s =>
    match s.mgmt.queued with
    | [] => s
    | (eid, cmd, bs) :: q =>
      if s.mgmt.wait.isSome then s
      else State.sbNext n (({ s with mgmt := { s.mgmt with queued := q } }).sbRun eid cmd bs)

/-- The request that waits is answered. -/
def State.sbEnd (s : State) (code : Nat) (body : List Nat) : State :=
  match s.mgmt.wait with
  | none => s
  | some w =>
    let s1 := ({ s with mgmt := { s.mgmt with wait := none } }).sbAnswer w.eid w.cmd code body
    s1.sbNext s1.mgmt.queued.length

/-! ## The requests as commands (R413, R414) -/

/-- SET_ENDPOINT_ID: the operation byte and the EID. -/
def execSetEndpointId (from_ op eid : Nat) (s : State) : Host.Outcome State Fault Refusal := s.done <| s.sbRequest from_ 0x101 [op % 256, eid % 256]

def execGetEndpointId (from_ : Nat) (s : State) : Host.Outcome State Fault Refusal := s.done <| s.sbRequest from_ 0x102 []

def execGetEndpointUuid (from_ : Nat) (s : State) : Host.Outcome State Fault Refusal := s.done <| s.sbRequest from_ 0x103 []

def execGetMctpVersionSupport (from_ : Nat) (s : State) : Host.Outcome State Fault Refusal := s.done <| s.sbRequest from_ 0x104 []

def execGetMessageTypeSupport (from_ : Nat) (s : State) : Host.Outcome State Fault Refusal := s.done <| s.sbRequest from_ 0x105 []

def execRegRead (from_ : Nat) (bs : List Nat) (s : State) : Host.Outcome State Fault Refusal := s.done <| s.sbRequest from_ 1 bs

def execRegWrite (from_ : Nat) (bs : List Nat) (s : State) : Host.Outcome State Fault Refusal := s.done <| s.sbRequest from_ 2 bs

def execSbFence (from_ : Nat) (bs : List Nat) (s : State) : Host.Outcome State Fault Refusal := s.done <| s.sbRequest from_ 3 bs

def execSbUnfence (from_ : Nat) (bs : List Nat) (s : State) : Host.Outcome State Fault Refusal := s.done <| s.sbRequest from_ 4 bs

def execReset (from_ : Nat) (bs : List Nat) (s : State) : Host.Outcome State Fault Refusal := s.done <| s.sbRequest from_ 5 bs

def execStatus (from_ : Nat) (bs : List Nat) (s : State) : Host.Outcome State Fault Refusal := s.done <| s.sbRequest from_ 6 bs

def execAlarmRead (from_ : Nat) (bs : List Nat) (s : State) : Host.Outcome State Fault Refusal := s.done <| s.sbRequest from_ 7 bs

def execAlarmAck (from_ : Nat) (bs : List Nat) (s : State) : Host.Outcome State Fault Refusal := s.done <| s.sbRequest from_ 8 bs

def execLogRead (from_ : Nat) (bs : List Nat) (s : State) : Host.Outcome State Fault Refusal := s.done <| s.sbRequest from_ 9 bs

/-- SB_RESET_DELAY (R417): the response of RESET has been read, or 10 ms have passed. -/
def execSbResetDelay (s : State) : Host.Outcome State Fault Refusal :=
  s.done <| if s.mgmt.resetDue then ({ s with mgmt := { s.mgmt with resetDue := false } }).requestReset 4 0 else s

/-! ## Notes and the log bucket (R414, R423) -/

/-- ALARM_NOTE_TIMER: NMIN after the last note; one note covers the alarms in between. -/
def execAlarmNoteTimer (s : State) : Host.Outcome State Fault Refusal :=
  s.done <| s.onB fun s =>
    let owed := s.mgmt.noteOwed
    let s1 := { s with mgmt := { s.mgmt with noteGap := false, noteOwed := false } }
    if owed then s1.alarmNote else s1

/-- LOG_BUCKET_REFILL: LRATE tokens, up to LBURST × 16. -/
def execLogBucketRefill (s : State) : Host.Outcome State Fault Refusal :=
  s.done <| s.onB fun s =>
    { s with mgmt := { s.mgmt with bucket := min (16 * max 1 (s.rd TEL_LCTL_LBURST)) (s.mgmt.bucket + s.rd TEL_LCTL_LRATE) } }

end Sys2Proof.Machine
end

