-- ==== Sys2Proof/Machine/Access.lean ====
section
/-!
DEFINITION. Register accesses from the ports, the side-band and the test port (R54, R117, R406, R407, R454 of spec/), and the
commands that are writes of one register. An access of Kalvon-T's port to Kalvon-B crosses as REG_RD or REG_WR and ends
with REG_RSP; its effect in Kalvon-B is that of REG_RD or REG_WR.
-/
namespace Sys2Proof.Machine

/-! ## The ports -/

/-- An access at Kalvon-B's own port completes. -/
def State.bPort (s : State) (write : Bool) (key data : Nat) : State :=
  if write then
    let (s1, sts) := s.regWrite .bPort key data
    { s1 with pins := { s1.pins with bAck := true, bRdata := 0, bErr := decide (sts ≠ 0) } }
  else
    let (d, s1) := s.regRead .bPort key
    { s1 with pins := { s1.pins with bAck := true, bRdata := d, bErr := false } }

/-- An access at Kalvon-T's port completes. -/
def State.tDone (s : State) (data : Nat) (err : Bool) : State := { s with pins := { s.pins with tAck := true, tRdata := data, tErr := err } }

/-- An access of a source goes across to Kalvon-B (R117): one to Kalvon-B, a write of a shared setting of Kalvon-T (R25 rule 1), or a
write that Kalvon-T has refused, for Kalvon-B to record (R411). -/
def State.crossToB (s : State) (src : Nat) (write : Bool) (key data : Nat) (why : Nat := 0) : State :=
  let w : RegTunnel := { fromB := false, src := src, write := write, kt := decide (tBase ≤ key), why := why }
  let s1 : State := { s with xing := { s.xing with tunnel := s.xing.tunnel ++ [w] } }
  s1.sendB 3 (mkMsg [(0, 8, if write then 0x41 else 0x40), (8, 2, src), (16, 20, key % tBase), (36, 32, data)])

/-- An access of a source is outstanding from Kalvon-T. -/
def State.crossing (s : State) (src : Nat) : Bool := s.xing.tunnel.any fun t => !t.fromB && t.src == src

/-- The tunnel cannot carry an access from Kalvon-T (R54, R450). -/
def State.tunnelShut (s : State) : Bool := s.noTunnel || s.tmode false

/-- An access at Kalvon-T's port: local, tunnelled, or refused; one at a time. A write that changes a shared setting is tunnelled
(R25 rule 1), and a write refused here ends when Kalvon-B has recorded it. -/
def State.tPort (s : State) (write : Bool) (key data : Nat) : State :=
  if s.crossing 0 then s
  else if tBase + 0x10000 ≤ key then s.tDone 0 true
  else if tBase ≤ key then
    if write then
      if setsShared key (s.word key) data && !s.tmode false then (if s.tunnelShut then s.tDone 0 true else s.crossToB 0 true key data)
      else
        let (s1, sts) := s.regWrite .tPort key data
        if sts = 0 || s.tunnelShut then s1.tDone 0 (decide (sts ≠ 0)) else s1.crossToB 0 true key data (s.whyAtT false key data sts)
    else
      let (d, s1) := s.regRead .tPort key
      s1.tDone d false
  else if s.tunnelShut then s.tDone 0 true
  else s.crossToB 0 write key data

/-- The test port's data register after an access (R454). -/
def State.tapDone (s : State) (atB : Bool) (data sts : Nat) : State := s.setTap atB { s.tap atB with regData := data, regSts := sts }

/-- An access from the test port of a half (R454): Kalvon-B's reaches Kalvon-B alone. An access in reset is aborted. -/
def State.tapAccess (s : State) (atB write : Bool) (key data : Nat) : State :=
  let local_ := if atB then decide (key < tBase) else decide (tBase ≤ key)
  let done := fun (s : State) =>
    if write then
      let (s1, sts) := s.regWrite .debug key data
      if atB || sts == 0 || s.tunnelShut then s1.tapDone atB data (if sts = 0 then 0 else 1)
      else (s1.crossToB 3 true key data (s.whyAtT false key data sts)).tapDone atB data 2
    else
      let (d, s1) := s.regRead .debug key
      s1.tapDone atB d 0
  if !s.tapReached atB || (s.tap atB).regSts == 2 then s
  else if (if atB then s.bReset else s.tReset) then s.tapDone atB 0 3
  else if local_ then
    (if tBase + 0x10000 ≤ key then s.tapDone atB 0 1
     else if !atB && write && setsShared key (s.word key) data && !s.tmode false then (if s.tunnelShut then s.tapDone atB 0 1 else (s.crossToB 3 true key data).tapDone atB data 2)
     else done s)
  else if atB || s.tunnelShut then s.tapDone atB 0 1
  else (s.crossToB 3 write key data).tapDone atB data 2

/-- An access through a port. A key below tBase is an offset of Kalvon-B, tBase + offset one of Kalvon-T; Kalvon-B's port
reaches Kalvon-B alone. -/
def State.access (s : State) (p : Port) (write : Bool) (key data : Nat) : State :=
  let k := key % 0x200000 / 4 * 4
  let d := data % 2 ^ 32
  match p with
  | .bPort => if k < tBase then s.onB fun s => s.bPort write k d else s
  | .tPort => s.onT fun s => s.tPort write k d
  | .side eid => s.sbRequest eid (if write then 2 else 1) (bytesOf 4 (k % tBase + (if tBase ≤ k then 2 ^ 31 else 0)) ++ (if write then bytesOf 4 d else []))
  | .tap atB => s.tapAccess atB write k d

/-! ## Across the crossing (R117, R407) -/

/-- The answer to an access that crossed: its SRC, offset, data and STS. -/
def regRsp (src off data sts : Nat) : XMsg := mkMsg [(0, 8, 0x42), (8, 2, src), (16, 20, off), (36, 32, data), (68, 2, sts)]

/-- An access presented in Kalvon-B: the tunnel (SRC 0) or the test port (SRC 3); one that meets a hold ends with STS 2. -/
def State.regAtB (s : State) (write : Bool) (m : XMsg) : State :=
  let src := xf m 9 8
  let off := xf m 35 16 / 4 * 4
  let from_ : Master := if src = 3 then .debug else .tunnel
  let w := (s.xing.tunnel.find? fun t => !t.fromB && t.src == src).getD { fromB := false, src := src, write := write }
  if src ≠ 0 ∧ src ≠ 3 then s
  else if s.held then s.sendT 3 (regRsp src off 0 2)
  else if w.why ≠ 0 then (s.refuse from_ (tBase + off) w.why).sendT 3 (regRsp src off 0 (if w.why = 2 then 3 else 1))
  else if write then
    let (s1, sts) := if w.kt then s.sharedWrite from_ (tBase + off) (xf m 67 36) else s.regWrite from_ off (xf m 67 36)
    s1.sendT 3 (regRsp src off 0 sts)
  else
    let (d, s1) := s.regRead from_ off
    s1.sendT 3 (regRsp src off d 0)

/-- A shared setting applied in Kalvon-T (R25 rule 4): the operating point, a working copy of a setting of Kalvon-B, or the word of a
setting register of Kalvon-T with what its write does. -/
def State.takeShared (s : State) (off v : Nat) : State :=
  if off = 0x6020 then (s.wr KT_LNP_OPP_OPP v).oppPulse s.oppPin
  else if copiedKeys.contains off then { s with xing := { s.xing with copies := Sparse.set regReset s.xing.copies off (BitVec.ofNat 32 v) } }
  else
    match regRow (tBase + off) with
    | some r => if clsMask (tBase + off) .i = 0 then s else s.applyWrite .tPort r (tBase + off) (tBase + off) v 0
    | none => s

/-- An access presented in Kalvon-T: the side-band (SRC 1) or a shared setting (SRC 2). -/
def State.regAtT (s : State) (write : Bool) (m : XMsg) : State :=
  let src := xf m 9 8
  let off := xf m 35 16 / 4 * 4
  if src ≠ 1 ∧ (src ≠ 2 ∨ !write) then s
  else if s.tHold then s.sendB 3 (regRsp src off 0 2)
  else if src = 2 then (s.takeShared off (xf m 67 36)).sendB 3 (regRsp 2 off 0 0)
  else if 0x10000 ≤ off then s.sendB 3 (regRsp 1 off 0 0)
  else if write then
    let (s1, sts) := s.regWrite .side (tBase + off) (xf m 67 36)
    s1.sendB 3 (regRsp 1 off 0 sts)
  else
    let (d, s1) := s.regRead .side (tBase + off)
    s1.sendB 3 (regRsp 1 off d 0)

/-- REG_RD: presented in a half. -/
def execRegRd (atB : Bool) (m : XMsg) (s : State) : Host.Outcome State Fault Refusal :=
  s.done <| if atB then s.onB fun s => (s.tookMsgB m).regAtB false m else s.onT fun s => (s.tookMsgT m).regAtT false m

/-- REG_WR: presented in a half. -/
def execRegWr (atB : Bool) (m : XMsg) (s : State) : Host.Outcome State Fault Refusal :=
  s.done <| if atB then s.onB fun s => (s.tookMsgB m).regAtB true m else s.onT fun s => (s.tookMsgT m).regAtT true m

/-- REG_RSP in Kalvon-B: the side-band's access is answered, with a refusal in Kalvon-T recorded (R411), or a shared setting is acknowledged and the next one goes. -/
def State.rspAtB (s : State) (src off data sts : Nat) : State :=
  match takeFirst (fun (t : RegTunnel) => t.fromB && t.src == src) s.xing.tunnel with
  | (none, _) => s
  | (some t, rest) =>
    let s1 : State := { s with xing := { s.xing with tunnel := rest } }
    if src = 1 then (if sts = 1 ∨ sts = 3 then s1.refuse .side (tBase + off) (if sts = 1 then 1 else 2) else s1).sbEnd ([0x00, 0x01, 0x03, 0x02].getD sts 0x03) (if !t.write && sts == 0 then bytesOf 4 data else [])
    else if src = 2 then (if sts = 0 then ({ s1 with boot := { s1.boot with shared := s1.boot.shared.tail } }).sendShared else s1)
    else s1

/-- REG_RSP in Kalvon-T: the port's access or the test port's ends; STS other than 0 is an error. -/
def State.rspAtT (s : State) (src data sts : Nat) : State :=
  match takeFirst (fun (t : RegTunnel) => !t.fromB && t.src == src) s.xing.tunnel with
  | (none, _) => s
  | (some _, rest) =>
    let s1 : State := { s with xing := { s.xing with tunnel := rest } }
    if src = 0 then s1.tDone (if sts = 0 then data else 0) (decide (sts ≠ 0))
    else s1.tapDone false data (if sts = 0 then 0 else 1)

/-- REG_RSP: presented in a half. -/
def execRegRsp (atB : Bool) (m : XMsg) (s : State) : Host.Outcome State Fault Refusal :=
  s.done <| if atB then s.onB fun s => (s.tookMsgB m).rspAtB (xf m 9 8) (xf m 35 16) (xf m 67 36) (xf m 69 68)
    else s.onT fun s => (s.tookMsgT m).rspAtT (xf m 9 8) (xf m 67 36) (xf m 69 68)

/-! ## Reads, and writes without a command of their own -/

/-- REGISTER_READ through a port. -/
def execRegisterRead (src : Port) (key : Nat) (s : State) : Host.Outcome State Fault Refusal := s.done <| s.access src false key 0

/-- REGISTER_WRITE through a port. -/
def execRegisterWrite (src : Port) (key v : Nat) (s : State) : Host.Outcome State Fault Refusal := s.done <| s.access src true key v

/-- REGACC: Update-DR in a half (R454). -/
def execRegacc (atB : Bool) (key : Nat) (wr : Bool) (data : Nat) (s : State) : Host.Outcome State Fault Refusal :=
  s.done <| s.access (.tap atB) wr key data

/-! ## Writes with a command of their own: `v` is the word written, with the command's own bits set as its name says -/

/-- The offset of a register of link n. -/
def linkOff (n o : Nat) : Nat := 0x10000 + 0x400 * (n % 64) + o

def execTripClear (src : Port) (s : State) : Host.Outcome State Fault Refusal := s.done <| s.access src true 0xe0024 1

def execPeriodChangeGo (src : Port) (v : Nat) (s : State) : Host.Outcome State Fault Refusal := s.done <| s.access src true 0x90054 (setBits v 31 1 1)

def execRlcFlush (src : Port) (v : Nat) (s : State) : Host.Outcome State Fault Refusal := s.done <| s.access src true (tBase + 0x4008) (setBits v 1 1 1)

def execDirFlush (src : Port) (s : State) : Host.Outcome State Fault Refusal := s.done <| s.access src true 0x8820 2

def execRflush (src : Port) (s : State) : Host.Outcome State Fault Refusal := s.done <| s.access src true 0x8820 1

def execLinkEn (src : Port) (n v : Nat) (s : State) : Host.Outcome State Fault Refusal := s.done <| s.access src true (linkOff n 0x4) (setBits v 0 1 1)

def execLinkDisable (src : Port) (n v : Nat) (s : State) : Host.Outcome State Fault Refusal := s.done <| s.access src true (linkOff n 0x4) (setBits v 0 1 0)

def execRetrainWrite (src : Port) (n v : Nat) (s : State) : Host.Outcome State Fault Refusal := s.done <| s.access src true (linkOff n 0x4) (setBits v 4 1 1)

def execWmaxWrite (src : Port) (n v : Nat) (s : State) : Host.Outcome State Fault Refusal := s.done <| s.access src true (linkOff n 0x4) v

def execKeyLoad (src : Port) (n : Nat) (rx : Bool) (s : State) : Host.Outcome State Fault Refusal :=
  s.done <| s.access src true (linkOff n 0x23c) (1 + 2 * b2n rx)

def execTableWrite (src : Port) (i v : Nat) (s : State) : Host.Outcome State Fault Refusal := s.done <| s.access src true (0x40000 + 4 * (i % 65536)) v

def execMeshWrite (src : Port) (d : Nat) (hi : Bool) (v : Nat) (s : State) : Host.Outcome State Fault Refusal :=
  s.done <| s.access src true (0x20010 + 8 * (d % 4) + 4 * b2n hi) v

def execDrainWrite (src : Port) (hi : Bool) (v : Nat) (s : State) : Host.Outcome State Fault Refusal := s.done <| s.access src true (0x20030 + 4 * b2n hi) v

def execFcmdFence (src : Port) (s : State) : Host.Outcome State Fault Refusal := s.done <| s.access src true 0x20068 1

def execFcmdUnfence (src : Port) (s : State) : Host.Outcome State Fault Refusal := s.done <| s.access src true 0x20068 3

def execNbrAccept (src : Port) (n : Nat) (s : State) : Host.Outcome State Fault Refusal := s.done <| s.access src true (linkOff n 0x2c) 1

def execScmdClose (src : Port) (s : State) : Host.Outcome State Fault Refusal := s.done <| s.access src true 0x80114 1

def execScmdBreak (src : Port) (s : State) : Host.Outcome State Fault Refusal := s.done <| s.access src true 0x80114 2

def execScmdFree (src : Port) (s : State) : Host.Outcome State Fault Refusal := s.done <| s.access src true 0x80114 3

def execDcmdFree (src : Port) (s : State) : Host.Outcome State Fault Refusal := s.done <| s.access src true 0x8012c 1

def execPourArm (src : Port) (entry : Nat) (s : State) : Host.Outcome State Fault Refusal := s.done <| s.access src true 0xa0010 (0x10000 + entry % 16384)

def execPourDisarm (src : Port) (entry : Nat) (s : State) : Host.Outcome State Fault Refusal := s.done <| s.access src true 0xa0010 (0x30000 + entry % 16384)

def execPourDisable (src : Port) (v : Nat) (s : State) : Host.Outcome State Fault Refusal := s.done <| s.access src true 0xa0004 (setBits v 31 1 0)

def execOppChangeRequest (src : Port) (opp : Nat) (s : State) : Host.Outcome State Fault Refusal := s.done <| s.access src true 0xe0010 (2 ^ 31 + opp % 16)

/-- DESCRIPTOR_CONFIG_WRITE: word `w` of descriptor `rd`. -/
def execDescriptorConfigWrite (src : Port) (rd w v : Nat) (s : State) : Host.Outcome State Fault Refusal :=
  s.done <| s.access src true (0xb1000 + 0x20 * (rd % 256) + 4 * (w % 8)) v

def execBldArm (src : Port) (rd : Nat) (s : State) : Host.Outcome State Fault Refusal := s.done <| s.access src true 0xb0010 (0x100 + rd % 256)

def execBldClear (src : Port) (rd : Nat) (s : State) : Host.Outcome State Fault Refusal := s.done <| s.access src true 0xb0010 (0x200 + rd % 256)

def execBldFree (src : Port) (rd : Nat) (s : State) : Host.Outcome State Fault Refusal := s.done <| s.access src true 0xb0010 (0x300 + rd % 256)

def execProgStart (src : Port) (p : Nat) (s : State) : Host.Outcome State Fault Refusal := s.done <| s.access src true 0xb3810 (0x10000 + p % 4096)

def execProgStop (src : Port) (p : Nat) (s : State) : Host.Outcome State Fault Refusal := s.done <| s.access src true 0xb3810 (0x20000 + p % 4096)

/-- PROG_TABLE_WRITE: word A or B of program `p`. -/
def execProgTableWrite (src : Port) (p : Nat) (b : Bool) (v : Nat) (s : State) : Host.Outcome State Fault Refusal :=
  s.done <| s.access src true (0xb8000 + 8 * (p % 4096) + 4 * b2n b) v

/-- PRG_COMMIT: the high half of store word `w`. -/
def execPrgCommit (src : Port) (w v : Nat) (s : State) : Host.Outcome State Fault Refusal := s.done <| s.access src true (0xc0004 + 8 * (w % 16384)) v

def execCdySnap (src : Port) (s : State) : Host.Outcome State Fault Refusal := s.done <| s.access src true 0x2010 1

def execCdyDefault (src : Port) (s : State) : Host.Outcome State Fault Refusal := s.done <| s.access src true 0x2010 2

def execSeqfloorWrite (src : Port) (v : Nat) (s : State) : Host.Outcome State Fault Refusal := s.done <| s.access src true 0x300c v

def execFlashReadWord (src : Port) (s : State) : Host.Outcome State Fault Refusal := s.done <| s.access src true 0x3048 1

def execFlashProgramWord (src : Port) (s : State) : Host.Outcome State Fault Refusal := s.done <| s.access src true 0x3048 2

def execFlashErase (src : Port) (s : State) : Host.Outcome State Fault Refusal := s.done <| s.access src true 0x3048 3

/-- OWN_LOCK: word `i` of KB_OWN_LOCK, or KB_OWN_TLOCK for 8. -/
def execOwnLock (src : Port) (i v : Nat) (s : State) : Host.Outcome State Fault Refusal := s.done <| s.access src true (0x4060 + 4 * (i % 9)) v

def execMarginalClear (src : Port) (e : Nat) (s : State) : Host.Outcome State Fault Refusal := s.done <| s.access src true 0xf3010 (e % 32)

/-- BOND_LOOPBACK: LPCTL of a half. -/
def execBondLoopback (src : Port) (atB : Bool) (v : Nat) (s : State) : Host.Outcome State Fault Refusal :=
  s.done <| s.access src true (if atB then 0xf400c else tBase + 0x800c) (setBits v 8 1 1)

def execCalibrationGo (src : Port) (v : Nat) (s : State) : Host.Outcome State Fault Refusal := s.done <| s.access src true 0xf4004 (setBits v 8 1 1)

/-- MBIST_GO: MBCTL of a half. -/
def execMbistGo (src : Port) (atB : Bool) (v : Nat) (s : State) : Host.Outcome State Fault Refusal :=
  s.done <| s.access src true (if atB then 0xf4020 else tBase + 0x8020) (setBits v 8 1 1)

def execLaneLoopbackGo (src : Port) (n v : Nat) (s : State) : Host.Outcome State Fault Refusal := s.done <| s.access src true (linkOff n 0x300) (setBits v 0 1 1)

end Sys2Proof.Machine
end

