-- ==== Sys2Proof/Machine/Answers.lean ====
section
/-!
DEFINITION. Answers on the retention channels that carry data or an error (R234 to R239, R246, R281, R335, R414, R423 of
spec/).
-/
namespace Sys2Proof.Machine

/-- A record read for LOG_READ: held if the slot still holds its SEQ (R414, R423). -/
def State.logAnswer (s : State) (seq : Nat) (data : List Byte) : State :=
  let bs := data.map (·.toNat)
  if ofBytes (bs.take 4) = seq then s.sbEnd 0x00 (bs.take 32) else s.sbEnd 0x06 []

/-- RDATA: the bytes a read returned. -/
def execRdata (rid : Nat) (data : List Byte) (s : State) : Host.Outcome State Fault Refusal :=
  s.done <| s.onB fun s =>
    match s.retDone rid with
    | (none, _) => s
    | (some q, s1) =>
      if q.write then s
      else
        let s2 := match q.use with
          | .resend f b => s1.resendRead f b data
          | .header => (s1.retBack 1).headerRead data
          | .descriptor b => (s1.retBack 1).descriptorRead b data
          | .armEntry n => s1.armRead n (some data)
          | .pageEntry n => s1.pageRead n (some data)
          | .send p => s1.sendRead p (some data)
          | .logRead _ seq => s1.logAnswer seq data
          | _ => s1
        s2.tellWtacs

/-- RERR: the base die refused a request. -/
def execRerr (rid : Nat) (s : State) : Host.Outcome State Fault Refusal :=
  s.done <| s.onB fun s =>
    match s.retDone rid with
    | (none, _) => s
    | (some q, s1) =>
      let s2 := match q.use with
        | .tile _ => s1.retryLater q true
        | .format => s1.retryLater q true
        | .header => s1.retryLater q true
        | .descriptor _ => s1.retryLater q true
        | .free _ => s1.retryLater q false
        | .resend f b => (s1.raise EV_DLV_RETERR).resendLost f b
        | .armEntry n => s1.armRead n none
        | .pageEntry n => s1.pageRead n none
        | .send p => s1.sendRead p none
        | .log seq => (s1.count TEL_LERR).dropLog seq
        | .logRead _ _ => s1.sbEnd 0x06 []
      s2.tellWtacs

end Sys2Proof.Machine
end

