-- ==== Sys2Proof/Machine/Reset.lean ====
section
/-!
DEFINITION. Supplies and resets (R36 to R38, R49, R69 to R75, R373, R375, R448, R449 of spec/): a full reset of the main
domain of both halves, the always-on domain's own reset, and a reset of Kalvon-B's main domain alone.
-/
namespace Sys2Proof.Machine

/-! ## What a full reset keeps -/

/-- A register of Kalvon-T, by its home. -/
def isTKey (key : Nat) : Bool :=
  (tBase ≤ key && key < 2 * tBase) || (0x800000 ≤ key && key < 0x2000000 && tBase ≤ key % 0x200000) ||
  (0x4000000 ≤ key && key < 0x6000000) || (histKey 1 0 0 ≤ key && key < histKey 2 0 0)

/-- A word that shows the boundary of a flow that is broken, and whether it is exact (R253): a broken flow keeps both over a full
reset that Caddy survives (R246). -/
def State.boundWord (s : State) (key : Nat) : Bool :=
  flowKey 0 ≤ key && key < flowKey 4096 && (key % 0x20 == 0x10 || key % 0x20 == 0x14) &&
    s.rd (DLV_SFLOW_STATE ((key - flowKey 0) / 0x20)) == 3 && !s.boot.aonPor

/-- Tile delivery after a reset: of a broken flow the cause is kept with the boundary, and whether BRACK is awaited, so that
BROKEN goes on (R240, R246). -/
def State.dlvReset (s : State) : DlvSt :=
  let kept := s.dlv.src.filter fun (e : Nat × SrcFlow) => s.rd (DLV_SFLOW_STATE e.1) == 3 && !s.boot.aonPor && (e.2.awaitBrack || e.2.cause != 0)
  { DlvSt.reset with src := kept.map fun (e : Nat × SrcFlow) => (e.1, { SrcFlow.reset with cause := e.2.cause, awaitBrack := e.2.awaitBrack }) }

/-- The registers after a reset of Kalvon-B's main domain: the always-on domain keeps the fence and the causes (R401,
R416); Kalvon-T keeps its own unless `both`. -/
def State.keptRegs (s : State) (both : Bool) : Sparse Word :=
  s.regs.filter fun (e : Nat × Word) => e.1 == 0x1040 || e.1 == 0x1100 || s.boundWord e.1 || (!both && isTKey e.1)

/-- The side-band in the always-on domain (R36); pacing, queue and bucket of telemetry are in the main domain. -/
def MgmtSt.afterReset (m : MgmtSt) : MgmtSt := { m with noteGap := false, noteOwed := false, logQ := [], bucket := 0, fresh := [], written := [] }

/-- What the always-on domain keeps of the reset sequencer. -/
def BootSt.afterReset (b : BootSt) : BootSt :=
  { BootSt.reset with causes := b.causes, fcode := b.fcode, reqPending := b.reqPending, aonPor := b.aonPor, warn := b.warn }

/-- A test port's access that crosses is aborted (R454). -/
def TapSt.abort (t : TapSt) : TapSt := if t.regSts = 2 then { t with regSts := 3 } else t

/-- Both main domains at their reset values (R38). -/
def State.resetBoth (s : State) : State :=
  let t : TestSt := { TestSt.reset with tapB := s.test.tapB.abort, tapT := s.test.tapT.abort }
  { s with kclk := 0, tclk := 0, hold := false, tHold := false, portsUp := false, regs := s.keptRegs true, caddyShut := false, latches := [],
           pins := { Pins.reset with rstReqN := s.pins.rstReqN, tripN := s.pins.tripN }, boot := s.boot.afterReset, mgmt := s.mgmt.afterReset,
           bond := BondSt.reset, xing := XingSt.reset, lnk := [], route := RouteSt.reset, dlv := s.dlvReset, time := TimeSt.reset,
           pace := PaceSt.reset, pour := PourSt.reset, blend := BlendSt.reset, prog := [], track := [], ecc := EccSt.reset, test := t }

/-- A wire group after a reset of Kalvon-B alone: Kalvon-T sends on T→B groups and receives on B→T groups. -/
def Group.keepT (g : Nat) (x : Group) : Group :=
  let y : Group := { Group.reset with tRepair := x.tRepair, tMap := x.tMap, tState := x.tState }
  if gBT g then { y with kept := x.kept, missed := x.missed, next := x.next, heirRx := x.heirRx, tGood := x.tGood }
  else { y with held := x.held, run := x.run, runHead := x.runHead, runAdd := x.runAdd, heir := x.heir, stopped := x.stopped, nakp := x.nakp, naks := x.naks, subst := x.subst }

/-- The bond field after a reset of Kalvon-B alone. -/
def BondSt.keepT (b : BondSt) : BondSt :=
  { BondSt.reset with groups := b.groups.map (fun (e : Nat × Group) => (e.1, e.2.keepT e.1)), driveT := b.driveT, seqT := b.seqT, xTB := b.xTB,
                      ctlT := b.ctlT, inT := b.inT, strT := b.strT, waitT := b.waitT, tRoles := b.tRoles }

/-- A tensor stream channel after a reset of Kalvon-B alone: direction 0 has its sender in Kalvon-T (R121). -/
def StreamCh.keepT (k : Nat) (x : StreamCh) : StreamCh :=
  if k < 8 then { StreamCh.reset with credits := x.credits, txSeq := x.txSeq, queue := x.queue } else { StreamCh.reset with rxSeq := x.rxSeq, asm := x.asm }

/-- The transaction layer after a reset of Kalvon-B alone. -/
def XingSt.keepT (x : XingSt) : XingSt :=
  { x with dir := [], busy := [], homes := [], homeWait := [], reqWait := [], acrossB := [], memOut := [], tunnel := x.tunnel.filter (fun t => !t.fromB),
           streams := (x.streams.map fun (e : Nat × StreamCh) => (e.1, e.2.keepT e.1)).filter (fun (e : Nat × StreamCh) => decide (e.2 ≠ StreamCh.reset)), fromT := [], dbg := none }

/-- Kalvon-B's main domain alone at its reset values (R74). -/
def State.resetB (s : State) : State :=
  let t : TestSt := { TestSt.reset with tapB := s.test.tapB.abort, tapT := s.test.tapT, runT := s.test.runT, calT := s.test.calT }
  let p : Pins := { s.pins with oemRstN := false, bAck := false, bRdata := 0, bErr := false }
  let gs := s.bond.keepT
  let b : BondSt := { gs with groups := gs.groups.filter fun (e : Nat × Group) => decide (e.2 ≠ Group.reset) }
  { s with kclk := 0, hold := false, portsUp := false, regs := s.keptRegs false, caddyShut := false, latches := [], pins := p, boot := s.boot.afterReset,
           mgmt := s.mgmt.afterReset, bond := b, xing := s.xing.keepT, lnk := [], route := RouteSt.reset, dlv := s.dlvReset, time := TimeSt.reset,
           pace := PaceSt.reset, pour := PourSt.reset, blend := BlendSt.reset, prog := [], track := [], ecc := EccSt.reset, test := t }

/-- A wire group after a reset of Kalvon-T alone: Kalvon-B sends on B→T groups and receives on T→B groups. -/
def Group.keepB (g : Nat) (x : Group) : Group :=
  let y : Group := { Group.reset with errs := x.errs, recs := x.recs, repair := x.repair, todo := x.todo, aligned := x.aligned }
  if gBT g then { y with held := x.held, run := x.run, runHead := x.runHead, runAdd := x.runAdd, heir := x.heir, stopped := x.stopped, nakp := x.nakp, naks := x.naks, subst := x.subst }
  else { y with kept := x.kept, missed := x.missed, next := x.next, heirRx := x.heirRx }

/-- The bond field after a reset of Kalvon-T alone. -/
def BondSt.keepB (b : BondSt) : BondSt :=
  { b with groups := (b.groups.map fun (e : Nat × Group) => (e.1, e.2.keepB e.1)).filter fun (e : Nat × Group) => decide (e.2 ≠ Group.reset),
           driveT := false, seqT := 0, xTB := [], wires := [], ctlT := [], inT := [], strT := [], waitT := [], tRoles := [] }

/-- A tensor stream channel after a reset of Kalvon-T alone: direction 1 has its sender in Kalvon-B (R121). -/
def StreamCh.keepB (k : Nat) (x : StreamCh) : StreamCh :=
  if k < 8 then { StreamCh.reset with rxSeq := x.rxSeq, asm := x.asm } else { StreamCh.reset with credits := x.credits, txSeq := x.txSeq, queue := x.queue }

/-- The transaction layer after a reset of Kalvon-T alone. -/
def XingSt.keepB (x : XingSt) : XingSt :=
  { XingSt.reset with dir := x.dir, busy := x.busy, homes := x.homes, homeWait := x.homeWait, reqWait := x.reqWait, acrossB := x.acrossB, memOut := x.memOut,
                      tunnel := x.tunnel.filter (fun t => t.fromB), fromT := x.fromT, dbg := x.dbg,
                      streams := (x.streams.map fun (e : Nat × StreamCh) => (e.1, e.2.keepB e.1)).filter (fun (e : Nat × StreamCh) => decide (e.2 ≠ StreamCh.reset)) }

/-- Kalvon-T alone at its reset values: by a fault, since no full reset does it (R26, R38). -/
def State.resetT (s : State) : State :=
  let t : TestSt := { TestSt.reset with tapT := s.test.tapT.abort, tapB := s.test.tapB, runB := s.test.runB, calS := s.test.calS, calTries := s.test.calTries, calAcked := s.test.calAcked }
  let p : Pins := { s.pins with lchValid := false, lchTrig := 0, pacOppChg := false, irq := 0, tAck := false, tRdata := 0, tErr := false }
  { s with tclk := 0, tHold := false, portsUp := false, regs := s.regs.filter (fun (e : Nat × Word) => !isTKey e.1), pins := p, bond := s.bond.keepB,
           xing := s.xing.keepB, test := t }

/-- The side-band requests that wait for the main domain are answered as unavailable (R415). -/
def State.failWaiting (s : State) : State := s.sbEnd 0x03 []

/-! ## Release (R373, R375, R448) -/

/-- A saturating count of 8 bits in Caddy and in the register (R368). -/
def State.countSagRst (s : State) (f : Fld) : State := if bits (s.cword f.key).toNat f.lo f.w < 255 then s.count f else s

/-- Kalvon-B's main domain leaves reset: the causes are recorded and counted, the trip latch and the supplies show, and a
cause that asks for it raises alarm 28 (R375, R401, R422). `test` is the mode. -/
def State.releaseB (s : State) (test : Bool) : State :=
  let c := s.boot.causes ||| b2n s.boot.aonPor
  let s0 : State := { s with bReset := false, caddyShut := test }
  let s1 := (s0.setWord 0x1100 (BitVec.ofNat 32 (c % 128 + s.boot.fcode % 256 * 2 ^ 24))).wr TST_STATUS_TMODE (b2n test)
  let s2 := ([1, 2, 3, 4, 5, 6].filter fun b => bitAt c b).foldl (fun (s : State) b => s.count (GLB_RST_CNT b)) s1
  let s3 := if bitAt c 2 then s2.countSagRst PAC_SAGRST_KT else s2
  let s4 := if bitAt c 3 then s3.countSagRst PAC_SAGRST_KB else s3
  let s5 : State := { s4 with boot := { s4.boot with causes := 0, fcode := 0, reqPending := false } }
  let s6 := (s5.wr PAC_STATUS_TRIP (b2n (!s5.pins.tripN))).wr PAC_SAG_KT (bits s5.boot.warn 0 1)
  let s7 := (s6.wr PAC_SAG_KB (bits s6.boot.warn 1 1)).wr PAC_SAG_AON (bits s6.boot.warn 2 1)
  let s8 : State := { s7 with pace := { s7.pace with sagKt := bitAt s7.boot.warn 0, sagKb := bitAt s7.boot.warn 1 } }
  if bitAt c 2 || bitAt c 3 || bitAt c 5 || bitAt c 6 then s8.alarm 10 28 (s8.word 0x1100).toNat else s8

/-- Kalvon-B enters reset by its pin; PORST is a cause where no request of Kalvon-B is pending (R375). -/
def State.porstCause (s : State) : State :=
  if s.boot.reqPending then s else { s with boot := { s.boot with causes := s.boot.causes ||| 2 } }

/-- PORST_ASSERT (R38, R73): the inputs that fall, both in a full reset. A half whose input is driven alone resets alone, which is a fault
that the token exchange detects (R104). -/
def execPorstAssert (b t : Bool) (s : State) : Host.Outcome State Fault Refusal :=
  s.doneReset <|
    if b && t then
      if s.bReset && s.tReset then s else (({ s.porstCause with bReset := true, tReset := true }).resetBoth).failWaiting
    else if b then if s.bReset then s else (({ s.porstCause with bReset := true }).resetB).failWaiting
    else if t then if s.tReset then s else ({ s with tReset := true }).resetT
    else s

/-- Kalvon-T's main domain leaves reset, in the mode of t_testmode_i (R448). -/
def State.releaseT (s : State) (test : Bool) : State := ({ s with tReset := false }).wr KT_TST_STATUS_TMODE (b2n test)

/-- PORST_RELEASE (R73, R373, R448): the inputs that rise, with the levels of b_testmode_i and t_testmode_i. -/
def execPorstRelease (b t bTest tTest : Bool) (s : State) : Host.Outcome State Fault Refusal :=
  s.doneReset <|
    let s1 := if t && s.tReset then s.releaseT tTest else s
    if b && s.bReset then s1.releaseB bTest else s1

/-! ## The always-on domain (R36, R71) -/

/-- The always-on domain at its reset values: Caddy is lost, the fences and the trip latch are released. -/
def State.resetAon (s : State) : State :=
  let m := MgmtSt.reset s.draws
  let b : BootSt := { s.boot with causes := 0, fcode := 0, reqPending := false, aonPor := true, warn := 0 }
  let s1 : State := { s with draws := s.draws + 1, caddy := [], hdr := CaddyHdr.blank, boot := b, pins := { s.pins with rstReqN := true, tripN := true },
                             mgmt := { m with noteGap := s.mgmt.noteGap, noteOwed := s.mgmt.noteOwed, logQ := s.mgmt.logQ, bucket := s.mgmt.bucket } }
  ((s1.setWord 0x1040 0).setWord 0x1100 0).wr PAC_STATUS_TRIP 0

/-- VDD_AON_POWER_ON (R36, R72): the always-on domain starts, with both porst_n inputs low. -/
def execVddAonPowerOn (s : State) : Host.Outcome State Fault Refusal :=
  s.doneReset <| (({ s with bReset := true, tReset := true }).resetAon).resetBoth

/-- SUPPLY_RESET_LEVEL (R71): VDD_KT or VDD_KB. A sag of VDD_KT has reset Kalvon-T (R38). -/
def execSupplyResetLevel (rail : Rail) (s : State) : Host.Outcome State Fault Refusal :=
  s.done <| match rail with
    | .kt => ((s.onB fun s => s.holdAll).resetT).requestReset 2 0
    | .kb => (s.onB fun s => s.holdAll).requestReset 3 0
    | .aon => s

/-- AON_RESET_LEVEL (R71): `mainUp` says that the monitors find a main rail above its warning level afterwards. -/
def execAonResetLevel (mainUp : Bool) (s : State) : Host.Outcome State Fault Refusal :=
  s.done <|
    let s1 := (s.onB fun s => ({ s with caddyShut := true }).holdAll).resetAon
    if mainUp then s1.requestReset 0 0 else s1

/-! ## The request pin (R74) -/

/-- RST_REQ_PULSE_END: at least 200 ACLK. -/
def execRstReqPulseEnd (s : State) : Host.Outcome State Fault Refusal := s.done <| { s with pins := { s.pins with rstReqN := true } }

/-- RST_REQ_UNHONOURED: porst_n did not fall within 20 µs, and Kalvon-B resets its own main domain, in the mode it has. -/
def execRstReqUnhonoured (s : State) : Host.Outcome State Fault Refusal :=
  s.doneReset <|
    if !s.boot.reqPending || s.bReset then s
    else
      let test := s.on TST_STATUS_TMODE
      let s1 : State := { s with boot := { s.boot with causes := s.boot.causes ||| 64 }, bReset := true }
      ((s1.resetB).failWaiting).releaseB test

end Sys2Proof.Machine
end

