-- ==== Sys2Proof/Machine/Dispatch.lean ====
section
/-!
DEFINITION. The one place where a command meets its meaning: one arm per row of spec/opcode_table.json.
-/
namespace Sys2Proof.Machine

/-- A command's effect on everything but the queue. -/
def exec (i : Instr) (s : State) : Host.Outcome State Fault Refusal :=
  match i with
  | .porstAssert b t => Sys2Proof.Machine.execPorstAssert b t s
  | .porstRelease b t bTest tTest => Sys2Proof.Machine.execPorstRelease b t bTest tTest s
  | .vddAonPowerOn => Sys2Proof.Machine.execVddAonPowerOn s
  | .supplyResetLevel rail => Sys2Proof.Machine.execSupplyResetLevel rail s
  | .aonResetLevel mainUp => Sys2Proof.Machine.execAonResetLevel mainUp s
  | .supplyWarning rail => Sys2Proof.Machine.execSupplyWarning rail s
  | .sagHoldExpiry rail => Sys2Proof.Machine.execSagHoldExpiry rail s
  | .rstReqPulseEnd => Sys2Proof.Machine.execRstReqPulseEnd s
  | .rstReqUnhonoured => Sys2Proof.Machine.execRstReqUnhonoured s
  | .thermalTrip sensor reading => Sys2Proof.Machine.execThermalTrip sensor reading s
  | .tripClear src => Sys2Proof.Machine.execTripClear src s
  | .epochMarker bad => Sys2Proof.Machine.execEpochMarker bad s
  | .epochMiss => Sys2Proof.Machine.execEpochMiss s
  | .correctionSendPoint => Sys2Proof.Machine.execCorrectionSendPoint s
  | .correctionFreeze => Sys2Proof.Machine.execCorrectionFreeze s
  | .ttReqTimer => Sys2Proof.Machine.execTtReqTimer s
  | .ttRspTimeout seq => Sys2Proof.Machine.execTtRspTimeout seq s
  | .holdmaxExpiry => Sys2Proof.Machine.execHoldmaxExpiry s
  | .rootStartTimeout => Sys2Proof.Machine.execRootStartTimeout s
  | .periodChangeGo src v => Sys2Proof.Machine.execPeriodChangeGo src v s
  | .timeSendTimer => Sys2Proof.Machine.execTimeSendTimer s
  | .energySample ch data => Sys2Proof.Machine.execEnergySample ch data s
  | .energyChannelMissing ch => Sys2Proof.Machine.execEnergyChannelMissing ch s
  | .imageStepDone flash caddyBad journal a b => Sys2Proof.Machine.execImageStepDone flash caddyBad journal a b s
  | .restoreStepDone fac copy seg caddyBad progOk newSeg => Sys2Proof.Machine.execRestoreStepDone fac copy seg caddyBad progOk newSeg s
  | .tapStep => Sys2Proof.Machine.execTapStep s
  | .rateSwitch => Sys2Proof.Machine.execRateSwitch s
  | .alignDone g depth strobe => Sys2Proof.Machine.execAlignDone g depth strobe s
  | .checkWindowEnd seen => Sys2Proof.Machine.execCheckWindowEnd seen s
  | .tokenSilenceTimeout => Sys2Proof.Machine.execTokenSilenceTimeout s
  | .classKLossTimeout => Sys2Proof.Machine.execClassKLossTimeout s
  | .identTimeout => Sys2Proof.Machine.execIdentTimeout s
  | .capsAckTimeout => Sys2Proof.Machine.execCapsAckTimeout s
  | .discoveryEnd late => Sys2Proof.Machine.execDiscoveryEnd late s
  | .frameSeal g at_ => Sys2Proof.Machine.execFrameSeal g at_ s
  | .frameReceive g sealed rx => Sys2Proof.Machine.execFrameReceive g sealed rx s
  | .retryWaitTimeout g => Sys2Proof.Machine.execRetryWaitTimeout g s
  | .groupRecoveryDone g depth strobe seen => Sys2Proof.Machine.execGroupRecoveryDone g depth strobe seen s
  | .repairSpareDrive g => Sys2Proof.Machine.execRepairSpareDrive g s
  | .repairReadyCheck g => Sys2Proof.Machine.execRepairReadyCheck g s
  | .repairSwitch g => Sys2Proof.Machine.execRepairSwitch g s
  | .heirResealStart g => Sys2Proof.Machine.execHeirResealStart g s
  | .wake tile set count rev => Sys2Proof.Machine.execWake tile set count rev s
  | .wakeAck tile set count rev => Sys2Proof.Machine.execWakeAck tile set count rev s
  | .taps g taps => Sys2Proof.Machine.execTaps g taps s
  | .rate count => Sys2Proof.Machine.execRate count s
  | .tokenReq => Sys2Proof.Machine.execTokenReq s
  | .tokenRpt inc wtok rtok => Sys2Proof.Machine.execTokenRpt inc wtok rtok s
  | .tokenSet inc wtok rtok => Sys2Proof.Machine.execTokenSet inc wtok rtok s
  | .roles tile word => Sys2Proof.Machine.execRoles tile word s
  | .repair g w k m sw => Sys2Proof.Machine.execRepair g w k m sw s
  | .repairRdy g bad => Sys2Proof.Machine.execRepairRdy g bad s
  | .repairCancel g => Sys2Proof.Machine.execRepairCancel g s
  | .wireRpt g mask => Sys2Proof.Machine.execWireRpt g mask s
  | .groupState g st cause => Sys2Proof.Machine.execGroupState g st cause s
  | .hold => Sys2Proof.Machine.execHold s
  | .cal start dwell hmin => Sys2Proof.Machine.execCal start dwell hmin s
  | .calAck start dwell hmin => Sys2Proof.Machine.execCalAck start dwell hmin s
  | .heir g h r x n => Sys2Proof.Machine.execHeir g h r x n s
  | .groupRpt g none_ r => Sys2Proof.Machine.execGroupRpt g none_ r s
  | .ident atB m => Sys2Proof.Machine.execIdent atB m s
  | .capsSet m => Sys2Proof.Machine.execCapsSet m s
  | .capsAck m => Sys2Proof.Machine.execCapsAck m s
  | .regRd atB m => Sys2Proof.Machine.execRegRd atB m s
  | .regWr atB m => Sys2Proof.Machine.execRegWr atB m s
  | .regRsp atB m => Sys2Proof.Machine.execRegRsp atB m s
  | .msi m => Sys2Proof.Machine.execMsi m s
  | .trig m => Sys2Proof.Machine.execTrig m s
  | .permit m => Sys2Proof.Machine.execPermit m s
  | .opp m => Sys2Proof.Machine.execOpp m s
  | .time m => Sys2Proof.Machine.execTime m s
  | .therm m => Sys2Proof.Machine.execTherm m s
  | .thermSendTimer readings => Sys2Proof.Machine.execThermSendTimer readings s
  | .thermTimeout => Sys2Proof.Machine.execThermTimeout s
  | .dbgRd m => Sys2Proof.Machine.execDbgRd m s
  | .dbgRsp m => Sys2Proof.Machine.execDbgRsp m s
  | .trigRelease => Sys2Proof.Machine.execTrigRelease s
  | .permitRelease => Sys2Proof.Machine.execPermitRelease s
  | .oppRelease => Sys2Proof.Machine.execOppRelease s
  | .rdNc m => Sys2Proof.Machine.execRdNc m s
  | .wrLine m => Sys2Proof.Machine.execWrLine m s
  | .wrPart m => Sys2Proof.Machine.execWrPart m s
  | .atomic m => Sys2Proof.Machine.execAtomic m s
  | .rspData m => Sys2Proof.Machine.execRspData m s
  | .rspAck m => Sys2Proof.Machine.execRspAck m s
  | .rspAtom m => Sys2Proof.Machine.execRspAtom m s
  | .rspErr m => Sys2Proof.Machine.execRspErr m s
  | .rdS m => Sys2Proof.Machine.execRdS m s
  | .rdU m => Sys2Proof.Machine.execRdU m s
  | .upgrade m => Sys2Proof.Machine.execUpgrade m s
  | .wb m => Sys2Proof.Machine.execWb m s
  | .evict m => Sys2Proof.Machine.execEvict m s
  | .gntS m => Sys2Proof.Machine.execGntS m s
  | .gntE m => Sys2Proof.Machine.execGntE m s
  | .gntUpg m => Sys2Proof.Machine.execGntUpg m s
  | .wbAck m => Sys2Proof.Machine.execWbAck m s
  | .gntErr m => Sys2Proof.Machine.execGntErr m s
  | .snpInv m => Sys2Proof.Machine.execSnpInv m s
  | .snpShr m => Sys2Proof.Machine.execSnpShr m s
  | .srsp m => Sys2Proof.Machine.execSrsp m s
  | .srspData m => Sys2Proof.Machine.execSrspData m s
  | .homeResponse pair m => Sys2Proof.Machine.execHomeResponse pair m s
  | .homeSnpShr pair m => Sys2Proof.Machine.execHomeSnpShr pair m s
  | .homeSnpInv pair m => Sys2Proof.Machine.execHomeSnpInv pair m s
  | .clientRdShared bank req => Sys2Proof.Machine.execClientRdShared bank req s
  | .clientRdUnique bank req => Sys2Proof.Machine.execClientRdUnique bank req s
  | .clientUpgrade bank req => Sys2Proof.Machine.execClientUpgrade bank req s
  | .clientRdNc bank req => Sys2Proof.Machine.execClientRdNc bank req s
  | .clientWrLine bank req => Sys2Proof.Machine.execClientWrLine bank req s
  | .clientWrPart bank req => Sys2Proof.Machine.execClientWrPart bank req s
  | .clientAtomic bank req => Sys2Proof.Machine.execClientAtomic bank req s
  | .clientWb bank req => Sys2Proof.Machine.execClientWb bank req s
  | .clientEvict bank req => Sys2Proof.Machine.execClientEvict bank req s
  | .clientFlush bank req => Sys2Proof.Machine.execClientFlush bank req s
  | .clientSnoopRsp bank sid rsp data => Sys2Proof.Machine.execClientSnoopRsp bank sid rsp data s
  | .rlcFlush src v => Sys2Proof.Machine.execRlcFlush src v s
  | .dirFlush src => Sys2Proof.Machine.execDirFlush src s
  | .rflush src => Sys2Proof.Machine.execRflush src s
  | .tsiTile ch hdr beats => Sys2Proof.Machine.execTsiTile ch hdr beats s
  | .streamFrame atB payload => Sys2Proof.Machine.execStreamFrame atB payload s
  | .linkEn src n v => Sys2Proof.Machine.execLinkEn src n v s
  | .linkDisable src n v => Sys2Proof.Machine.execLinkDisable src n v s
  | .retrainWrite src n v => Sys2Proof.Machine.execRetrainWrite src n v s
  | .wmaxWrite src n v => Sys2Proof.Machine.execWmaxWrite src n v s
  | .healthWaitEnd n => Sys2Proof.Machine.execHealthWaitEnd n s
  | .oeReadDone n addr v => Sys2Proof.Machine.execOeReadDone n addr v s
  | .oePollTimer n => Sys2Proof.Machine.execOePollTimer n s
  | .laneRxlockRise n q => Sys2Proof.Machine.execLaneRxlockRise n q s
  | .laneRxlockFall n q => Sys2Proof.Machine.execLaneRxlockFall n q s
  | .trainingBlock n q bytes skewed => Sys2Proof.Machine.execTrainingBlock n q bytes skewed s
  | .prbsWindowEnd n q => Sys2Proof.Machine.execPrbsWindowEnd n q s
  | .flitStart n tx => Sys2Proof.Machine.execFlitStart n tx s
  | .linkStateTimeout n => Sys2Proof.Machine.execLinkStateTimeout n s
  | .waitExpiry n => Sys2Proof.Machine.execWaitExpiry n s
  | .incompatRetryTimer n => Sys2Proof.Machine.execIncompatRetryTimer n s
  | .flitPeriod n ups => Sys2Proof.Machine.execFlitPeriod n ups s
  | .gearboxFlitStart n => Sys2Proof.Machine.execGearboxFlitStart n s
  | .flitReceive n lanes => Sys2Proof.Machine.execFlitReceive n lanes s
  | .laneRepairTimeout n => Sys2Proof.Machine.execLaneRepairTimeout n s
  | .mirrorVerifyTimeout n => Sys2Proof.Machine.execMirrorVerifyTimeout n s
  | .mirrorChoiceTimer n => Sys2Proof.Machine.execMirrorChoiceTimer n s
  | .widthSwitchPoint n tx => Sys2Proof.Machine.execWidthSwitchPoint n tx s
  | .widenTimer n => Sys2Proof.Machine.execWidenTimer n s
  | .nbr n seen quar link fna inc vendor part lo hi caps => Sys2Proof.Machine.execNbr n seen quar link fna inc vendor part lo hi caps s
  | .retrain n => Sys2Proof.Machine.execRetrain n s
  | .mirror n log spare hold => Sys2Proof.Machine.execMirror n log spare hold s
  | .wreq n w mask ready => Sys2Proof.Machine.execWreq n w mask ready s
  | .widthSw n w map count => Sys2Proof.Machine.execWidthSw n w map count s
  | .linkJoin n mask => Sys2Proof.Machine.execLinkJoin n mask s
  | .lstate n held seenl enc done exp nxt base => Sys2Proof.Machine.execLstate n held seenl enc done exp nxt base s
  | .replayTimerExpiry n => Sys2Proof.Machine.execReplayTimerExpiry n s
  | .ageLimitExpiry n => Sys2Proof.Machine.execAgeLimitExpiry n s
  | .elDecay n => Sys2Proof.Machine.execElDecay n s
  | .ackKeepaliveTimer n => Sys2Proof.Machine.execAckKeepaliveTimer n s
  | .creditReturnTimer n => Sys2Proof.Machine.execCreditReturnTimer n s
  | .graceExpiry n => Sys2Proof.Machine.execGraceExpiry n s
  | .crsyncTimer n => Sys2Proof.Machine.execCrsyncTimer n s
  | .crsyncLo n totals => Sys2Proof.Machine.execCrsyncLo n totals s
  | .crsyncHi n totals => Sys2Proof.Machine.execCrsyncHi n totals s
  | .keyLoad src n rx => Sys2Proof.Machine.execKeyLoad src n rx s
  | .keyEpoch n rx => Sys2Proof.Machine.execKeyEpoch n rx s
  | .hbTimer n => Sys2Proof.Machine.execHbTimer n s
  | .hb n fna inc seq flags => Sys2Proof.Machine.execHb n fna inc seq flags s
  | .silenceSuspect n => Sys2Proof.Machine.execSilenceSuspect n s
  | .silenceUnreachable n => Sys2Proof.Machine.execSilenceUnreachable n s
  | .ttReq n seq full => Sys2Proof.Machine.execTtReq n seq full s
  | .ttRsp n seq stale pend t2 t3 => Sys2Proof.Machine.execTtRsp n seq stale pend t2 t3 s
  | .ttCyc n seq cyc period => Sys2Proof.Machine.execTtCyc n seq cyc period s
  | .ttPchg n period ceff => Sys2Proof.Machine.execTtPchg n period ceff s
  | .tcorrA n seq stale step f0 => Sys2Proof.Machine.execTcorrA n seq stale step f0 s
  | .tcorrB n seq inc period ceff => Sys2Proof.Machine.execTcorrB n seq inc period ceff s
  | .routeMessage n vc ups => Sys2Proof.Machine.execRouteMessage n vc ups s
  | .norouteTimeout m => Sys2Proof.Machine.execNorouteTimeout m s
  | .tableWrite src ix v => Sys2Proof.Machine.execTableWrite src ix v s
  | .meshWrite src d hi v => Sys2Proof.Machine.execMeshWrite src d hi v s
  | .drainWrite src hi v => Sys2Proof.Machine.execDrainWrite src hi v s
  | .fcmdFence src => Sys2Proof.Machine.execFcmdFence src s
  | .fcmdUnfence src => Sys2Proof.Machine.execFcmdUnfence src s
  | .fence n fna inc gen => Sys2Proof.Machine.execFence n fna inc gen s
  | .unfence n fna inc gen => Sys2Proof.Machine.execUnfence n fna inc gen s
  | .nbrAccept src n => Sys2Proof.Machine.execNbrAccept src n s
  | .tileSourceTake src => Sys2Proof.Machine.execTileSourceTake src s
  | .wdone rid => Sys2Proof.Machine.execWdone rid s
  | .rdata rid data => Sys2Proof.Machine.execRdata rid data s
  | .rerr rid => Sys2Proof.Machine.execRerr rid s
  | .retentionRetryTimer => Sys2Proof.Machine.execRetentionRetryTimer s
  | .tdelivDone m => Sys2Proof.Machine.execTdelivDone m s
  | .tile m => Sys2Proof.Machine.execTile m s
  | .tack m => Sys2Proof.Machine.execTack m s
  | .tnak m => Sys2Proof.Machine.execTnak m s
  | .sync m => Sys2Proof.Machine.execSync m s
  | .syncRsp m => Sys2Proof.Machine.execSyncRsp m s
  | .broken m => Sys2Proof.Machine.execBroken m s
  | .brack m => Sys2Proof.Machine.execBrack m s
  | .close m => Sys2Proof.Machine.execClose m s
  | .closeAck m => Sys2Proof.Machine.execCloseAck m s
  | .mreq m => Sys2Proof.Machine.execMreq m s
  | .mrsp m => Sys2Proof.Machine.execMrsp m s
  | .flowTimerExpiry f => Sys2Proof.Machine.execFlowTimerExpiry f s
  | .brokenRepeatTimer f => Sys2Proof.Machine.execBrokenRepeatTimer f s
  | .tackTimer src flow => Sys2Proof.Machine.execTackTimer src flow s
  | .requestTimerExpiry tag => Sys2Proof.Machine.execRequestTimerExpiry tag s
  | .responseHoldExpiry src sinc tag => Sys2Proof.Machine.execResponseHoldExpiry src sinc tag s
  | .retentionRebuild => Sys2Proof.Machine.execRetentionRebuild s
  | .syncTimeout f => Sys2Proof.Machine.execSyncTimeout f s
  | .scmdClose src => Sys2Proof.Machine.execScmdClose src s
  | .scmdBreak src => Sys2Proof.Machine.execScmdBreak src s
  | .scmdFree src => Sys2Proof.Machine.execScmdFree src s
  | .dcmdFree src => Sys2Proof.Machine.execDcmdFree src s
  | .pourArm src entry => Sys2Proof.Machine.execPourArm src entry s
  | .pourDisarm src entry => Sys2Proof.Machine.execPourDisarm src entry s
  | .pourDisable src v => Sys2Proof.Machine.execPourDisable src v s
  | .pageIn n ups => Sys2Proof.Machine.execPageIn n ups s
  | .trigSendPoint entry ix => Sys2Proof.Machine.execTrigSendPoint entry ix s
  | .barrierInstant n => Sys2Proof.Machine.execBarrierInstant n s
  | .hintTime n => Sys2Proof.Machine.execHintTime n s
  | .paceTick readings => Sys2Proof.Machine.execPaceTick readings s
  | .thermalCeilingUpdate => Sys2Proof.Machine.execThermalCeilingUpdate s
  | .mismWindow => Sys2Proof.Machine.execMismWindow s
  | .oppChangeRequest src opp => Sys2Proof.Machine.execOppChangeRequest src opp s
  | .oppInstant => Sys2Proof.Machine.execOppInstant s
  | .descriptorConfigWrite src rd w v => Sys2Proof.Machine.execDescriptorConfigWrite src rd w v s
  | .bldArm src rd => Sys2Proof.Machine.execBldArm src rd s
  | .bldClear src rd => Sys2Proof.Machine.execBldClear src rd s
  | .bldFree src rd => Sys2Proof.Machine.execBldFree src rd s
  | .initDone rd => Sys2Proof.Machine.execInitDone rd s
  | .blendTake ups => Sys2Proof.Machine.execBlendTake ups s
  | .blendTwaitExpiry k => Sys2Proof.Machine.execBlendTwaitExpiry k s
  | .emissionDone rd => Sys2Proof.Machine.execEmissionDone rd s
  | .shadowMismatch g sig again => Sys2Proof.Machine.execShadowMismatch g sig again s
  | .katVerdict targetPass sparePass => Sys2Proof.Machine.execKatVerdict targetPass sparePass s
  | .progStart src p => Sys2Proof.Machine.execProgStart src p s
  | .progStop src p => Sys2Proof.Machine.execProgStop src p s
  | .progTableWrite src p b v => Sys2Proof.Machine.execProgTableWrite src p b v s
  | .prgCommit src w v => Sys2Proof.Machine.execPrgCommit src w v s
  | .contextLoad ups => Sys2Proof.Machine.execContextLoad ups s
  | .quantumExpiry p => Sys2Proof.Machine.execQuantumExpiry p s
  | .programWake p => Sys2Proof.Machine.execProgramWake p s
  | .deadlineMiss p => Sys2Proof.Machine.execDeadlineMiss p s
  | .nop p => Sys2Proof.Machine.execNop p s
  | .endProg p => Sys2Proof.Machine.execEnd p s
  | .jmp p => Sys2Proof.Machine.execJmp p s
  | .bnz p => Sys2Proof.Machine.execBnz p s
  | .loop p => Sys2Proof.Machine.execLoop p s
  | .ldi p => Sys2Proof.Machine.execLdi p s
  | .addi p => Sys2Proof.Machine.execAddi p s
  | .alu p => Sys2Proof.Machine.execAlu p s
  | .gett p => Sys2Proof.Machine.execGett p s
  | .waita p => Sys2Proof.Machine.execWaita p s
  | .join p => Sys2Proof.Machine.execJoin p s
  | .dln p => Sys2Proof.Machine.execDln p s
  | .nodl p => Sys2Proof.Machine.execNodl p s
  | .raln p => Sys2Proof.Machine.execRaln p s
  | .rdcfg p => Sys2Proof.Machine.execRdcfg p s
  | .rdcmd p => Sys2Proof.Machine.execRdcmd p s
  | .recv p => Sys2Proof.Machine.execRecv p s
  | .rdst p => Sys2Proof.Machine.execRdst p s
  | .emit p => Sys2Proof.Machine.execEmit p s
  | .cvt p => Sys2Proof.Machine.execCvt p s
  | .send p => Sys2Proof.Machine.execSend p s
  | .wtac p => Sys2Proof.Machine.execWtac p s
  | .ptrg p => Sys2Proof.Machine.execPtrg p s
  | .hint p => Sys2Proof.Machine.execHint p s
  | .sig p => Sys2Proof.Machine.execSig p s
  | .caddyScrub found words => Sys2Proof.Machine.execCaddyScrub found words s
  | .journalPeriodTimer => Sys2Proof.Machine.execJournalPeriodTimer s
  | .snapshotDone seg ok => Sys2Proof.Machine.execSnapshotDone seg ok s
  | .cdySnap src => Sys2Proof.Machine.execCdySnap src s
  | .cdyDefault src => Sys2Proof.Machine.execCdyDefault src s
  | .seqfloorWrite src v => Sys2Proof.Machine.execSeqfloorWrite src v s
  | .flashReadWord src => Sys2Proof.Machine.execFlashReadWord src s
  | .flashProgramWord src => Sys2Proof.Machine.execFlashProgramWord src s
  | .flashErase src => Sys2Proof.Machine.execFlashErase src s
  | .flashCmdDone data ok => Sys2Proof.Machine.execFlashCmdDone data ok s
  | .entdaa da => Sys2Proof.Machine.execEntdaa da s
  | .rstdaa => Sys2Proof.Machine.execRstdaa s
  | .setnewda da => Sys2Proof.Machine.execSetnewda da s
  | .enec ibi hj => Sys2Proof.Machine.execEnec ibi hj s
  | .disec ibi hj => Sys2Proof.Machine.execDisec ibi hj s
  | .getpid => Sys2Proof.Machine.execGetpid s
  | .getbcr => Sys2Proof.Machine.execGetbcr s
  | .getdcr => Sys2Proof.Machine.execGetdcr s
  | .getstatus => Sys2Proof.Machine.execGetstatus s
  | .getmwl => Sys2Proof.Machine.execGetmwl s
  | .getmrl => Sys2Proof.Machine.execGetmrl s
  | .setmwl v => Sys2Proof.Machine.execSetmwl v s
  | .setmrl v => Sys2Proof.Machine.execSetmrl v s
  | .hotJoinTimer => Sys2Proof.Machine.execHotJoinTimer s
  | .setEndpointId from_ op eid => Sys2Proof.Machine.execSetEndpointId from_ op eid s
  | .getEndpointId from_ => Sys2Proof.Machine.execGetEndpointId from_ s
  | .getEndpointUuid from_ => Sys2Proof.Machine.execGetEndpointUuid from_ s
  | .getMctpVersionSupport from_ => Sys2Proof.Machine.execGetMctpVersionSupport from_ s
  | .getMessageTypeSupport from_ => Sys2Proof.Machine.execGetMessageTypeSupport from_ s
  | .regRead from_ bs => Sys2Proof.Machine.execRegRead from_ bs s
  | .regWrite from_ bs => Sys2Proof.Machine.execRegWrite from_ bs s
  | .sbFence from_ bs => Sys2Proof.Machine.execSbFence from_ bs s
  | .sbUnfence from_ bs => Sys2Proof.Machine.execSbUnfence from_ bs s
  | .reset from_ bs => Sys2Proof.Machine.execReset from_ bs s
  | .sbResetDelay => Sys2Proof.Machine.execSbResetDelay s
  | .status from_ bs => Sys2Proof.Machine.execStatus from_ bs s
  | .alarmRead from_ bs => Sys2Proof.Machine.execAlarmRead from_ bs s
  | .alarmAck from_ bs => Sys2Proof.Machine.execAlarmAck from_ bs s
  | .logRead from_ bs => Sys2Proof.Machine.execLogRead from_ bs s
  | .alarmNoteTimer => Sys2Proof.Machine.execAlarmNoteTimer s
  | .logBucketRefill => Sys2Proof.Machine.execLogBucketRefill s
  | .ownLock src ix v => Sys2Proof.Machine.execOwnLock src ix v s
  | .registerWrite src key v => Sys2Proof.Machine.execRegisterWrite src key v s
  | .trackerResidenceTick => Sys2Proof.Machine.execTrackerResidenceTick s
  | .trackerAgeExpiry e => Sys2Proof.Machine.execTrackerAgeExpiry e s
  | .bankCopyDone mem bank => Sys2Proof.Machine.execBankCopyDone mem bank s
  | .marginalClear src e => Sys2Proof.Machine.execMarginalClear src e s
  | .bondLoopback src atB v => Sys2Proof.Machine.execBondLoopback src atB v s
  | .bondLoopbackDone atB res => Sys2Proof.Machine.execBondLoopbackDone atB res s
  | .calibrationGo src v => Sys2Proof.Machine.execCalibrationGo src v s
  | .calRetryTimeout => Sys2Proof.Machine.execCalRetryTimeout s
  | .calSweepStart => Sys2Proof.Machine.execCalSweepStart s
  | .calSweepEnd hits => Sys2Proof.Machine.execCalSweepEnd hits s
  | .calVerifyDone errs => Sys2Proof.Machine.execCalVerifyDone errs s
  | .mbistGo src atB v => Sys2Proof.Machine.execMbistGo src atB v s
  | .mbistDone atB fails => Sys2Proof.Machine.execMbistDone atB fails s
  | .laneLoopbackGo src n v => Sys2Proof.Machine.execLaneLoopbackGo src n v s
  | .laneLoopbackDone n res => Sys2Proof.Machine.execLaneLoopbackDone n res s
  | .tapReset atB trst => Sys2Proof.Machine.execTapReset atB trst s
  | .sconfig atB v => Sys2Proof.Machine.execSconfig atB v s
  | .regacc atB key wr data => Sys2Proof.Machine.execRegacc atB key wr data s
  | .mbist atB v => Sys2Proof.Machine.execMbist atB v s
  | .extest atB v => Sys2Proof.Machine.execExtest atB v s
  | .samplePreload atB seen v => Sys2Proof.Machine.execSamplePreload atB seen v s
  | .bondWakeTimeout => Sys2Proof.Machine.execBondWakeTimeout s
  | .lstateHandshakeTimeout n => Sys2Proof.Machine.execLstateHandshakeTimeout n s
  | .supplyWarningClear rail => Sys2Proof.Machine.execSupplyWarningClear rail s
  | .oppSendPoint => Sys2Proof.Machine.execOppSendPoint s
  | .registerRead src key => Sys2Proof.Machine.execRegisterRead src key s

end Sys2Proof.Machine
end

