-- ==== Sys2Proof/Machine/Tick.lean ====
section
/-!
DEFINITION. One KCLK of the two halves with no command in it (assumption 1): the counts and the running fabric time
advance, the pulses at the ports end, and the work that needs no event of its own goes on.
-/
namespace Sys2Proof.Machine

/-- Boot step 1 ends with the KCLK after the release (R373), and step 7 with the KCLK after the links have started: discovery waits
for them (assumption 28). -/
def State.tickBoot (s : State) : State :=
  if s.rd IMG_BOOT_STEP = 1 && !s.tmode true && !s.on IMG_BOOT_STOP then s.wr IMG_BOOT_STEP 2
  else if s.rd IMG_BOOT_STEP = 7 && !s.on IMG_BOOT_STOP then s.wr IMG_BOOT_STEP 8
  else s

/-- The running count advances by INC (R255). -/
def State.tickTime (s : State) : State := if s.tst = 0 then s else s.setF (s.fnow + s.incr)

/-- A KCLK of Kalvon-B: permits that are due, entries of Pour that leave their slots (R284), WTACs that can end (R331),
log records (R423), and the transfers that the base die takes (R47). -/
def State.tickB (s : State) : State :=
  let s0 : State := { s.drainB.drainRets with kclk := s.kclk + 1, pins := { s.pins with bAck := false, bRdata := 0, bErr := false } }
  s0.tickBoot.tickTime.handPermits.sweepSlots.tellWtacs.sendLogs

/-- A KCLK of Kalvon-T: the pulses at its ports end (R50, R54, R278), and what its output channels show goes out if it is taken (R47). -/
def State.tickT (s : State) : State :=
  { s.drainT with tclk := s.tclk + 1, pins := { s.pins with lchValid := false, lchTrig := 0, pacOppChg := false, tAck := false, tRdata := 0, tErr := false } }

/-- A KCLK of the block: event flags set in the one before can be cleared (R19), and its writes are behind (R406). A half in reset does not count (R49). -/
def State.tick (s : State) : State :=
  let s0 : State := { s with mgmt := { s.mgmt with fresh := [], written := [] } }
  (s0.onB State.tickB).onT State.tickT

end Sys2Proof.Machine
end

