-- ==== Sys2Proof/Machine/Step.lean ====
section
/-!
DEFINITION. One step of the block: the command at the front of the queue, or one KCLK when nothing waits.
-/
namespace Sys2Proof.Machine

/-- One step. The oldest command that waits is carried out with the rest of the queue behind it; with nothing to do, a KCLK
passes (assumption 1). -/
def step (s : State) : Host.Outcome State Fault Refusal :=
  match s.pending with
  | [] => .next s.tick
  | c :: rest => exec c { s with pending := rest }

/-- The state with the command that a word of the opcode table spells at the front of the queue; the table gives no row any
bits, so no word spells one and the state is unchanged (assumption 1). -/
def State.withFetchWord (s : State) (nbits w : Nat) : State :=
  match decodeTableWord nbits w with
  | some c => { s with pending := c :: s.pending }
  | none => s

end Sys2Proof.Machine
end

