-- ==== Sys2Proof/Safety.lean ====
section
/-!
DEFINITION. What claims about the block are stated in: the legal builds, the canonical form of the stores, runs of
the queue, and the commands that act outside the main domains.
-/
namespace Sys2Proof.Machine

/-- The block is one of the nine builds (R6 to R8). -/
def State.LegalBuild (s : State) : Prop :=
  (s.tiles = 4 ∨ s.tiles = 8 ∨ s.tiles = 16) ∧ (s.links = 16 ∨ s.links = 32 ∨ s.links = 64)

/-- Every sparse store is in canonical form: keys rise, and nothing listed equals what an unlisted key reads as. -/
def State.canon (s : State) : Bool :=
  Sparse.wf regReset s.regs && Sparse.wf caddyReset s.caddy && Sparse.wf (fun _ => (0 : Word)) s.latches &&
    Sparse.wf (fun _ => LinkSt.reset) s.lnk && Sparse.wf (fun _ => ProgX.reset) s.prog && Sparse.wf (fun _ => 0) s.ecc.words

/-- The commands carried out one after the other, as long as each answers a next state. -/
def execAll : List Instr → State → Host.Outcome State Fault Refusal
  | [], s => .next s
  | c :: cs, s =>
    match exec c s with
    | .next t => execAll cs t
    | .fault r => .fault r
    | .refused r => .refused r

/-- `n` steps of the block. -/
def steps : Nat → State → Host.Outcome State Fault Refusal
  | 0, s => .next s
  | n + 1, s =>
    match step s with
    | .next t => steps n t
    | .fault r => .fault r
    | .refused r => .refused r

/-- An outcome with its next state changed. -/
def onNext (f : State → State) : Host.Outcome State Fault Refusal → Host.Outcome State Fault Refusal
  | .next t => .next (f t)
  | .fault r => .fault r
  | .refused r => .refused r

/-- A command answers a next state of which P holds. -/
def State.Answers (s : State) (c : Instr) (P : State → Prop) : Prop := ∃ t, exec c s = .next t ∧ P t

/-- Kalvon-B's main domain is out of reset and the build has link n, one of at most 64 (R7, R49). -/
def State.HasLink (s : State) (n : Nat) : Prop := s.bReset = false ∧ n < s.links ∧ n < 64

/-- Nothing differs but link n's state outside the registers. -/
def State.OnlyLink (s t : State) (n : Nat) : Prop := t = { s with lnk := t.lnk } ∧ ∀ m, m ≠ n → t.lk m = s.lk m

/-- No register differs but those with the given keys. -/
def State.OnlyWords (s t : State) (ks : List Nat) : Prop := ∀ k, k ∉ ks → t.word k = s.word k

/-- Two states that differ at most in registers, Caddy, the request for a snapshot, the log and the side-band, free
values drawn, messages handed to the crossing, and pins. -/
def State.Quiet (s t : State) : Prop :=
  t = { s with regs := t.regs, caddy := t.caddy, boot := t.boot, mgmt := t.mgmt, draws := t.draws, bond := t.bond, pins := t.pins }

end Sys2Proof.Machine
end

