-- ==== Sys2Proof/Certificates/Slice0/Obligations.lean ====
section
/-!
DEFINITION. The statements about the block that are to be proved. Each names the rules of spec/ it formalises; a clause that
rests on a choice of the model says so and names the row of the assumption log.
-/
open Sys2Proof Sys2Proof.Machine

/-! ## The queue and the build -/

/-- With a command at the front of the queue a step is that command carried out with the rest of the queue behind it. -/
def Obligations.StepRunsFront : Prop :=
  ∀ (s : State) (c : Instr) (rest : List Instr), s.pending = c :: rest → step s = exec c { s with pending := rest }

/-- With an empty queue a KCLK passes (assumption 1, a choice of the model): each half that is out of reset counts it (R26, R49), and
the queue stays empty. -/
def Obligations.StepIdles : Prop :=
  ∀ s : State, s.pending = [] → ∃ t, step s = .next t ∧ t.pending = [] ∧
    t.kclk = (if s.bReset then s.kclk else s.kclk + 1) ∧ t.tclk = (if s.tReset then s.tclk else s.tclk + 1)

/-- No command changes the commands that wait behind it or the sizes of the build (R6 to R8). -/
def Obligations.CommandsKeepQueueAndBuild : Prop :=
  ∀ (c : Instr) (s t : State), exec c s = .next t → t.pending = s.pending ∧ t.tiles = s.tiles ∧ t.links = s.links

/-- The commands that move the levels of the porst_n inputs (R36, R73, R74). -/
def movesReset : Instr → Bool
  | .porstAssert _ _ => true
  | .porstRelease _ _ _ _ => true
  | .vddAonPowerOn => true
  | .rstReqUnhonoured => true
  | _ => false

/-- The levels of the porst_n inputs change only by PORST_ASSERT, PORST_RELEASE, VDD_AON_POWER_ON and RST_REQ_UNHONOURED (R36, R49, R73, R74). -/
def Obligations.OnlyResetsMoveReset : Prop :=
  ∀ (c : Instr) (s t : State), movesReset c = false → exec c s = .next t → t.bReset = s.bReset ∧ t.tReset = s.tReset

/-- State.reset is one of the nine builds (R6 to R8; which one is the model's choice, in the log entry on the build), its stores are
canonical, no command waits, both halves are out of reset, and KB_GLB_RSTCAUSE shows AONPOR alone (R375). -/
def Obligations.ResetIsLegal : Prop :=
  State.reset.LegalBuild ∧ State.reset.canon = true ∧ State.reset.pending = [] ∧ State.reset.bReset = false ∧
    State.reset.tReset = false ∧ State.reset.word 0x1100 = 1

/-- From every state that is one of the nine builds, a step that answers a next state answers one of the nine builds (R6 to R8). -/
def Obligations.LegalBuildKept : Prop :=
  ∀ s t : State, s.LegalBuild → step s = .next t → t.LegalBuild

/-- From every state, after k steps that answer next states, k at most the number of commands that wait, the k oldest commands are
gone and the rest wait in their order; the next step carries out the oldest of them. -/
def Obligations.QueueDrainsInOrder : Prop :=
  ∀ (k : Nat) (s t : State), k ≤ s.pending.length → steps k s = .next t → t.pending = s.pending.drop k ∧
    ∀ c rest, s.pending.drop k = c :: rest → steps (k + 1) s = exec c { t with pending := rest }

/-- A link at or above the build's count stops a link's command, and a wire group at or above the build's count stops a group's
command (R6, R8): the block has no such link or group, so the event cannot happen. -/
def Obligations.BeyondTheBuild : Prop :=
  ∀ (s : State) (n : Nat), s.links ≤ n →
    (∀ c ∈ ([.healthWaitEnd n, .oePollTimer n, .flitStart n true, .flitStart n false, .linkStateTimeout n, .waitExpiry n, .gearboxFlitStart n, .widenTimer n,
      .retrain n, .replayTimerExpiry n, .ageLimitExpiry n, .elDecay n, .ackKeepaliveTimer n, .creditReturnTimer n, .graceExpiry n,
      .crsyncTimer n, .hbTimer n, .silenceSuspect n, .silenceUnreachable n, .lstateHandshakeTimeout n] : List Instr), exec c s = .fault .noSuchLink) ∧
    (∀ g, s.groups ≤ g → ∀ c ∈ ([.retryWaitTimeout g, .repairSpareDrive g, .repairReadyCheck g, .repairSwitch g, .repairCancel g,
      .heirResealStart g] : List Instr), exec c s = .fault .noSuchGroup)

/-! ## The bond field (chapter 03) -/

/-- A body of a link control frame, as the sending half hands it to the crossing (R99). -/
def frameBody (fs : List (Nat × Nat × Nat)) : BitVec 1008 := BitVec.ofNat 1008 (pack fs)

/-- R99 to R101, R104: the link control frames of training in Kalvon-T, while it is out of reset. Outside test mode (R450) WAKE sets its count
to the carried count + 19, makes it drive its groups and is answered by WAKE_ACK with the same body on the T→B set of the same tile
and set index; in test mode it does nothing. In a state of R101 that allows them (which states do is assumption 64, a choice), RATE is kept; TOKEN_REQ and TOKEN_SET are
answered by TOKEN_RPT with what Kalvon-T then holds; ROLES is kept; HOLD holds all traffic. Each shows its training state in
KT_BND_STATUS, and no register but those named changes, nor anything outside the bond field but the count. In any other state
they are ignored and PROTO is set. -/
def Obligations.TrainingFramesInKalvonT : Prop :=
  ∀ (s : State), s.tReset = false → ∀ (tile set count rev inc wtok rtok word : Nat),
    (s.on KT_TST_STATUS_TMODE = true → s.Answers (.wake tile set count rev) (fun t => t = s)) ∧
    (s.on KT_TST_STATUS_TMODE = false → s.Answers (.wake tile set count rev) (fun t => t = { s with tclk := count + 19, regs := t.regs, bond := t.bond } ∧
      s.OnlyWords t [KT_BND_STATUS_STATE.key] ∧ t.rd KT_BND_STATUS_STATE = 1 ∧ t.bond.driveT = true ∧
      t.bond.xTB = s.bond.xTB ++ [.ctrlOn tile set 2 (frameBody [(0, 32, count), (32, 8, tile), (40, 8, set), (48, 8, rev)])])) ∧
    (s.rd KT_BND_STATUS_STATE ∈ [1, 2, 3] → s.Answers (.rate count) (fun t => t = { s with regs := t.regs, bond := t.bond } ∧
      s.OnlyWords t [KT_BND_STATUS_STATE.key] ∧ t.rd KT_BND_STATUS_STATE = 4 ∧ t.bond.rateAt = some count ∧ t.bond.xTB = s.bond.xTB)) ∧
    (s.rd KT_BND_STATUS_STATE ∈ [6, 7] → s.Answers .tokenReq (fun t => t = { s with regs := t.regs, bond := t.bond } ∧
      s.OnlyWords t [KT_BND_STATUS_STATE.key] ∧ t.rd KT_BND_STATUS_STATE = 7 ∧
      t.bond.xTB = s.bond.xTB ++ [.ctrl 6 (frameBody [(0, 16, s.rd KT_BND_HELD_INC), (16, 32, s.rd KT_BND_WTOKEN), (48, 32, s.rd KT_BND_RTOKEN)])])) ∧
    (s.rd KT_BND_STATUS_STATE ∈ [7, 8] →
      s.Answers (.tokenSet inc wtok rtok) (fun t => t = { s with regs := t.regs, bond := t.bond } ∧
        s.OnlyWords t [KT_BND_HELD_INC.key, KT_BND_WTOKEN.key, KT_BND_RTOKEN.key] ∧
        t.rd KT_BND_HELD_INC = inc % 2 ^ 16 ∧ t.rd KT_BND_WTOKEN = wtok % 2 ^ 32 ∧ t.rd KT_BND_RTOKEN = rtok % 2 ^ 32 ∧
        t.bond.xTB = s.bond.xTB ++ [.ctrl 6 (frameBody [(0, 16, inc), (16, 32, wtok), (48, 32, rtok)])]) ∧
      s.Answers (.roles tile word) (fun t => t = { s with regs := t.regs, bond := t.bond } ∧ s.OnlyWords t [KT_BND_STATUS_STATE.key] ∧
        t.rd KT_BND_STATUS_STATE = 8 ∧ Sparse.get (fun _ => 0) t.bond.tRoles tile = word ∧
        (∀ u, u ≠ tile → Sparse.get (fun _ => 0) t.bond.tRoles u = Sparse.get (fun _ => 0) s.bond.tRoles u))) ∧
    (s.rd KT_BND_STATUS_STATE ∈ [1, 2, 3, 4, 5, 6, 7, 8] → s.Answers .hold (fun t => t = { s with tHold := true, regs := t.regs, bond := t.bond } ∧
      s.OnlyWords t [KT_BND_STATUS_STATE.key] ∧ t.rd KT_BND_STATUS_STATE = 9)) ∧
    (∀ c ∈ (if s.rd KT_BND_STATUS_STATE ∈ [1, 2, 3] then [] else [Instr.rate count]) ++ (if s.rd KT_BND_STATUS_STATE ∈ [6, 7] then [] else [.tokenReq]) ++
        (if s.rd KT_BND_STATUS_STATE ∈ [7, 8] then [] else [.tokenSet inc wtok rtok, .roles tile word]) ++
        (if s.rd KT_BND_STATUS_STATE ∈ [1, 2, 3, 4, 5, 6, 7, 8] then [] else [.hold]),
      s.Answers c (fun t => t.rd KT_XPR_EVT_PROTO = 1 ∧ t.tHold = s.tHold ∧ t.bond.xTB = s.bond.xTB ∧ t.bond.rateAt = s.bond.rateAt ∧ t.bond.tRoles = s.bond.tRoles ∧
        t.rd KT_BND_STATUS_STATE = s.rd KT_BND_STATUS_STATE ∧ t.word KT_BND_HELD_INC.key = s.word KT_BND_HELD_INC.key))

/-- R97 to R99, R470: the link control frames about one group in Kalvon-T, while it is out of reset and in a state of R101 that allows them
(assumption 64, a choice). TAPS sets the 69 tap targets
of the group; REPAIR is kept with its wire, spare, M and S; REPAIR_CANCEL drops the repair and puts its spare out of use (0x7E);
GROUP_STATE is kept, and ends a repair unless the group is in service; HEIR makes the sending half of a T→B group, or the
receiving half of a B→T group, take over the first N frames to carry of the failed group, behind those it carries already. Nothing else
changes but, for TAPS, the tap targets and KT_BND_STATUS. -/
def Obligations.GroupFramesInKalvonT : Prop :=
  ∀ (s : State) (g : Nat), s.tReset = false → g < s.groups →
    (s.rd KT_BND_STATUS_STATE ∈ [1, 2, 3] → ∀ taps : List Nat, s.Answers (.taps g taps) (fun t => t = { s with regs := t.regs, bond := t.bond } ∧
      (∀ w, w < 69 → t.rd (KT_BND_TAP_TARGET g w) = taps.getD w 0 % 2 ^ 6) ∧
      (∀ k, k ≠ KT_BND_STATUS_STATE.key → (∀ w, w < 69 → k ≠ (KT_BND_TAP_TARGET g w).key) → t.word k = s.word k))) ∧
    (s.rd KT_BND_STATUS_STATE ∈ [7, 8] →
      (∀ w k m sw : Nat, s.Answers (.repair g w k m sw) (fun t => t = { s with bond := t.bond } ∧
        t.grp g = { s.grp g with tRepair := some (w, k, m, sw) } ∧ ∀ h, h ≠ g → t.grp h = s.grp h)) ∧
      (s.Answers (.repairCancel g) (fun t => t = { s with bond := t.bond } ∧ (∀ h, h ≠ g → t.grp h = s.grp h) ∧
        t.grp g = match (s.grp g).tRepair with
          | some (_, k, _, _) => { s.grp g with tRepair := none, tMap := setBits (s.grp g).tMap (8 * k) 8 0x7E }
          | none => s.grp g)) ∧
      (∀ f r x n : Nat, s.Answers (.heir f g r x n) (fun t => t = { s with bond := t.bond } ∧ (∀ h, h ≠ g → t.grp h = s.grp h) ∧
        let items := ((s.grp f).carryFrom f r).take n
        (items = [] → t.grp g = s.grp g) ∧
        (items ≠ [] → t.grp g = if gBT g then { s.grp g with heirRx := (s.grp g).heirRx ++ [{ g := f, x := x, items := items }] }
          else { s.grp g with heir := (s.grp g).heir ++ [{ g := f, x := x, items := items }] })))) ∧
    (s.rd KT_BND_STATUS_STATE ∈ [1, 2, 3, 4, 5, 6, 7, 8] →
      ∀ st cause : Nat, s.Answers (.groupState g st cause) (fun t => t = { s with bond := t.bond } ∧ (∀ h, h ≠ g → t.grp h = s.grp h) ∧
        t.grp g = { s.grp g with tState := st, tRepair := if st = 0 then (s.grp g).tRepair else none } ∧
        (¬ (st = 2 ∧ gBT g = true) → t.bond.xTB = s.bond.xTB) ∧
        (st = 2 ∧ gBT g = true → t.bond.xTB = s.bond.xTB ++ [.ctrl 0x19 (match (s.grp g).unpresented g with
          | some r => frameBody [(0, 16, g), (16, 8, 0), (24, 32, r)]
          | none => frameBody [(0, 16, g), (16, 8, 1)])])))

/-- R90, R96, R99 to R101, R104, R136: the events and frames of training in Kalvon-B, while it is out of reset and the boot has not stopped. RATE_SWITCH begins
ALIGN in both halves; ALIGN_DONE notes a group's depth, and the last group begins CHECK; a strobe that does not toggle fails its group with cause 1; WAKE_ACK of a set counts it
once; a silent bond field stops the boot with cause 3 and asks for a full reset; TOKEN_RPT goes on with TOKEN_SET or
IDENT, or is a mismatch; 4,096 KCLK of silence is one too. A loss of class K in Kalvon-T makes it hold all traffic. -/
def Obligations.TrainingGoesOnInKalvonB : Prop :=
  ∀ (s : State), s.bReset = false → s.on IMG_BOOT_STOP = false →
    s.Answers .rateSwitch (fun t => if s.rd BND_STATUS_STATE = 4 ∧ s.bond.rateAt.isSome = true
      then t.rd BND_STATUS_STATE = 5 ∧ t.rd KT_BND_STATUS_STATE = 5 ∧ t.bond.rateAt = none ∧ s.OnlyWords t [BND_STATUS_STATE.key, KT_BND_STATUS_STATE.key]
      else t = s) ∧
    (∀ g depth : Nat, g < s.groups → s.Answers (.alignDone g depth true) (fun t => if s.rd BND_STATUS_STATE = 5
      then (t.grp g).aligned = true ∧ t.rd (BND_GSTAT_DEPTH g) = (if depth ≤ 4 then depth else 0) ∧
        (t.rd BND_STATUS_STATE = 5 ∨ t.rd BND_STATUS_STATE = 6) ∧
        (t.rd BND_STATUS_STATE = 6 ↔ ∀ h, h < s.groups → (t.grp h).aligned = true ∨ t.rd (BND_GSTAT_STATE h) = 2)
      else t = s) ∧
      (s.rd BND_STATUS_STATE = 5 → s.rd (BND_GSTAT_STATE g) ≠ 2 → s.Answers (.alignDone g depth false) (fun t =>
        t.rd (BND_GSTAT_STATE g) = 2 ∧ t.rd (BND_GSTAT_CAUSE g) = 1))) ∧
    (∀ tile set count rev : Nat, s.rd BND_STATUS_STATE = 1 → s.Answers (.wakeAck tile set count rev) (fun t =>
      t.bond.acked = if s.bond.acked.contains (tile, set) then s.bond.acked else s.bond.acked ++ [(tile, set)])) ∧
    (s.rd BND_STATUS_STATE = 1 → s.rd TST_STATUS_CSTATE = 0 → s.bond.acked = [] → s.Answers .bondWakeTimeout (fun t =>
      t.hold = true ∧ t.rd IMG_BOOT_STOP = 1 ∧ t.rd IMG_BOOT_STOPC = 3 ∧ t.boot.causes = s.boot.causes ||| 32 ∧ t.boot.fcode = 4)) ∧
    (s.rd BND_STATUS_STATE ∈ [7, 8] → ∀ inc wtok rtok : Nat, s.Answers (.tokenRpt inc wtok rtok) (fun t =>
      (s.bond.tokens = 2 → t.bond.tokens = 3 ∧ t.bond.identTries = 1 ∧ t.bond.xBT = s.bond.xBT ++ [.msg 3 (msgIdentB s)]) ∧
      (s.bond.tokens = 1 ∧ inc = 0 ∧ wtok = 0 ∧ rtok = 0 → t.bond.tokens = 2 ∧ t.bond.xBT = s.bond.xBT ++
        [.ctrl 7 (frameBody [(0, 16, s.inc), (16, 32, s.rd BND_WTOKEN), (48, 32, s.rd BND_RTOKEN)])]) ∧
      (s.bond.tokens = 1 ∧ ¬ (inc = 0 ∧ wtok = 0 ∧ rtok = 0) → t.hold = true ∧ t.rd BND_STATUS_STATE = 9 ∧ t.boot.fcode = 1))) ∧
    s.Answers .tokenSilenceTimeout (fun t => if s.rd TST_STATUS_CSTATE = 0 ∧ s.rd BND_STATUS_STATE ∈ [2, 3, 4, 7, 8]
      then t.hold = true ∧ t.rd BND_STATUS_STATE = 9 ∧ t.boot.fcode = 1 else t = s) ∧
    (s.tReset = false → s.Answers .classKLossTimeout (fun t => t.tHold = true ∧ t.rd KT_BND_STATUS_STATE = 9 ∧ t.rd KT_BND_EVT_LOSS = 1))

/-- R89, R101, R103: with Kalvon-B out of reset and no calibration, TAP_STEP moves every tap of a T→B group in Kalvon-B by one towards its
target, where the register store is canonical. CHECK_WINDOW_END in CHECK (state 6), with no calibration and the boot not stopped, fails or repairs each group by what
it sampled; with a class-K group left in service in each direction it goes on to TOKEN (7) in both halves and boot step 5 with
TOKEN_REQ, and otherwise the boot stops with cause 3. Out of CHECK it changes nothing. -/
def Obligations.TapsStepAndCheckEnds : Prop :=
  ∀ (s : State), s.bReset = false →
    (s.rd TST_STATUS_CSTATE = 0 → Sparse.wf regReset s.regs = true → s.Answers .tapStep (fun t =>
      ∀ g w, g < s.groups → gBT g = false → w < 69 → t.word (BND_TAP_TAP g w).key = tapStep (s.word (BND_TAP_TAP g w).key) (s.rd (BND_TAP_TARGET g w)))) ∧
    (∀ seen : List (Nat × List (Nat × Nat)),
      let u := (List.range s.groups).foldl (fun (s : State) g => s.checkGroup seen g) s
      let left := fun bt => (List.range u.groups).any fun g => gBT g == bt && u.cls g == 3 && u.serving g
      (s.rd BND_STATUS_STATE ≠ 6 → s.Answers (.checkWindowEnd seen) (fun t => t = s)) ∧
      (s.rd BND_STATUS_STATE = 6 → s.rd TST_STATUS_CSTATE = 0 → s.on IMG_BOOT_STOP = false →
        (left true = true → left false = true → s.Answers (.checkWindowEnd seen) (fun t =>
          t.rd BND_STATUS_STATE = 7 ∧ t.rd KT_BND_STATUS_STATE = 7 ∧ t.rd IMG_BOOT_STEP = 5 ∧ t.bond.tokens = 1 ∧ t.bond.xBT = u.bond.xBT ++ [.ctrl 5 0] ∧
          t.rd BND_RTOKEN = u.roleToken % 2 ^ 32)) ∧
        (left true = false ∨ left false = false → s.Answers (.checkWindowEnd seen) (fun t =>
          t.hold = true ∧ t.rd IMG_BOOT_STOP = 1 ∧ t.rd IMG_BOOT_STOPC = 3 ∧ t.boot.fcode = 4))))

/-- R86, R87, R94, R96, R98, R470: FRAME_SEAL in a sealing slot of a group that its half drives, that is in service and not in CHECK, puts exactly one frame on the
wires: the next frame of a replay run, else from X on the next frame that the group carries for a failed one, else a new frame; the group then holds it. A frame that arrives leaves the wires; in a group out
of service nothing else happens; a T→B group whose strobe has failed fails with cause 1; before a B→T group is aligned its good frames are counted; later one that fails its check, with none kept or missed before it, is kept, and its carrier asks for it; a link
control frame that passes it, with no NAK and no spare bits, is presented. -/
def Obligations.FramesSealAndArrive : Prop :=
  ∀ (s : State) (g : Nat), s.bReset = false → s.tReset = false → g < s.groups →
    (∀ c : Nat, (s.isSlot g c = false → s.Answers (.frameSeal g c) (fun t => t = s)) ∧
      (s.isSlot g c = true → (if gBT g then s.bond.driveB = true ∧ s.rd (BND_GSTAT_STATE g) = 0 ∧ s.rd BND_STATUS_STATE ≠ 6
          else s.bond.driveT = true ∧ (s.grp g).tState = 0 ∧ s.rd KT_BND_STATUS_STATE ≠ 6) →
        ((s.grp g).run = [] → (s.grp g).heir = [] → s.Answers (.frameSeal g c) (fun t => t.word = s.word ∧ ∃ f, t.bond.wires = s.bond.wires ++ [(g, c, f)] ∧
          { orig := c, last := c, frame := f, r := 0, due := some (c + s.latency - 1), src := none } ∈ (t.grp g).held)) ∧
        (∀ o rest h, (s.grp g).run = o :: rest → (s.grp g).held.find? (fun h => h.orig = o) = some h → s.Answers (.frameSeal g c) (fun t =>
          t.word = s.word ∧ t.bond.wires = s.bond.wires ++ [(g, c, { h.frame with retry := (s.grp g).runHead })] ∧ (t.grp g).run = rest)) ∧
        (∀ j js it rest f, (s.grp g).run = [] → (s.grp g).heir = j :: js → j.items = it :: rest → it.frame = some f → reached j.x c = true →
          s.Answers (.frameSeal g c) (fun t => t.word = s.word ∧
            t.bond.wires = s.bond.wires ++ [(g, c, { f with nakp := (s.grp g).nakp, naks := (s.grp g).naks, retry := false })] ∧
            (t.grp g).heir = if rest = [] then js else { j with items := rest } :: js)))) ∧
    (∀ (c : Nat) (rx : RxFrame),
      (s.rd (BND_GSTAT_STATE g) ≠ 0 → s.Answers (.frameReceive g c rx) (fun t =>
        t = { s with bond := { s.bond with wires := s.bond.wires.filter fun w => !(w.1 == g && w.2.1 == c) } })) ∧
      (s.rd (BND_GSTAT_STATE g) = 0 → rx.strobe = false → gBT g = false → s.Answers (.frameReceive g c rx) (fun t =>
        t.rd (BND_GSTAT_STATE g) = 2 ∧ t.rd (BND_GSTAT_CAUSE g) = 1)) ∧
      (s.rd (BND_GSTAT_STATE g) = 0 → s.unaligned g = true → rx.strobe = true → rx.crc.toNat = frameCrc rx.frame → (s.grp g).tGood < 7 →
        s.Answers (.frameReceive g c rx) (fun t => t.grp g = { s.grp g with tGood := (s.grp g).tGood + 1 } ∧ t.bond.ctlT = s.bond.ctlT ∧ t.word = s.word)) ∧
      (s.rd (BND_GSTAT_STATE g) = 0 → s.unaligned g = false → rx.strobe = true → rx.spares = [] → (s.grp g).kept = none → (s.grp g).missed = [] →
        (rx.crc.toNat ≠ frameCrc rx.frame → s.rd (BND_GSTAT_STATE (gCarrier g)) ≠ 2 → s.Answers (.frameReceive g c rx) (fun t =>
          (∃ b, (t.grp g).kept = some ((s.grp g).origOf c, rx, b)) ∧ (t.grp (gCarrier g)).nakp = true)) ∧
        (rx.crc.toNat = frameCrc rx.frame → rx.frame.nakp = false → rx.frame.naks = false →
          rx.frame.ctrl = true → (s.grp g).heirRx = [] → (s.grp g).next ≤ (s.grp g).origOf c →
          (if gBT g then ctlFromB else ctlFromT).contains (bits rx.frame.payload.toNat 0 8) = true → s.Answers (.frameReceive g c rx) (fun t =>
          (t.grp g).next = (s.grp g).origOf c + 1 ∧
          (if gBT g then t.bond.ctlT = s.bond.ctlT ++ [(bits rx.frame.payload.toNat 0 8, rx.frame.payload.extractLsb' 16 1008)]
            else t.bond.ctlB = s.bond.ctlB ++ [(bits rx.frame.payload.toNat 0 8, rx.frame.payload.extractLsb' 16 1008)])))))

/-- R95 to R98, R470: at M the spare of a repair is driven; REPAIR_RDY notes what the receiving half says, in the states that allow it (assumption 64, a choice); a repair that is ready at
S − 64 stands, another is cancelled, its spare goes out of use and the repair starts again with the next usable free spare; at S the wire is on its spare and the repair is over; a receiver that waited 64 KCLK for its RETRY frame starts a
recovery of a group in service within GREC_MAX, which drops its repairs; a recovery that finds the strobe, the trained depth and every wire mapped returns the group to
service with its held frames to be resealed first, and one without a strobe fails the group with cause 1; the failed B→T group's frames go to its heir; WIRE_RPT counts an error of each wire it names; an heir whose X has come reseals from now. -/
def Obligations.GroupsAreRepairedAndRecovered : Prop :=
  ∀ (s : State) (g : Nat), s.bReset = false → g < s.groups →
    s.Answers (.repairSpareDrive g) (fun t => t = { s with bond := t.bond } ∧ (∀ h, h ≠ g → t.grp h = s.grp h) ∧
      ∀ p, (s.grp g).repair = some p → gBT g = true ∨ (s.grp g).tRepair.isSome = true → t.grp g = { s.grp g with repair := some { p with driven := true } }) ∧
    (s.rd BND_STATUS_STATE ∈ [7, 8] → ∀ bad : Bool, s.Answers (.repairRdy g bad) (fun t => t = { s with bond := t.bond } ∧ (∀ h, h ≠ g → t.grp h = s.grp h) ∧
      t.grp g = { s.grp g with repair := (s.grp g).repair.map fun p => { p with ready := !bad, bad := bad } })) ∧
    s.Answers (.repairReadyCheck g) (fun t =>
      ((s.grp g).repair = none → t = s) ∧ (∀ p, (s.grp g).repair = some p → p.ready = true → p.bad = false → t = s) ∧
      (∀ p k, (s.grp g).repair = some p → (p.ready = false ∨ p.bad = true) → p.k < 4 → s.rd (BND_GSTAT_STATE g) = 0 →
        findUp (fun j => j != p.k && s.spareFree g j) s.spares 0 = some k →
        t.spare g p.k = 0x7E ∧ (t.grp g).repair = some ⟨p.w, k, s.slotFrom g (s.kclk + 64), s.slotFrom g (s.kclk + 64) + 1024, false, 0, false, false⟩)) ∧
    s.Answers (.repairSwitch g) (fun t => ((s.grp g).repair = none → t = s) ∧
      ∀ p, (s.grp g).repair = some p → p.ready = true → p.bad = false → (s.grp g).todo = [] → p.k < 4 → p.w < 65 →
        t.spare g p.k = p.w ∧ (t.grp g).repair = none ∧ (t.grp g).tRepair = none) ∧
    s.Answers (.retryWaitTimeout g) (fun t => ((s.grp g).kept = none → t = s) ∧
      ((s.grp g).kept.isSome = true → s.rd (BND_GSTAT_STATE g) = 0 → ((s.grp g).recs.filter fun u => s.kclk - u < secK).length < s.rd BND_CTL_GREC_MAX →
        t.rd (BND_GSTAT_STATE g) = 1 ∧ t.grp g = { s.grp g with stopped := true, run := [], repair := none, todo := [], recs := ((s.grp g).recs.filter fun u => s.kclk - u < secK) ++ [s.kclk] })) ∧
    (∀ (depth : Nat) (strobe : Bool) (seen : List (Nat × Nat)), s.Answers (.groupRecoveryDone g depth strobe seen) (fun t => (s.rd (BND_GSTAT_STATE g) ≠ 1 → t = s) ∧
      (s.rd (BND_GSTAT_STATE g) = 1 → strobe = false → t.rd (BND_GSTAT_STATE g) = 2 ∧ t.rd (BND_GSTAT_CAUSE g) = 1) ∧
      ∀ u, s.rd (BND_GSTAT_STATE g) = 1 → strobe = true → 1 ≤ depth → depth ≤ 4 → depth = s.rd (BND_GSTAT_DEPTH g) → s.checkWires g (s.failedWires seen) = some u →
        t.rd (BND_GSTAT_STATE g) = 0 ∧ (t.grp g).stopped = false ∧ (t.grp g).runHead = true ∧ (t.grp g).run = (s.grp g).held.map (·.orig))) ∧
    (s.rd BND_STATUS_STATE ∈ [7, 8] → ∀ r : Nat, s.Answers (.groupRpt g false r) (fun t => ∀ h, gBT g = true → s.rd (BND_GSTAT_STATE g) = 2 → s.heirOf g = some h →
      (s.grp g).carryFrom g r ≠ [] →
      t.grp h = { s.grp h with heir := (s.grp h).heir ++ [{ g := g, x := s.slotFrom h (s.kclk + 64), items := (s.grp g).carryFrom g r }] } ∧
      (∀ i, i ≠ h → t.grp i = s.grp i) ∧
      t.bond.xBT = s.bond.xBT ++ [.ctrl 0x18 (frameBody [(0, 16, g), (16, 16, h), (32, 32, r), (64, 32, s.slotFrom h (s.kclk + 64)),
        (96, 8, ((s.grp g).carryFrom g r).length)])])) ∧
    (s.rd BND_STATUS_STATE ∈ [7, 8] → ∀ mask : Nat, s.Answers (.wireRpt g mask) (fun t =>
      t = ((List.range 69).filter fun w => bitAt mask w).foldl (fun s w => s.wireError g w (s.cls g)) (s.tookB 0x13 (pack [(0, 16, g), (16, 72, mask)])))) ∧
    s.Answers (.heirResealStart g) (fun t => t = { s with bond := t.bond } ∧ (∀ h, h ≠ g → t.grp h = s.grp h) ∧
      (∀ j js, (s.grp g).heir = j :: js → t.grp g = { s.grp g with heir := { j with x := min j.x (s.sendCount g) } :: js }) ∧
      ((s.grp g).heir = [] → t = s))

/-! ## The crossing (chapter 04) -/

/-- R134 to R136, R373: Kalvon-T answers IDENT with its own and CAPS_SET with CAPS_ACK, taking the values. Kalvon-B sends CAPS_SET with
the common capabilities to a peer of major version 1 with the same tiles; with another major version it stops the boot with cause 4. IDENT and CAPS_SET are
sent again until 8 attempts were made; then the boot stops with cause 5 and a full reset is asked for. CAPS_ACK with the common
capabilities ends the exchange: the ports of Kalvon-T become ready and boot reaches step 7. -/
def Obligations.IdentityExchange : Prop :=
  ∀ (s : State), s.bReset = false → s.tReset = false →
    (∀ m : XMsg, s.Answers (.ident false m) (fun t => t = { s with bond := t.bond } ∧ t.bond.xTB = s.bond.xTB ++ [.msg 3 (msgIdentT s)])) ∧
    (∀ m : XMsg, s.Answers (.capsSet m) (fun t => t = { s with regs := t.regs, bond := t.bond } ∧ t.bond.xTB = s.bond.xTB ++ [.msg 3 { hdr := 0x72, data := m.data }] ∧
      t.rd KT_XPR_CAPS = bits (m.data.headD 0).toNat 0 32 ∧ t.rd KT_XPR_STATUS_PAIRED = 1 ∧ t.rd KT_XPR_STATUS_HLPS_MAJ = 1 ∧ t.rd KT_XPR_STATUS_HLPS_MIN = 1)) ∧
    (∀ m : XMsg, s.Answers (.ident true m) (fun t => s.bond.identTries ≠ 0 → s.bond.capsTries = 0 → s.on IMG_BOOT_STOP = false →
      t.rd BND_PEER_ID_VENDOR = xf m 31 16 ∧ t.rd BND_PEER_ID_PART = xf m 47 32 ∧ t.rd BND_PEER_VER = xf m 79 48 ∧
      (xf m 87 80 ≠ 1 → t.hold = true ∧ t.rd IMG_BOOT_STOP = 1 ∧ t.rd IMG_BOOT_STOPC = 4) ∧
      (xf m 87 80 = 1 → xf m 97 96 = s.buildWord % 4 → bits (m.data.headD 0).toNat 16 4 = 0 → s.rd BND_HLPS_FLOOR ≤ min 1 (xf m 95 88) →
        t.bond.capsTries = 1 ∧ t.bond.xBT = s.bond.xBT ++ [.msg 3 (msgCapsSet (commonCaps 0x054001FF (bits (m.data.headD 0).toNat 0 32)))]))) ∧
    s.Answers .identTimeout (fun t => s.bond.identTries ≠ 0 → s.bond.capsTries = 0 → s.on IMG_BOOT_STOP = false →
      if s.bond.identTries < 8 then t.bond.identTries = s.bond.identTries + 1 ∧ t.bond.xBT = s.bond.xBT ++ [.msg 3 (msgIdentB s)] ∧ t.word = s.word
      else t.hold = true ∧ t.rd IMG_BOOT_STOP = 1 ∧ t.rd IMG_BOOT_STOPC = 5 ∧ t.boot.fcode = 3) ∧
    s.Answers .capsAckTimeout (fun t => s.bond.capsTries ≠ 0 → s.rd IMG_BOOT_STEP = 5 → s.on IMG_BOOT_STOP = false →
      if s.bond.capsTries < 8 then t.bond.capsTries = s.bond.capsTries + 1 ∧ t.bond.xBT = s.bond.xBT ++ [.msg 3 (msgCapsSet s.caps)] ∧ t.word = s.word
      else t.hold = true ∧ t.rd IMG_BOOT_STOP = 1 ∧ t.rd IMG_BOOT_STOPC = 5 ∧ t.boot.fcode = 3) ∧
    (∀ m : XMsg, s.Answers (.capsAck m) (fun t => s.bond.capsTries ≠ 0 → s.rd IMG_BOOT_STEP = 5 → s.on IMG_BOOT_STOP = false →
      (m.data.headD 0).toNat = s.caps → t.portsUp = true ∧ t.rd IMG_BOOT_STEP = 7))

/-- R53, R117, R118, R119, R419: with Kalvon-T out of reset, MSI raises or lowers one source; TIME sets the angle follower; TRIG is held for
its KCNT, in place of one of the same KCNT, or queued as late; TRIG_RELEASE, after a change of the operating point that is due (R41), puts the trigger that is due, else the first late one of an earlier KCLK with LATE = 1,
on the launch port while the port is ready, one in a KCLK; PERMIT with NOW = 1
applies at once and otherwise waits for its KCNT, and PERMIT_RELEASE applies what is due; OPP waits and OPP_RELEASE applies it;
THERM carries four readings; DBG_RD of a tag is answered, and DBG_RSP is kept. -/
def Obligations.LaunchAndPaceItems : Prop :=
  ∀ (s : State), s.tReset = false →
    (∀ m : XMsg, s.Answers (.msi m) (fun t => t = { s with bond := t.bond, pins := t.pins } ∧
      (∀ i, bitAt t.pins.irq i = if i = xf m 19 8 then xf m 20 20 == 1 else bitAt s.pins.irq i) ∧ t.pins = { s.pins with irq := t.pins.irq })) ∧
    (∀ m : XMsg, s.Answers (.time m) (fun t => t = { s with bond := t.bond, xing := t.xing } ∧
      t.xing = { s.xing with folCycle := xf m 63 16, folAngle := xf m 79 64, folKcnt := xf m 111 80, folStale := xf m 112 112 == 1 })) ∧
    (∀ m : XMsg, s.Answers (.trig m) (fun t => t = { s with regs := t.regs, bond := t.bond, xing := t.xing } ∧ s.OnlyWords t [KT_LNP_PEND_CNT.key] ∧
      t.rd KT_LNP_PEND_CNT = (t.xing.trigs.length + t.xing.late.length) % 2 ^ 9 ∧
      t.xing = if isLate (xf m 47 16) s.tclk then { s.xing with late := s.xing.late ++ [(s.tclk, xf m 127 64)] }
        else { s.xing with trigs := s.xing.trigs.filter (fun (e : HeldTrig) => e.kcnt != xf m 47 16) ++ [{ kcnt := xf m 47 16, word := xf m 127 64 }] })) ∧
    (let u := (s.onB State.firstOpp).releaseOpp;
      u.tReset = false → s.Answers .trigRelease (fun t =>
        (u.xing.lastTrig = some u.tclk → t.xing = u.xing ∧ t.pins = u.pins) ∧
        (u.xing.lastTrig ≠ some u.tclk →
          (∀ e rest, u.xing.trigs = e :: rest → e.kcnt = u.tclk % 2 ^ 32 → t.xing = { u.xing with trigs := rest, lastTrig := some u.tclk } ∧
            t.pins = if u.portsReady then { u.pins with lchValid := true, lchTrig := e.word } else u.pins) ∧
          (∀ a w rest, (u.xing.trigs.any fun e => e.kcnt == u.tclk % 2 ^ 32) = false → u.xing.late = (a, w) :: rest → a < u.tclk →
            t.xing = { u.xing with late := rest, lastTrig := some u.tclk } ∧
            t.pins = if u.portsReady then { u.pins with lchValid := true, lchTrig := setBits w 62 1 1 } else u.pins)))) ∧
    (∀ m : XMsg, s.Answers (.permit m) (fun t => (xf m 64 64 = 1 → ∀ j, j < 4 → t.rd (KT_LNP_PERMIT j) = bits (m.data.headD 0).toNat (32 * j) 32) ∧
      (xf m 64 64 ≠ 1 → t.word = s.word ∧ t.xing.permits = s.xing.permits.filter (fun e => e.1 != s.duePac (xf m 47 16)) ++ [(s.duePac (xf m 47 16), (m.data.headD 0).toNat)]))) ∧
    s.Answers .permitRelease (fun t => ∀ e rest, s.xing.permits = e :: rest → e.1 = s.tclk % 2 ^ 32 →
      t.xing = { s.xing with permits := rest } ∧ ∀ j, j < 4 → t.rd (KT_LNP_PERMIT j) = bits e.2 (32 * j) 32) ∧
    (∀ m : XMsg, s.Answers (.opp m) (fun t => t = { s with bond := t.bond, xing := t.xing } ∧
      t.xing = { s.xing with opps := s.xing.opps.filter (fun e => e.1 != s.duePac (xf m 47 16)) ++ [(s.duePac (xf m 47 16), xf m 67 64)] })) ∧
    s.Answers .oppRelease (fun t => ∀ e rest, s.xing.opps = e :: rest → e.1 = s.tclk % 2 ^ 32 →
      t.xing = { s.xing with opps := rest } ∧ t.rd KT_LNP_OPP_OPP = e.2 % 16 ∧
      t.pins = if s.portsReady && e.2 % 16 != s.oppPin then { s.pins with pacOppChg := true } else s.pins) ∧
    (∀ readings : List Int, s.Answers (.thermSendTimer readings) (fun t => t = { s with bond := t.bond } ∧
      t.bond.xTB = s.bond.xTB ++ [.msg 3 (mkMsg ([(0, 8, 0x54), (16, 32, s.tclk)] ++ (List.range 4).map fun i => (48 + 12 * i, 12, unsgn 12 (readings.getD i 0))))])) ∧
    (∀ m : XMsg, s.Answers (.dbgRd m) (fun t => (∃ v, t.bond.xTB = s.bond.xTB ++ [.msg 3 { hdr := putHdr m.hdr 0 8 0x59, data := [v] }]) ∧
      (xf m 9 8 = 0 → t.bond.xTB = s.bond.xTB ++ [.msg 3 { hdr := putHdr m.hdr 0 8 0x59, data := [BitVec.ofNat 128 (s.line (16 * xf m 26 16 + xf m 31 28)).tag] }]))) ∧
    (s.bReset = false → ∀ m : XMsg, s.Answers (.dbgRsp m) (fun t => t = { s with bond := t.bond, xing := { s.xing with dbg := some m } }))

/-- The client port takes a request of this bank: it is ready, the OP code is none that is reserved, no transaction is under way in the remote line cache, and the line belongs to
the bank. -/
def ClientMay (s : State) (bank : Nat) (q : ClientReq) : Prop :=
  s.tReset = false ∧ s.portsReady = true ∧ bank < 32 ∧ q.op < 10 ∧ q.laddr % 32 = bank ∧ s.xing.reqs = [] ∧ s.xing.snoops = []

/-- R123, R124, R127, R129, R136: with no transaction under way and the capability negotiated, a read, unique read or upgrade of a line that the
cache does not hold asks for it in the way chosen, which is free; a read without caching, a line write, a partial write and an atomic go across
on class M; a flush of such a line completes at once. WB of a line held makes it modified with the client's data; EVICT takes the client's
copy off it. A capability not negotiated, a line of another bank, or a reserved OP is answered with an error. -/
def Obligations.ClientRequests : Prop :=
  ∀ (s : State) (bank : Nat) (q : ClientReq), ClientMay s bank q →
    (∀ k, s.findLine q.laddr = none → bitAt (s.rd KT_XPR_CAPS) 0 = true → s.rd KT_XPR_CTL_RLC_EN ≠ 0 → s.pickWay (setOf q.laddr) = some k → (s.line k).st = 0 →
      s.Answers (.clientRdShared bank q) (fun t => t.bond.xTB = s.bond.xTB ++ [.msg 1 (mkReq 0x20 0 (k % 16) q.laddr q.part 0 [])] ∧
        t.xing.reqs = [{ bank := bank, req := { q with op := 0 }, phase := .grant, xid := 0, way := k }] ∧ t.xing.rs = s.xing.rs) ∧
      s.Answers (.clientRdUnique bank q) (fun t => t.bond.xTB = s.bond.xTB ++ [.msg 1 (mkReq 0x21 0 (k % 16) q.laddr q.part 0 [])] ∧
        t.xing.reqs = [{ bank := bank, req := { q with op := 1 }, phase := .grant, xid := 0, way := k }] ∧ t.xing.rs = s.xing.rs) ∧
      s.Answers (.clientUpgrade bank q) (fun t => t.bond.xTB = s.bond.xTB ++ [.msg 1 (mkReq 0x21 0 (k % 16) q.laddr q.part 0 [])] ∧
        t.xing.reqs = [{ bank := bank, req := { q with op := 2 }, phase := .grant, xid := 0, way := k }] ∧ t.xing.rs = s.xing.rs)) ∧
    (s.findLine q.laddr = none →
      s.Answers (.clientRdNc bank q) (fun t => t = { s with bond := t.bond, xing := t.xing } ∧ t.bond.xTB = s.bond.xTB ++ [.msg 0 (mkReq 0x10 0 0 q.laddr q.part 0 [])] ∧
        t.xing.reqs = [{ bank := bank, req := { q with op := 3 }, phase := .memory, xid := 0, way := 0 }]) ∧
      s.Answers (.clientWrLine bank q) (fun t => t = { s with bond := t.bond, xing := t.xing } ∧ t.bond.xTB = s.bond.xTB ++ [.msg 0 (mkReq 0x11 0 0 q.laddr q.part 0 (lineUnits q.data))] ∧
        t.xing.reqs = [{ bank := bank, req := { q with op := 4 }, phase := .memory, xid := 0, way := 0 }]) ∧
      s.Answers (.clientWrPart bank q) (fun t => t = { s with bond := t.bond, xing := t.xing } ∧ t.bond.xTB = s.bond.xTB ++ [.msg 0 (mkReq 0x12 0 0 q.laddr q.part q.arg (lineUnits q.data))] ∧
        t.xing.reqs = [{ bank := bank, req := { q with op := 5 }, phase := .memory, xid := 0, way := 0 }]) ∧
      s.Answers (.clientFlush bank q) (fun t => t = { s with xing := t.xing } ∧
        t.xing = { s.xing with rs := s.xing.rs ++ [(bank, { rsp := 3, cid := q.cid, cause := 0, data := 0 })] })) ∧
    (s.findLine q.laddr = none → bitAt (s.rd KT_XPR_CAPS) 2 = true →
      s.Answers (.clientAtomic bank q) (fun t => t = { s with bond := t.bond, xing := t.xing } ∧ t.bond.xTB = s.bond.xTB ++ [.msg 0 (mkReq 0x13 0 0 q.laddr q.part q.arg [q.data.extractLsb' 0 128])] ∧
        t.xing.reqs = [{ bank := bank, req := { q with op := 6 }, phase := .memory, xid := 0, way := 0 }])) ∧
    (∀ k, s.findLine q.laddr = some k → bitAt (s.rd KT_XPR_CAPS) 0 = true →
      s.Answers (.clientWb bank q) (fun t => t.line k = { s.line k with st := 3, cp := false, cx := false, data := q.data } ∧ (∀ j, j ≠ k → t.line j = s.line j) ∧ t.bond = s.bond) ∧
      s.Answers (.clientEvict bank q) (fun t => t.line k = { s.line k with cp := false, cx := false } ∧ (∀ j, j ≠ k → t.line j = s.line j) ∧ t.bond = s.bond)) ∧
    (bitAt (s.rd KT_XPR_CAPS) 2 = false → s.Answers (.clientAtomic bank q) (fun t =>
      t.xing = { s.xing with rs := s.xing.rs ++ [(bank, { rsp := 5, cid := q.cid, cause := 6, data := 0 })] })) ∧
    (∀ b, b < 32 → b ≠ bank → s.Answers (.clientWrLine b q) (fun t =>
      t.xing = { s.xing with rs := s.xing.rs ++ [(b, { rsp := 5, cid := q.cid, cause := 7, data := 0 })] })) ∧
    (∀ o, 10 ≤ o → s.Answers (.clientWrLine bank { q with op := o }) (fun t =>
      t.xing = { s.xing with rs := s.xing.rs ++ [(bank, { rsp := 5, cid := q.cid, cause := 7, data := 0 })] }))

/-- R124, R129, R131, R133: with one request outstanding, its answer ends it: a grant puts the line into its way in S, or in E with the client's exclusive
copy, and answers the client; GNT_ERR and RSP_ERR answer ERR with the cause; WB_ACK frees the way; RSP_DATA, RSP_ACK and RSP_ATOM answer on rs.
A snoop of a line that the cache does not hold is answered without data; one that invalidates a line without client copy removes it and returns
the data of a modified one; the client's answer to an invalidating snoop removes the line and goes across. -/
def Obligations.AnswersInKalvonT : Prop :=
  ∀ (s : State), s.tReset = false → s.xing.snpWait = [] →
    (∀ (m : XMsg) (r : TReq), s.xing.reqs = [r] → r.bank = xf m 12 8 → r.xid = xf m 25 16 →
      (r.phase = .grant → r.req.op = 0 → msgTy m = 0x28 → s.Answers (.gntS m) (fun t => t.xing.reqs = [] ∧
        t.line r.way = { tag := tagOf r.req.laddr, st := 1, cp := true, cx := false, data := unitsLine m.data } ∧
        t.xing.rs = s.xing.rs ++ [(r.bank, { rsp := 0, cid := r.req.cid, cause := 0, data := unitsLine m.data })])) ∧
      (r.phase = .grant → msgTy m = 0x29 → s.Answers (.gntE m) (fun t => t.xing.reqs = [] ∧
        t.line r.way = { tag := tagOf r.req.laddr, st := 2, cp := true, cx := true, data := unitsLine m.data } ∧
        t.xing.rs = s.xing.rs ++ [(r.bank, { rsp := 1, cid := r.req.cid, cause := 0, data := unitsLine m.data })])) ∧
      (r.phase = .grant → r.req.op = 2 → msgTy m = 0x2A → s.Answers (.gntUpg m) (fun t => t.xing.reqs = [] ∧
        t.line r.way = { s.line r.way with st := 2, cp := true, cx := true } ∧
        t.xing.rs = s.xing.rs ++ [(r.bank, { rsp := 3, cid := r.req.cid, cause := 0, data := 0 })])) ∧
      (r.phase = .grant → s.Answers (.gntErr m) (fun t => t.xing.reqs = [] ∧ t.xing.cache = s.xing.cache ∧
        t.xing.rs = s.xing.rs ++ [(r.bank, { rsp := 5, cid := r.req.cid, cause := xf m 93 86, data := 0 })])) ∧
      (r.phase = .removal → s.Answers (.wbAck m) (fun t => t.xing.reqs = [] ∧ t.line r.way = CacheLine.empty ∧ (∀ k, k ≠ r.way → t.line k = s.line k) ∧ t.xing.rs = s.xing.rs)) ∧
      (r.phase = .memory → msgTy m = 0x18 → s.Answers (.rspData m) (fun t => t.xing.reqs = [] ∧
        t.xing.rs = s.xing.rs ++ [(r.bank, { rsp := 2, cid := r.req.cid, cause := 0, data := unitsLine m.data })])) ∧
      (r.phase = .memory → msgTy m = 0x19 → s.Answers (.rspAck m) (fun t => t.xing.reqs = [] ∧
        t.xing.rs = s.xing.rs ++ [(r.bank, { rsp := 3, cid := r.req.cid, cause := 0, data := 0 })])) ∧
      (r.phase = .memory → msgTy m = 0x1A → s.Answers (.rspAtom m) (fun t => t.xing.reqs = [] ∧
        t.xing.rs = s.xing.rs ++ [(r.bank, { rsp := 4, cid := r.req.cid, cause := 0, data := BitVec.ofNat 512 ((m.data.headD 0).toNat % 2 ^ 64) })])) ∧
      (r.phase = .memory → msgTy m = 0x1B → s.Answers (.rspErr m) (fun t => t.xing.reqs = [] ∧
        t.xing.rs = s.xing.rs ++ [(r.bank, { rsp := 5, cid := r.req.cid, cause := xf m 93 86, data := 0 })]))) ∧
    (∀ m : XMsg, s.xing.reqs = [] → s.xing.snoops = [] →
      (msgTy m = 0x30 → s.Answers (.snpInv m) (fun t =>
        (s.findLine (msgLaddr m) = none → t.xing = s.xing ∧ t.bond.xTB = s.bond.xTB ++ [.msg 1 { hdr := BitVec.ofNat 128 (pack [(0, 8, 0x38), (8, 5, msgLaddr m % 32), (16, 10, xf m 25 16)]), data := [] }]) ∧
        (∀ k, s.findLine (msgLaddr m) = some k → (s.line k).cp = false → t.line k = CacheLine.empty ∧ (∀ j, j ≠ k → t.line j = s.line j) ∧
          t.bond.xTB = s.bond.xTB ++ [.msg 1 (if (s.line k).st = 3
            then { hdr := BitVec.ofNat 128 (pack [(0, 8, 0x39), (8, 5, msgLaddr m % 32), (16, 10, xf m 25 16)]), data := lineUnits (s.line k).data }
            else { hdr := BitVec.ofNat 128 (pack [(0, 8, 0x38), (8, 5, msgLaddr m % 32), (16, 10, xf m 25 16)]), data := [] })]))) ∧
      (msgTy m = 0x31 → s.Answers (.snpShr m) (fun t => ∀ k, s.findLine (msgLaddr m) = some k → (s.line k).st ≠ 1 → (s.line k).cx = false →
        t.line k = { s.line k with st := 1 } ∧ (∀ j, j ≠ k → t.line j = s.line j)))) ∧
    (∀ (bank sid : Nat) (la xid : Nat) (data : Line), s.portsReady = true → s.xing.reqs = [] → sid < 16 → s.xing.snoops = [{ bank := bank, sid := sid, laddr := la, inv := true, why := .home xid true }] →
      s.Answers (.clientSnoopRsp bank sid 2 data) (fun t => ∀ k, s.findLine la = some k → t.xing.snoops = [] ∧ t.line k = CacheLine.empty ∧
        t.bond.xTB = s.bond.xTB ++ [.msg 1 { hdr := BitVec.ofNat 128 (pack [(0, 8, 0x39), (8, 5, bank), (16, 10, xid)]), data := lineUnits data }]))

/-- A line whose home is the base die, in a window of a caching kind, with a free request number on its memory pair. -/
def HomeIsBase (s : State) (la cache rid : Nat) : Prop :=
  s.bReset = false ∧ (∃ n, s.homeWindow la = some n ∧ s.on (BND_HMAP_TGT_REMOTE n) = false ∧ s.rd (BND_HMAP_TGT_CACHE n) = cache) ∧ s.freeRid (memPair la) = some rid

/-- The request as it stands at the base die's home, and as it leaves on the memory pair (R126). -/
def atBase (la rid : Nat) (who : Asker) (m : XMsg) : HomeReq := { remote := none, pair := memPair la, rid := rid, tries := 0, who := who, m := m }
def onPair (la rid : Nat) (m : XMsg) : MemMsg := { pair := memPair la, m := { m with hdr := putHdr (putHdr m.hdr 16 16 0) 16 12 rid } }

/-- R125, R126, R128, R130 to R133: a request of Kalvon-T whose home is the base die goes out on its memory pair under a free number, and a request for
a grant makes its line busy; without a home window it is refused with cause 1. The home's answer to a class-M request goes across. A home snoop of
a line that Kalvon-T does not hold is answered at once; Kalvon-T's answer to a snoop goes to the home with the directory entry updated. WB and
EVICT empty the directory entry that they name. -/
def Obligations.HomesInKalvonB : Prop :=
  ∀ (s : State) (m : XMsg) (rid : Nat),
    (∀ cache, HomeIsBase s (msgLaddr m) cache rid →
      let who : Asker := .client (xf m 25 16) (xf m 31 28)
      let P : State → Prop := fun t => t = { s with bond := t.bond, xing := t.xing } ∧ t.xing.homes = s.xing.homes ++ [atBase (msgLaddr m) rid who m] ∧
        t.xing.memOut = s.xing.memOut ++ [onPair (msgLaddr m) rid m] ∧ t.xing.busy = s.xing.busy
      (msgTy m = 0x10 → s.Answers (.rdNc m) P) ∧ (msgTy m = 0x11 → s.Answers (.wrLine m) P) ∧ (msgTy m = 0x12 → s.Answers (.wrPart m) P) ∧
      (msgTy m = 0x13 → s.Answers (.atomic m) P)) ∧
    (HomeIsBase s (msgLaddr m) 1 rid →
      let who : Asker := .client (xf m 25 16) (xf m 31 28)
      let P : State → Prop := fun t => t = { s with bond := t.bond, xing := t.xing } ∧ t.xing.homes = s.xing.homes ++ [atBase (msgLaddr m) rid who m] ∧
        t.xing.memOut = s.xing.memOut ++ [onPair (msgLaddr m) rid m] ∧ msgLaddr m ∈ t.xing.busy
      (msgTy m = 0x20 → s.Answers (.rdS m) P) ∧ (msgTy m = 0x21 → s.Answers (.rdU m) P) ∧ (msgTy m = 0x22 → s.Answers (.upgrade m) P) ∧
      (s.acrossOf (msgLaddr m) = none →
        let Q : State → Prop := fun t => t.dirEntry (16 * setOf (msgLaddr m) + xf m 31 28) = DirEntry.empty ∧ t.xing.memOut = s.xing.memOut ++ [onPair (msgLaddr m) rid m]
        (msgTy m = 0x23 → s.Answers (.wb m) Q) ∧ (msgTy m = 0x24 → s.Answers (.evict m) Q))) ∧
    (s.bReset = false → s.homeWindow (msgLaddr m) = none → msgTy m = 0x10 → s.Answers (.rdNc m) (fun t =>
      t.bond.xBT = s.bond.xBT ++ [.msg 0 (mkAns 0x1B (msgLaddr m % 32) (xf m 25 16) 1 [])])) ∧
    (s.bReset = false → s.xing.reqWait = [] → ∀ (pair xid way : Nat) (q : XMsg), s.xing.homes = [⟨none, pair, xf m 27 16, 0, .client xid way, q⟩] →
      msgTy q < 0x20 → msgTy m ≠ 0x1B → msgTy m ≠ 0x2C → s.Answers (.homeResponse pair m) (fun t => t.xing = { s.xing with homes := [] } ∧
        t.bond.xBT = s.bond.xBT ++ [.msg 0 (mkAns (msgTy m) (msgLaddr q % 32) xid 0 m.data)])) ∧
    (s.bReset = false → ∀ pair, pair < 16 → s.xing.busy = [] → s.xing.acrossB = [] → s.dirFind (msgLaddr m) = none →
      let P : State → Prop := fun t => t = { s with xing := t.xing } ∧ t.xing = { s.xing with memOut := t.xing.memOut } ∧ t.xing.memOut.length = s.xing.memOut.length + 1
      s.Answers (.homeSnpShr pair m) P ∧ s.Answers (.homeSnpInv pair m) P) ∧
    (s.bReset = false → s.xing.homeWait = [] → s.on BND_DIR_CTL_RFLUSH = false → ∀ b : BSnoop, s.xing.acrossB = [b] → b.laddr % 32 = xf m 12 8 → b.xid = xf m 25 16 →
      b.overtaken = none → b.inv = true → b.home.isSome = true →
      let P : State → Prop := fun t => t.xing.acrossB = [] ∧ t.dirEntry b.entry = DirEntry.empty ∧ t.xing.memOut.length = s.xing.memOut.length + 1
      (msgTy m = 0x38 → s.Answers (.srsp m) P) ∧ (msgTy m = 0x39 → s.Answers (.srspData m) P))

/-- R52, R120, R121: a well-formed tile on an ingress channel whose sender holds no credit waits; with a credit it leaves at once as the frames of
its stream bytes, and the credit is spent; an error sets TSIERR and discards up to the next beat with sop = 1, and such a beat inside a tile ends that one in error and starts the next. A stream frame that returns one credit gives it back; a frame that holds the whole
next tile of its channel presents it to the tile source. -/
def Obligations.TileStreams : Prop :=
  ∀ (s : State) (ch : Nat), ch < 8 →
    (∀ (hdr : Unit128) (beats : List TsiBeat), s.tReset = false → s.portsReady = true → bitAt (s.rd KT_XPR_CAPS) 3 = true → (s.ch (chKey false ch)).queue = [] →
      let now := fun x : State => Sparse.get (fun _ => TsiCh.idle) x.xing.tsi ch
      let err := fun x : State => bitAt (x.word EV_KT_CTL_TSIERR.key).toNat EV_KT_CTL_TSIERR.bit = true
      let len := bits hdr.toNat 44 13
      (now s = .idle → s.Answers (.tsiTile ch hdr beats) (fun t =>
        let tile : Tile := { hdr := hdr, data := (beats.flatMap fun b => (bytesOf 512 b.data.toNat).map (BitVec.ofNat 8)).take (bits hdr.toNat 44 13) }
        let n := ((tileBytes tile).length + 119) / 120
        (tileBeatsOk hdr beats = true → (s.ch (chKey false ch)).credits = 0 → now t = .idle ∧ t.bond = s.bond ∧ (t.ch (chKey false ch)).queue = [tile]) ∧
        (tileBeatsOk hdr beats = true → (s.ch (chKey false ch)).credits ≠ 0 → t.ch (chKey false ch) = { s.ch (chKey false ch) with credits := (s.ch (chKey false ch)).credits - 1, txSeq := ((s.ch (chKey false ch)).txSeq + 1) % 256 } ∧
          t.bond.xTB = s.bond.xTB ++ (List.range n).map fun i => .stream (BitVec.ofNat 1024 (streamFrame ch (s.ch (chKey false ch)).txSeq (tileBytes tile) n i))) ∧
        (beats = [] → t = s))) ∧
      ∀ b : TsiBeat,
        (b.sop = true → len = 0 ∨ 4096 < len ∨ (b.eop = true ∧ 512 < len) → s.Answers (.tsiTile ch hdr [b]) (fun t =>
          now t = .discard ∧ err t ∧ t.xing = { s.xing with tsi := t.xing.tsi })) ∧
        (b.sop = false → now s = .idle → s.Answers (.tsiTile ch hdr [b]) (fun t => now t = .discard ∧ err t ∧ t.xing = { s.xing with tsi := t.xing.tsi })) ∧
        (b.sop = false → now s = .discard → s.Answers (.tsiTile ch hdr [b]) (fun t => t = s)) ∧
        (∀ h ds, b.sop = true → now s = .tile h ds → 1 ≤ len → len ≤ 4096 → b.eop = false → s.Answers (.tsiTile ch hdr [b]) (fun t =>
          now t = .tile hdr [b.data] ∧ err t ∧ t.xing = { s.xing with tsi := t.xing.tsi }))) ∧
    (∀ p : BitVec 1024, s.bReset = false → bits p.toNat 24 7 = 0 → bits p.toNat 32 8 = 2 ^ ch → (s.ch (chKey true ch)).queue = [] →
      s.Answers (.streamFrame true p) (fun t => t.ch (chKey true ch) = { s.ch (chKey true ch) with credits := (s.ch (chKey true ch)).credits + 1 })) ∧
    (∀ (p : BitVec 1024) (tile : Tile), s.bReset = false → bits p.toNat 32 8 = 0 → bits p.toNat 0 3 = ch → bits p.toNat 3 2 = 3 → bits p.toNat 5 6 = 0 →
      0 < bits p.toNat 24 7 → bits p.toNat 24 7 ≤ 120 → (s.ch (chKey false ch)).rxSeq = bits p.toNat 16 8 → (s.ch (chKey false ch)).asm = [] →
      spellTile ((bytesOf (bits p.toNat 24 7) (p.toNat >>> 64)).map (BitVec.ofNat 8)) = some tile →
      s.Answers (.streamFrame true p) (fun t => t.xing.fromT = s.xing.fromT ++ [(ch, tile)] ∧
        (t.ch (chKey false ch)).rxSeq = ((s.ch (chKey false ch)).rxSeq + 1) % 256 ∧ (t.ch (chKey false ch)).asm = []))

/-! ## Lanes and links (chapters 05 and 06) -/

/-- The timers of a link that only mark what is due: HEALTH_WAIT_END, INCOMPAT_RETRY_TIMER, OE_POLL_TIMER,
ACK_KEEPALIVE_TIMER, CREDIT_RETURN_TIMER and GEARBOX_FLIT_START change their link's state and nothing else: no register, no
other link, no other part of the block. -/
def Obligations.LinkTimersMark : Prop :=
  ∀ (s : State) (n : Nat), s.HasLink n →
    s.Answers (.healthWaitEnd n) (fun t => s.OnlyLink t n ∧ t.lk n = if s.lst n = 1 ∧ (s.lk n).first = true
      then { s.lk n with first := false, oeBlind := false, oeReq := some (s.rd (LNK_OE_ADDR_PRTAD n), s.rd (LNK_OE_ADDR_DEVAD n), 0x9000) } else s.lk n) ∧
    s.Answers (.incompatRetryTimer n) (fun t => s.OnlyLink t n ∧
      t.lk n = if s.lst n = 7 then { s.lk n with gotSeen := false, sentSeen := false, gotNbr := false, flits := 0 } else s.lk n) ∧
    s.Answers (.oePollTimer n) (fun t => s.OnlyLink t n ∧ t.lk n = if s.lup n = true ∧ (s.lk n).oeReq = none
      then { s.lk n with oeBlind := false, oeReq := some (s.rd (LNK_OE_ADDR_PRTAD n), s.rd (LNK_OE_ADDR_DEVAD n), 0x9000) } else s.lk n) ∧
    s.Answers (.ackKeepaliveTimer n) (fun t => s.OnlyLink t n ∧ t.lk n = if s.lup n then { s.lk n with ackDue := true } else s.lk n) ∧
    s.Answers (.creditReturnTimer n) (fun t => s.OnlyLink t n ∧
      t.lk n = if (s.lk n).owed.any (0 < ·) then { s.lk n with fillerDue := true } else s.lk n) ∧
    (let p := (s.lk n).sent + if (s.lk n).code = [] then 0 else flitPam4 (widthOf (s.rd (LNK_STATUS_TXW n)));
      s.Answers (.gearboxFlitStart n) (fun t =>
        ((s.lk n).txOn = false → t.lk n = s.lk n) ∧
        (∀ f fs, (s.lk n).txOn = true → (s.lk n).gear = f :: fs → t.lk n = { s.lk n with gear := fs, air := f, sent := p, code := rsEncode (flitSymbols f) }) ∧
        ((s.lk n).txOn = true → (s.lk n).gear = [] → (s.lk n).retrainWait = false → t.lk n = { s.lk n with air := idleFlit, sent := p, code := rsEncode (flitSymbols idleFlit) }) ∧
        ((s.lk n).txOn = true → (s.lk n).gear = [] → (s.lk n).retrainWait = true → 5 ≤ s.lst n → s.lst n ≤ 7 → t.lst n = 3 ∧ (t.lk n).retrain = true)))

/-- R154, R181, R189: a state timeout of training fails the attempt and the link pauses in WAIT (state 8), with cause 1 in DETECT, 2 in LOCK
and 4 in EXCHANGE; an LSTATE handshake that does not complete fails it with cause 4; the age limit declares the link
down with cause 1. A failed attempt declares a link with a session down (DSTATE 2, grace) or leaves DSTATE at 3 or 2. -/
def Obligations.LinkFailuresGoToWait : Prop :=
  ∀ (s : State) (n : Nat), s.HasLink n →
    s.Answers (.linkStateTimeout n) (fun t =>
      (1 ≤ s.lst n ∧ s.lst n ≤ 4 → t.lst n = 8 ∧ (t.lk n).fails = (s.lk n).fails + 1) ∧
      (s.lst n = 2 → t.rd (LNK_STATUS_CAUSE n) = 1) ∧ (s.lst n = 3 → t.rd (LNK_STATUS_CAUSE n) = 2) ∧
      (s.lst n = 4 → t.rd (LNK_STATUS_CAUSE n) = 4)) ∧
    s.Answers (.lstateHandshakeTimeout n) (fun t =>
      s.lup n = true ∧ (s.lk n).hsDone = false → t.lst n = 8 ∧ t.rd (LNK_STATUS_CAUSE n) = 4) ∧
    s.Answers (.ageLimitExpiry n) (fun t =>
      s.rd (LNK_RSTAT_DSTATE n) < 2 ∧ (s.lk n).ackAbs < (s.lk n).txAbs →
        t.lst n = 8 ∧ t.rd (LNK_RSTAT_DSTATE n) = 2 ∧ t.rd (LNK_RSTAT_DCAUSE n) = 1 ∧ (t.lk n).run = [])

/-- R148 to R156: with the build's link n and Kalvon-B out of reset, WAIT ends in HEALTH for a used link and in DOWN for another; a lane that locks
in DETECT begins LOCK; a lane that falls in LOCK or before leaves the locked lanes; a training block counts sync patterns; a PRBS window that ends sets the
lane's result; the countdown's end enters EXCHANGE at the width heard; a reading of the engine's temperature within its limit is stored and counts
for the sweep; a lane repair that lasts too long starts a retrain. -/
def Obligations.LinkTrains : Prop :=
  ∀ (s : State) (n : Nat), s.HasLink n →
    s.Answers (.waitExpiry n) (fun t => if s.lst n = 8 then (if s.on (LNK_EXP_USED n) then t.lst n = 1 else t.lst n = 0 ∧ (t.lk n).txen = 0) else t = s) ∧
    (∀ q, q < 5 → s.Answers (.laneRxlockRise n q) (fun t => (t.lk n).rxlock = (s.lk n).rxlock ||| 2 ^ q ∧ t.lst n = if s.lst n = 2 then 3 else s.lst n) ∧
      s.Answers (.laneRxlockFall n q) (fun t => bitAt (s.lk n).rxlock q = true → s.lst n < 4 → (s.lk n).lanes.length = 5 →
        (t.lk n).rxlock = (s.lk n).rxlock - 2 ^ q ∧ ((t.lk n).lanes.getD q LaneRx.reset).locked = false ∧ t.lst n = s.lst n) ∧
      (∀ (bytes : List Nat) (skewed : Bool), s.Answers (.trainingBlock n q bytes skewed) (fun t =>
        s.lst n = 3 → (s.lk n).rxOn = false → bitAt (s.lk n).rxlock q = true → bitAt (s.rd (LNK_LANES_RETIRED n) ||| s.rd (LNK_LANES_OEBAD n)) q = false → bytes.length = 85 → (s.lk n).lanes.length = 5 →
          ((t.lk n).lanes.getD q LaneRx.reset).syncs = (((s.lk n).lanes.getD q LaneRx.reset).block bytes).syncs ∧
          ((t.lk n).lanes.getD q LaneRx.reset).locked = (((s.lk n).lanes.getD q LaneRx.reset).block bytes).locked)) ∧
      s.Answers (.prbsWindowEnd n q) (fun t => s.lst n = 3 → (s.lk n).retrain = false → (s.lk n).lanes.length = 5 →
        ((s.lk n).lanes.getD q LaneRx.reset).locked = true → ((s.lk n).lanes.getD q LaneRx.reset).done = false →
          ((t.lk n).lanes.getD q LaneRx.reset).done = true ∧
          ((t.lk n).lanes.getD q LaneRx.reset).pass = (((s.lk n).lanes.getD q LaneRx.reset).heard && decide (s.rd (LNK_PRBS_ERR n q) ≤ s.rd (LNK_CTL_PRBSMAX n)) && s.laneOk n q))) ∧
    s.Answers (.flitStart n true) (fun t => s.lst n = 3 → (s.lk n).switching = true → (s.lk n).txOn = false →
      (t.lk n).txOn = true ∧ (t.lk n).sent = 0 ∧ (t.lk n).code = [] ∧ 1 ≤ t.rd (LNK_LAT_TXD n) ∧ t.rd (LNK_LAT_TXD n) ≤ 2 ∧ t.lst n = if (s.lk n).rxOn then 4 else 3) ∧
    s.Answers (.flitStart n false) (fun t => s.lst n = 3 → (s.lk n).peerSw = true → (s.lk n).rxOn = false → widthOf (s.lk n).peerTxw ≠ 0 →
      t.rd (LNK_STATUS_RXW n) = codeOf (widthOf (s.lk n).peerTxw) ∧ t.rd (LNK_MAP_RXMAP n) = packMap ((s.heardMap n).take (widthOf (s.lk n).peerTxw)) % 2 ^ 12 ∧
      (t.lk n).rxOn = true ∧ t.lst n = if (s.lk n).txOn then 4 else 3) ∧
    (∀ v, s.Answers (.oeReadDone n 0x9000 v) (fun t => s.lup n = true → (s.lk n).oeReq.map (·.2.2) = some 0x9000 → v < 0xFFFF → s.oeOut n 0x9000 v = false →
      t.rd (LNK_OE_TEMP_TEMP n) = v ∧ (t.lk n).oeReq = some (s.rd (LNK_OE_ADDR_PRTAD n), s.rd (LNK_OE_ADDR_DEVAD n), 0x9010))) ∧
    s.Answers (.laneRepairTimeout n) (fun t => ((s.lk n).repair = false → t.lk n = s.lk n ∧ t.lst n = s.lst n) ∧
      ((s.lk n).repair = true → 5 ≤ s.lst n → s.lst n ≤ 7 → t.lst n = s.lst n ∧ (t.lk n).repair = false ∧
        ((s.lk n).retrainTx = 0 → (s.lk n).retrainWait = false → (t.lk n).retrainTx = 3) ∧ (s.rd (LNK_RSTAT_DSTATE n) = 0 → t.rd (LNK_RSTAT_DSTATE n) = 1)))

/-- R153, R157 to R165: a mirror that cannot be verified narrows the link; the millisecond's end clears its counts; at its point a width switch takes the new width and
map; a receiver that may widen asks for it; RETRAIN begins LOCK; MIRROR makes a copy; WREQ with READY starts a switch, without it JOIN, and with no lane a retrain; WIDTH_SW
and JOIN are taken; NBR in ACTIVE updates the partner, and in EXCHANGE without a common version leads to INCOMPAT with cause 6. -/
def Obligations.LinkSparesAndWidth : Prop :=
  ∀ (s : State) (n : Nat), s.HasLink n →
    s.Answers (.mirrorVerifyTimeout n) (fun t => ((s.lk n).faults = [] → t.lk n = s.lk n) ∧
      ((s.lk n).faults ≠ [] → (t.lk n).faults = [] ∧ (t.lk n).narrowing = true ∧
        let g := (s.goodLanes n).filter fun q => !((s.lk n).faults.any fun f => f.spare == q)
        (t.lk n).wreq = some (codeOf (fitWidth g.length (s.wmax n)), s.physMask n g, true))) ∧
    s.Answers (.mirrorChoiceTimer n) (fun t => (t.lk n).corr = [0, 0, 0, 0, 0] ∧ (t.lk n).mism = 0 ∧ (t.lk n).msFlits = 0 ∧ (t.lk n).msData = 0) ∧
    s.Answers (.widthSwitchPoint n true) (fun t => ∀ w, (s.lk n).txSw = some w → w.count = 0 →
      t.rd (LNK_STATUS_TXW n) = w.width % 4 ∧ t.rd (LNK_MAP_TXMAP n) = w.map % 2 ^ 12 ∧ (t.lk n).txSw = none ∧ (t.lk n).joinTx = 0) ∧
    s.Answers (.widthSwitchPoint n false) (fun t => ∀ w, (s.lk n).rxSw = some w → w.count = 0 →
      t.rd (LNK_STATUS_RXW n) = w.width % 4 ∧ (t.lk n).rxSw = none ∧ (t.lk n).wreq = none) ∧
    s.Answers (.widenTimer n) (fun t =>
      let want := (List.range 5).filter fun q => !(s.rxLanes n).contains q && !bitAt ((s.lk n).bad ||| s.rd (LNK_LANES_RETIRED n) ||| s.rd (LNK_LANES_OEBAD n)) q
      if s.lup n = true ∧ bitAt (s.rd (LNK_CAPS n)) 3 = true ∧ widthOf (s.rd (LNK_STATUS_RXW n)) < s.wmax n ∧ want ≠ [] ∧ (s.lk n).repair = false ∧ (s.lk n).rxSw = none
      then (t.lk n).wreq = some (codeOf (fitWidth ((s.rxLanes n).length + want.length) (s.wmax n)), s.physMask n want, false) ∧ t.word = s.word
      else t = s) ∧
    s.Answers (.retrain n) (fun t => 5 ≤ s.lst n → s.lst n ≤ 7 → t.lst n = 3 ∧ (t.lk n).retrain = true) ∧
    (∀ (log spare : Nat) (hold : Bool), s.Answers (.mirror n log spare hold) (fun t => 4 ≤ s.lst n → s.lst n ≤ 7 → spare < 5 → log < 4 →
      ((s.lk n).txMir.any fun e => e.1 == spare && e.2.2) = false → (t.lk n).txMir = ((s.lk n).txMir.filter fun e => e.1 != spare) ++ [(spare, log, hold)])) ∧
    (∀ w mask : Nat, s.Answers (.wreq n w mask true) (fun t => s.lup n = true →
      (lanesOf mask = [] → t.lst n = s.lst n ∧ ((s.lk n).retrainTx = 0 → (s.lk n).retrainWait = false → (t.lk n).retrainTx = 3)) ∧
      (lanesOf mask ≠ [] → (s.lk n).txSw = none → ∃ k, k = fitWidth (lanesOf mask).length (min (widthOf w) (s.wmax n)) ∧
        (t.lk n).txSw = some { width := codeOf k, map := packMap ((lanesOf mask).take k), count := 24 })) ∧
      s.Answers (.wreq n w mask false) (fun t => s.lup n = true → bitAt (s.rd (LNK_CAPS n)) 3 = true → lanesOf mask ≠ [] →
        (t.lk n).joinTx = maskOf (lanesOf mask) ∧ ((s.lk n).joinTx ≠ maskOf (lanesOf mask) → (t.lk n).txen = (s.lk n).txen ||| maskOf (lanesOf mask)))) ∧
    (∀ w map count : Nat, s.Answers (.widthSw n w map count) (fun t => s.lup n = true →
      (t.lk n).rxSw = some { width := w % 4, map := map, count := count - 1 } ∧ (t.lk n).wreq = none)) ∧
    (∀ mask : Nat, s.Answers (.linkJoin n mask) (fun t => s.lup n = true → (t.lk n).joinRx = maskOf ((lanesOf mask).map (s.rxOf n)) ∧ (t.lk n).wreq = (s.lk n).wreq)) ∧
    (∀ (quar : Bool) (link fna inc vendor part lo hi caps : Nat), s.Answers (.nbr n true quar link fna inc vendor part lo hi caps) (fun t =>
      (s.lst n = 5 → (t.lk n).gotNbr = true ∧ (t.lk n).gotSeen = true ∧ (t.lk n).peer = (fna, link, inc, vendor, part, quar) ∧ t.lst n = 5) ∧
      (s.lst n = 4 → (s.lk n).sentSeen = true → hi < 0x10 → t.lst n = 7 ∧ t.rd (LNK_STATUS_CAUSE n) = 6)))

/-- R142, R145, R148, R180 to R182, R185, R187, R189, R190, R192, R439, R440: the replay timer starts a replay run and counts it, or escalates; escalation decays; grace ends in a flush;
resynchronisation corrects credits; an LSTATE without a held session starts a new session with the partner's credits; a heartbeat goes out and one of the session's
partner is taken; silence makes a neighbour SUSPECT and then UNREACHABLE; a flit period with nothing due in EXCHANGE puts an idle flit into the
gearbox; an uncorrectable codeword is counted; of one without errors an IDLE flit changes no register, a flit whose CRC-64 fails is counted, and a DATA flit in the clear
with the SEQ expected, of filler slots alone, is accepted. -/
def Obligations.LinkSessions : Prop :=
  ∀ (s : State) (n : Nat), s.HasLink n →
    s.Answers (.replayTimerExpiry n) (fun t => (s.replayTimerOn n = false → t.lk n = s.lk n) ∧
      (s.replayTimerOn n = true → s.rd (LNK_RSTAT_RC n) + 1 < s.rmax n → t.rd (LNK_RSTAT_RC n) = s.rd (LNK_RSTAT_RC n) + 1 ∧
        (t.lk n).run = ((s.lk n).buf.filter fun f => decide ((s.lk n).ackAbs ≤ f.num)).map (·.num)) ∧
      (s.replayTimerOn n = true → s.rmax n ≤ s.rd (LNK_RSTAT_RC n) + 1 →
        if s.on (LNK_RSTAT_EL n) then t.lst n = 8 ∧ t.rd (LNK_RSTAT_DSTATE n) = 2 ∧ t.rd (LNK_RSTAT_DCAUSE n) = 1
        else t.rd (LNK_RSTAT_EL n) = 1 ∧ t.rd (LNK_RSTAT_RC n) = 0 ∧ t.rd (LNK_RSTAT_DSTATE n) = 1 ∧ t.lst n = s.lst n ∧
          ((s.lk n).retrainTx = 0 → (s.lk n).retrainWait = false → (t.lk n).retrainTx = 3))) ∧
    s.Answers (.elDecay n) (fun t => t.rd (LNK_RSTAT_EL n) = 0 ∧ t = { s with regs := t.regs } ∧ s.OnlyWords t [(LNK_RSTAT_EL n).key]) ∧
    s.Answers (.graceExpiry n) (fun t => s.rd (LNK_RSTAT_DSTATE n) = 2 → t.rd (LNK_RSTAT_DSTATE n) = 3 ∧ (t.lk n).session = none ∧ (t.lk n).buf = [] ∧ (t.lk n).msgs = []) ∧
    s.Answers (.crsyncTimer n) (fun t => t = { s with lnk := t.lnk } ∧ ((s.lk n).byp.length < 31 →
      (t.lk n).byp = if s.resync n = true ∧ s.lup n = true then (s.lk n).byp ++ [1, 2] else (s.lk n).byp)) ∧
    (∀ totals : List Nat,
      s.Answers (.crsyncLo n totals) (fun t => s.resync n = true → (s.lk n).taken.length = 8 → ∀ i, i < 4 →
        t.rd (LNK_VC_CRED n i) = unsgn 14 ((s.rd (LNK_VC_CRED n i) : Int) + sgn 24 ((totals.getD i 0 + 2 ^ 24 - (s.lk n).taken.getD i 0) % 2 ^ 24)) ∧
        (t.lk n).taken.getD i 0 = totals.getD i 0 % 2 ^ 24) ∧
      s.Answers (.crsyncHi n totals) (fun t => s.resync n = true → (s.lk n).taken.length = 8 → ∀ i, i < 4 →
        t.rd (LNK_VC_CRED n (4 + i)) = unsgn 14 ((s.rd (LNK_VC_CRED n (4 + i)) : Int) + sgn 24 ((totals.getD i 0 + 2 ^ 24 - (s.lk n).taken.getD (4 + i) 0) % 2 ^ 24)) ∧
        (t.lk n).taken.getD (4 + i) 0 = totals.getD i 0 % 2 ^ 24)) ∧
    (∀ (held seenl enc : Bool) (exp nxt : Nat) (base : List Nat), s.Answers (.lstate n held seenl enc true exp nxt base) (fun t =>
      s.lup n = true → (s.lk n).hsDecided = false → (s.lk n).hsOwn = none →
        (t.lk n).hsSeen = true ∧ (t.lk n).hsDecided = true ∧ (t.lk n).session = some ((s.lk n).peer.1, (s.lk n).peer.2.1, (s.lk n).peer.2.2.1) ∧
        t.rd (LNK_RSTAT_DSTATE n) = 0 ∧ t.rd (LNK_SEQ_RXEXP n) = 0 ∧ ∀ v, v < 8 → t.rd (LNK_VC_CRED n v) = base.getD v 0 % 2 ^ 14)) ∧
    s.Answers (.hbTimer n) (fun t => t = { s with lnk := t.lnk } ∧ (s.lup n = true → (s.lk n).byp.length < 32 →
      (t.lk n).hbTx = ((s.lk n).hbTx + 1) % 2 ^ 32 ∧ (t.lk n).byp = (s.lk n).byp ++ [hbMsg s.fna s.inc (s.lk n).hbTx s.hbFlags])) ∧
    (∀ fna inc seq flags : Nat, s.Answers (.hb n fna inc seq flags) (fun t => ∀ l, (s.lk n).session = some (fna, l, inc) →
      t.rd (LNK_LIVE_STATE n) = 1 ∧ t.rd (LNK_LIVE_FLAGS n) = flags % 2 ^ 8 ∧ t.rd (LNK_HBSEQ n) = seq % 2 ^ 32)) ∧
    s.Answers (.silenceSuspect n) (fun t => if s.rd (LNK_LIVE_STATE n) = 1 then t.rd (LNK_LIVE_STATE n) = 2 else t = s) ∧
    s.Answers (.silenceUnreachable n) (fun t => if s.rd (LNK_LIVE_STATE n) = 1 ∨ s.rd (LNK_LIVE_STATE n) = 2 then t.rd (LNK_LIVE_STATE n) = 3 else t = s) ∧
    s.Answers (.flitPeriod n []) (fun t => s.lst n = 4 → (s.lk n).gear = [] → (s.lk n).flits % 16 ≠ 0 → (s.lk n).cmds = [] → (s.lk n).retrainTx = 0 → (s.lk n).retrainWait = false →
      (t.lk n).gear = [idleFlit] ∧ (t.lk n).flits = (s.lk n).flits + 1) ∧
    (∀ lanes : List (List Nat), s.Answers (.flitReceive n lanes) (fun t => (s.lk n).rxOn = true → 4 ≤ s.lst n → s.lst n ≤ 7 → widthOf (s.rd (LNK_STATUS_RXW n)) ≠ 0 →
      rsDecode (gather lanes (s.rd (LNK_MAP_RXMAP n)) (widthOf (s.rd (LNK_STATUS_RXW n)))) = none → (s.lk n).faults = [] → (s.lk n).repair = false → (s.lk n).unc < 15 →
      (t.lk n).unc = (s.lk n).unc + 1 ∧ t.rd (LNK_FEC_UNC n) = (s.rd (LNK_FEC_UNC n) + 1) % 2 ^ 32)) ∧
    (∀ (lanes : List (List Nat)) (fixed : List Nat), rsDecode (gather lanes (s.rd (LNK_MAP_RXMAP n)) (widthOf (s.rd (LNK_STATUS_RXW n)))) = some (fixed, []) →
      s.Answers (.flitReceive n lanes) (fun t => (s.lk n).rxOn = true → 4 ≤ s.lst n → s.lst n ≤ 7 → widthOf (s.rd (LNK_STATUS_RXW n)) ≠ 0 →
        (s.lk n).faults = [] → (s.lk n).mirSpare = none → (∀ q, q < 5 → (s.lk n).corr.getD q 0 < 1024) →
        (t.lk n).unc = 0 ∧
        ((symbolsFlit fixed).toNat % 16 = 3 → t.regs = s.regs) ∧
        ((symbolsFlit fixed).toNat % 16 ≠ 3 → flitGood (symbolsFlit fixed) = false → t.rd (LNK_CRC_ERR n) = (s.rd (LNK_CRC_ERR n) + 1) % 2 ^ 32 ∧ t.rd (LNK_SEQ_RXEXP n) = s.rd (LNK_SEQ_RXEXP n)) ∧
        ((symbolsFlit fixed).toNat % 2 ^ 2496 = 1 + 16 * s.rd (LNK_SEQ_RXEXP n) → flitGood (symbolsFlit fixed) = true → s.lst n = 5 → (s.lk n).hsDone = true → (s.lk n).hsDecided = true →
          (s.lk n).part = [] → t.rd (LNK_SEQ_RXEXP n) = (s.rd (LNK_SEQ_RXEXP n) + 1) % 4096 ∧ t.rd (LNK_RXDATA n) = (s.rd (LNK_RXDATA n) + 1) % 2 ^ 32)))

/-- R194, R435: at its epoch a pending transmit key becomes the key in use, with its invocation count at 0; before it nothing happens. Each residence tick
counts one unit in the band of every entry in use, saturating, and its age; an entry that reaches MWIN is freed. -/
def Obligations.KeyEpochsAndTracker : Prop :=
  (∀ (s : State) (n : Nat), s.HasLink n → s.Answers (.keyEpoch n false) (fun t =>
    ((s.lk n).txPend = none → t.lk n = s.lk n) ∧
    (∀ k, (s.lk n).txPend = some k → s.reached (instant k.cyc k.ang) = true → (t.lk n).txPend = none ∧ (t.lk n).txKey = some { key := k.key, salt := k.salt, inv := 0 } ∧
      t.rd (LNK_SEC_TXKEY n) = 1))) ∧
  (∀ (s : State) (e : Nat), s.bReset = false → e < 512 → s.track = [e] →
    s.Answers .trackerResidenceTick (fun t => t.track = [e] ∧ t.rd (TEL_TBIN_RES e (s.band (s.homeSensor (s.rd (TEL_TRID_RID e))))) =
      clampTop 65535 (s.rd (TEL_TBIN_RES e (s.band (s.homeSensor (s.rd (TEL_TRID_RID e))))) + 1)) ∧
    s.Answers (.trackerAgeExpiry e) (fun t => if max 1 (s.rd TEL_FCTL_MWIN) ≤ s.rd (TEL_TCNT_AGE e) then t.track = [] ∧ t.rd (TEL_TRID_VALID e) = 0 ∧ t.rd TEL_TRK_USED = 0 else t = s))

/-! ## Supplies, resets, boot and Caddy (chapters 02 and 14) -/

/-- R36, R38, R49, R69, R71, R73 to R75, R366, R367, R375, R448: PORST_ASSERT resets the main domains whose input it takes low and keeps Caddy, recording PORST in Kalvon-B where no request is
pending; PORST_RELEASE ends the reset of those it names, shows and clears the causes and takes the modes; a power-on of VDD_AON blanks Caddy; the reset level of a main rail holds all
traffic and asks for a reset; that of VDD_AON loses Caddy; warnings show in KB_PAC_SAG and begin the sag ceiling, and the hold's expiry
ends it; the end of the pulse raises b_rst_req_n_o; a request that nothing honours resets Kalvon-B alone; a trip latches and makes every permit 0. -/
def Obligations.ResetsAndSupplies : Prop :=
  ∀ s : State,
    s.Answers (.porstAssert false false) (fun t => t = s) ∧
    (s.bReset = false ∨ s.tReset = false → s.Answers (.porstAssert true true) (fun t =>
      t.bReset = true ∧ t.tReset = true ∧ t.kclk = 0 ∧ t.tclk = 0 ∧ t.hold = false ∧ t.lnk = [] ∧ t.bond = BondSt.reset ∧ t.caddy = s.caddy ∧ t.hdr = s.hdr ∧
      t.boot.causes = (if s.boot.reqPending then s.boot.causes else s.boot.causes ||| 2) ∧
      (s.mgmt.wait = none → ∀ k, k ≠ 0x1040 → k ≠ 0x1100 → s.boundWord k = false → t.word k = regReset k))) ∧
    s.Answers (.porstAssert true false) (fun t => if s.bReset = true then t = s else
      t.bReset = true ∧ t.tReset = s.tReset ∧ t.tclk = s.tclk ∧ t.kclk = 0 ∧ t.hold = false ∧ t.lnk = [] ∧ t.caddy = s.caddy ∧ t.hdr = s.hdr ∧
      t.boot.causes = (if s.boot.reqPending then s.boot.causes else s.boot.causes ||| 2)) ∧
    s.Answers (.porstAssert false true) (fun t => if s.tReset = true then t = s else
      t.tReset = true ∧ t.bReset = s.bReset ∧ t.kclk = s.kclk ∧ t.lnk = s.lnk ∧ t.boot.causes = s.boot.causes ∧ t.tclk = 0 ∧ t.tHold = false ∧
      ∀ k, t.word k = if isTKey k then regReset k else s.word k) ∧
    (∀ b t bT tT : Bool, s.Answers (.porstRelease b t bT tT) (fun t' =>
      t'.bReset = (s.bReset && !b) ∧ t'.tReset = (s.tReset && !t) ∧ ((b && s.bReset) = false → (t && s.tReset) = false → t' = s) ∧
      ((b && s.bReset) = true → t'.boot.causes = 0 ∧ t'.boot.fcode = 0 ∧ t'.caddyShut = bT ∧
        t'.word 0x1100 = BitVec.ofNat 32 ((s.boot.causes ||| b2n s.boot.aonPor) % 128 + s.boot.fcode % 256 * 2 ^ 24) ∧
        t'.rd TST_STATUS_TMODE = b2n bT ∧ t'.rd PAC_STATUS_TRIP = b2n (!s.pins.tripN)) ∧
      ((t && s.tReset) = true → t'.rd KT_TST_STATUS_TMODE = b2n tT))) ∧
    s.Answers .vddAonPowerOn (fun t => t.bReset = true ∧ t.tReset = true ∧ t.caddy = [] ∧ t.hdr = CaddyHdr.blank ∧ t.boot.aonPor = true ∧ t.boot.causes = 0 ∧
      t.pins.rstReqN = true ∧ t.pins.tripN = true ∧ t.word 0x1040 = 0 ∧ t.word 0x1100 = 0) ∧
    (∀ rail : Rail, s.Answers (.supplyResetLevel rail) (fun t => (rail = .aon → t = s) ∧
      (rail ≠ .aon → bitAt t.boot.causes (if rail = .kt then 2 else 3) = true ∧
        (s.bReset = false → t.hold = true ∧ (s.on TST_STATUS_TMODE = false → t.pins.rstReqN = false ∧ t.boot.reqPending = true))))) ∧
    (∀ up : Bool, s.Answers (.aonResetLevel up) (fun t => t.caddy = [] ∧ t.hdr = CaddyHdr.blank ∧ t.pins.tripN = true ∧ t.boot.aonPor = true ∧
      t.boot.causes = b2n up ∧ (s.bReset = false → t.hold = true ∧ t.caddyShut = true))) ∧
    (∀ rail : Rail,
      s.Answers (.supplyWarning rail) (fun t =>
        (s.bReset = true → t = { s with boot := { s.boot with warn := setBits s.boot.warn (railBit rail) 1 1 } }) ∧
        (s.bReset = false → t.rd (match rail with | .kt => PAC_SAG_KT | .kb => PAC_SAG_KB | .aon => PAC_SAG_AON) = 1 ∧
          (rail = .kt → t.pace.sagKt = true) ∧ (rail = .kb → t.pace.sagKb = true))) ∧
      s.Answers (.supplyWarningClear rail) (fun t => t.boot.warn = setBits s.boot.warn (railBit rail) 1 0 ∧ t.pace = s.pace ∧
        (s.bReset = false → t.rd (match rail with | .kt => PAC_SAG_KT | .kb => PAC_SAG_KB | .aon => PAC_SAG_AON) = 0)) ∧
      s.Answers (.sagHoldExpiry rail) (fun t => t = { s with pace := t.pace } ∧ (s.bReset = false → bitAt s.boot.warn (railBit rail) = false →
        (rail = .kt → t.pace = { s.pace with sagKt := false }) ∧ (rail = .kb → t.pace = { s.pace with sagKb := false })) ∧
        (bitAt s.boot.warn (railBit rail) = true → t = s))) ∧
    s.Answers .rstReqPulseEnd (fun t => t = { s with pins := { s.pins with rstReqN := true } }) ∧
    s.Answers .rstReqUnhonoured (fun t => if s.boot.reqPending = false ∨ s.bReset = true then t = s else
      t.bReset = false ∧ t.kclk = 0 ∧ t.hold = false ∧ t.lnk = [] ∧ t.tReset = s.tReset ∧ t.tclk = s.tclk ∧ t.boot.reqPending = false ∧
      bitAt (t.word 0x1100).toNat 6 = true) ∧
    (∀ (q : Nat) (x : Int), s.Answers (.thermalTrip q x) (fun t => if s.bReset = false ∧ q < 12 ∧ 920 ≤ x then
      t.pins.tripN = false ∧ (q < 8 ∨ (s.pace.tSeen = true ∧ s.pace.tSilent = false) → t.rd (PAC_TEMP_VALID q) = 1) ∧ (s.pins.tripN = true → t.rd PAC_STATUS_TRIP = 1 ∧ ∀ d, d < 16 → t.rd (PAC_DSTAT_PERMIT d) = 0)
      else t = s))

/-- R373, R377, R383, R388 to R394, R398, R400: without a flash the boot stops with STOPC 1; a slot that passes boots, with its SEQ and step 3; the restore gives
the next incarnation number of its source and starts step 4; discovery ends in ready with its time; a clean, corrected or
uncorrectable Caddy word; a snapshot starts when the period ends and ends with its segment or is wanted again; a window command ends with its result. -/
def Obligations.BootAndCaddy : Prop :=
  ∀ s : State, s.bReset = false →
    (s.on TST_STATUS_TMODE = false → s.rd IMG_BOOT_STEP ≤ 2 → s.on IMG_BOOT_STOP = false →
      (∀ (bad : Bool) (j : Option Nat) (a b : SlotRead), s.Answers (.imageStepDone none bad j a b) (fun t =>
        t.rd IMG_BOOT_STEP = 2 ∧ t.rd IMG_BOOT_STOP = 1 ∧ t.rd IMG_BOOT_STOPC = 1 ∧ t.hold = true)) ∧
      (∀ (dens : Nat) (slow bad : Bool) (j : Option Nat) (a b : SlotRead), s.Answers (.imageStepDone (some (dens, slow)) bad j a b) (fun t =>
        let s1 := ((s.wr IMG_FLASH_DENS dens).wr IMG_FLASH_SLOW (b2n slow)).wr IMG_BOOT_STEP 2
        let floor := s.imageFloor bad j
        s1.slotCode floor a = 2 → b.seq ≤ a.seq → (((s1.setSlot false 2).setSlot true (s1.slotCode floor b)).trySlot a).1 = 1 →
          t.rd IMG_BOOT_STEP = 3 ∧ t.rd IMG_SEQ = a.seq % 2 ^ 32 ∧ t.rd IMG_SLOT_STA = 1 ∧ t.rd IMG_BCTL_CUR = 0))) ∧
    (s.on TST_STATUS_TMODE = false → s.rd IMG_BOOT_STEP = 3 → s.on IMG_BOOT_STOP = false →
      ∀ (fac : Option FacRead) (copy : Option TapCopy) (seg : Option JournalSeg) (bad ok : Bool) (nseg : Nat),
        s.Answers (.restoreStepDone fac copy seg bad ok nseg) (fun t => t.rd IMG_BOOT_STEP = 4 ∧ t.boot.aonPor = false ∧ t.bond.driveB = true ∧
          t.hdr.inc = (if s.boot.aonPor = false ∧ s.hdr.good = true ∧ bad = false then nextInc s.hdr.inc else
            match seg with
            | some g => nextInc (g.recs.getLastD g.inc)
            | none => 1))) ∧
    (∀ late : Bool, s.Answers (.discoveryEnd late) (fun t =>
      if s.rd IMG_BOOT_STEP = 8 ∧ s.on IMG_BOOT_STOP = false ∧ (late = true ∨ ∀ n, n < s.links → s.linkSettled n = true) then
        t.rd IMG_BOOT_STEP = 9 ∧ t.rd IMG_BOOT_READY = 1 ∧ t.rd IMG_TREADY = s.kclk * 2 / 3125 % 2 ^ 32 ∧ t.boot.readyAt = s.kclk
      else t = s)) ∧
    s.Answers (.caddyScrub 0 []) (fun t => t = { s with boot := { s.boot with scrub := (s.boot.scrub + 1) % 8192 } }) ∧
    s.Answers (.caddyScrub 1 []) (fun t => t.boot.scrub = (s.boot.scrub + 1) % 8192 ∧ t.rd CDY_EVT_SCRUB = 1) ∧
    s.Answers (.caddyScrub 2 []) (fun t => t.rd CDY_EVT_CDYU = 1) ∧
    s.Answers .journalPeriodTimer (fun t => t.boot.snapGap = false ∧
      (s.journalOk = true → t.rd CDY_JSTAT_BUSY = 1 ∧ t.boot.snapWanted = false) ∧ (s.journalOk = false → t.word = s.word)) ∧
    (∀ (seg : Nat) (ok : Bool), s.Answers (.snapshotDone seg ok) (fun t => if s.on CDY_JSTAT_BUSY = false then t = s else
      t.rd CDY_JSTAT_BUSY = 0 ∧ t.boot.snapGap = true ∧
      (ok = true → t.rd CDY_JSTAT_SEG = seg % 8 ∧ t.rd CDY_JSTAT_SSEQ = (s.hdr.sseq + 1) % 2 ^ 24) ∧ (ok = false → t.boot.snapWanted = true))) ∧
    (∀ (d : Nat) (ok : Bool), s.Answers (.flashCmdDone d ok) (fun t => if s.on IMG_FSTAT_BUSY = false ∨ s.flashWaits = true then t = s else
      t.rd IMG_FSTAT_BUSY = 0 ∧ t.rd IMG_FSTAT_RES = (if s.flashRefused s.boot.windowAddr then 1 else if ok then 0 else 2) ∧
      (s.flashRefused s.boot.windowAddr = false → ok = true → s.boot.windowOp = 1 → t.rd IMG_FDATA = d % 2 ^ 32)))

/-! ## Fabric time (chapter 09) -/

/-- R255: in a KCLK of Kalvon-B with no command in it (assumption 1), F advances by INC as a 104-bit value once time runs, and
stays while it is OFF; nothing else of the time base changes. -/
def Obligations.TimeAdvances : Prop :=
  ∀ s : State, s.pending = [] → s.bReset = false → ∃ t, step s = .next t ∧
    t.fnow = (if s.tst = 0 then s.fnow else (s.fnow + s.incr) % 2 ^ 104) ∧ t.incr = s.incr ∧ t.tst = s.tst ∧ t.time.marker = s.time.marker ∧ t.time.held = s.time.held

/-- R259, R260, R265, R266, R268 to R270, R272: a marker before step 4 does nothing; a bad pulse only raises EPOCHERR; the first marker starts a root
from KB_TIM_SET, makes a leader acquire, and leaves a follower waiting; a marker on schedule applies the correction held, with its increment, or puts a follower without one
in HOLDOVER on the continuation; a miss keeps the schedule and the third puts the device in HOLDOVER; the freeze point; a locked root's send point states
the continuation with the nominal increment; a leader's with four samples reports the offset; the expiry of HOLDMAX is stale; a root
without a sample starts at its next marker; both halves of a correction are held, and half of one waits. -/
def Obligations.MarkersAndCorrections : Prop :=
  ∀ s : State, s.bReset = false →
    (∀ bad : Bool, s.Answers (.epochMarker bad) (fun t =>
      (s.rd IMG_BOOT_STEP < 4 → t = s) ∧
      (4 ≤ s.rd IMG_BOOT_STEP → bad = true → t.rd TIM_EVT_EPOCHERR = 1 ∧ t.time = s.time ∧ t.fnow = s.fnow) ∧
      (4 ≤ s.rd IMG_BOOT_STEP → bad = false → s.time.taken = false →
        t.time.taken = true ∧ t.time.marker = s.kclk ∧ (s.tRole = 0 → t.tst = s.tst ∧ t.fnow = s.fnow) ∧
        (s.tRole = 1 → t.tst = 1 ∧ t.fnow = 0) ∧
        (s.tRole = 2 → s.on TIM_CTL_PEN = false → t.tst = 2 ∧ t.cycle = s.rd2 TIM_SET_LO TIM_SET_HI_CYCLE ∧ t.angle = 0)) ∧
      (4 ≤ s.rd IMG_BOOT_STEP → bad = false → s.time.taken = true → s.kclk = s.nextMarker → t.time.marker = s.kclk ∧ t.time.missed = 0 ∧
        (s.tRole = 0 → s.time.pchg = none → (∀ c, s.time.held = some c → c.f0 < 2 ^ 104 → c.inc < 2 ^ 40 →
            t.fnow = c.f0 ∧ t.incr = c.inc ∧ t.tst = 2 ∧ t.time.held = none) ∧
          (s.time.held = none → s.tst ≠ 0 → s.tst ≠ 4 → s.continuation < 2 ^ 104 → t.tst = 3 ∧ t.fnow = s.continuation))))) ∧
    s.Answers .epochMiss (fun t => (s.time.taken = false → t = s) ∧
      (s.time.taken = true → t.time.marker = s.nextMarker ∧ t.time.missed = s.time.missed + 1 ∧ t.rd TIM_EVT_EPOCHMISS = 1 ∧
        (s.time.missed = 2 → s.tst ≠ 0 → s.tst ≠ 4 → s.tRole ≠ 2 → t.tst = 3 ∧ t.time.held = none))) ∧
    s.Answers .correctionFreeze (fun t => t = { s with time := { s.time with frozen := true } }) ∧
    s.Answers .correctionSendPoint (fun t => (s.tRole = 0 ∨ s.tst = 0 ∨ s.time.taken = false → t = s) ∧
      (s.tRole = 2 → s.tst = 2 → s.time.taken = true → ∃ c, t.time.held = some c ∧ c.f0 = s.continuation ∧ c.inc = incNom (s.periodFrom s.continuation) ∧ c.step = false ∧
        t.time.lastSeq = some c.seq ∧ ∀ q, s.time.lastSeq = some q → c.seq = (q + 1) % 256) ∧
      (s.tRole = 1 → s.tst ≠ 0 → s.time.taken = true → 4 ≤ s.time.samples.length →
        t.rd TIM_OFFSET = unsgn 32 (s.thPs (medianOf s.time.samples)) ∧ t.time.samples = [] ∧ t.time.lastGood = s.kclk)) ∧
    s.Answers .holdmaxExpiry (fun t => if s.tst = 3 then t.time.holdStale = true ∧ t.rd TIM_STATUS_STALE = 1 else t = s) ∧
    s.Answers .rootStartTimeout (fun t => if s.tRole = 2 ∧ (s.tst = 1 ∨ s.tst = 3) ∧ s.time.sampled = false then t = { s with time := { s.time with startSet := true } } else t = s) ∧
    (∀ n : Nat, s.HasLink n →
      (∀ (seq f0 : Nat) (stale step : Bool), s.Answers (.tcorrA n seq stale step f0) (fun t =>
        t.time = { s.time with half := s.time.half.filter (fun (e : Nat × Corr) => e.1 != n) ++
          [(n, { seq := seq, stale := stale, step := step, f0 := f0, inc := 0, period := 0, ceff := 0 })] } ∧ t.word = s.word)) ∧
      (∀ (seq inc ceff : Nat) (a : Corr), s.Answers (.tcorrB n seq inc (s.rd TIM_PCUR_P) ceff) (fun t =>
        s.time.half.find? (fun (e : Nat × Corr) => e.1 == n && e.2.seq == seq) = some (n, a) → s.tRole = 0 →
        (∀ q, s.time.lastSeq = some q → 1 ≤ (seq + 256 - q) % 256 ∧ (seq + 256 - q) % 256 ≤ 127) → s.time.taken = true → s.time.frozen = false →
          t.time.held = some { a with inc := inc, period := s.rd TIM_PCUR_P, ceff := ceff } ∧ t.time.lastSeq = some seq ∧ t.fnow = s.fnow)))

/-- R118, R261 to R264, R273: a device that measures asks its parent with the next SEQ; one that does not stays as it is; a request is answered
with TT_RSP, and TT_CYC when FULL; an answer to an open exchange gives a sample and closes it, a stale one is rejected; TT_CYC closes an exchange that waited for it; a
timeout rejects; a change learned in time is pending; TIME states cycle, angle and STALE. -/
def Obligations.TimeTransfer : Prop :=
  ∀ s : State, s.bReset = false →
    s.Answers .ttReqTimer (fun t => if s.measures = true ∧ s.parentOk = true then
      t.time = { s.time with tt := s.time.tt.filter (fun x => x.seq != s.time.ttSeq) ++
                   [{ seq := s.time.ttSeq, full := s.tst == 1, t1 := none, flit := 0, replayed := false, got := none }], ttSeq := (s.time.ttSeq + 1) % 256 } ∧ t.word = s.word
      else t = s) ∧
    (∀ q : Nat, s.Answers (.ttRspTimeout q) (fun t =>
      (s.time.tt.find? (fun e => decide (e.seq = q)) = none → t = s) ∧
      ((s.time.tt.find? fun e => decide (e.seq = q)).isSome = true → t.time = { s.time with tt := s.time.tt.filter fun x => x.seq != q } ∧ t.rd TIM_EVT_TTREJ = 1))) ∧
    s.Answers .timeSendTimer (fun t => t = { s with bond := { s.bond with xBT := s.bond.xBT ++ [.msg 3 (mkMsg [(0, 8, 0x53), (16, 48, s.cycle), (64, 16, s.angle),
      (80, 32, s.kclk + 2 ^ 32 - (if s.incr = 0 then 0 else s.fnow % 2 ^ 40 / s.incr)), (112, 1, s.rd TIM_STATUS_STALE)])] } }) ∧
    (∀ n : Nat, s.HasLink n →
      (∀ (q : Nat) (full : Bool), s.Answers (.ttReq n q full) (fun t => t.time = s.time ∧ t.word = s.word ∧ (s.time.pchg = none → (s.lk n).byp.length < 31 →
        (t.lk n).byp = (s.lk n).byp ++ BitVec.ofNat 128 (pack [(0, 8, 0x21), (8, 8, q), (16, 1, s.rd TIM_STATUS_STALE), (17, 1, 0), (24, 48, stampBytes (s.rxStamp n))]) ::
          (if full then [BitVec.ofNat 128 (pack [(0, 8, 0x22), (8, 8, q), (64, 21, s.rd TIM_PCUR_P)])] else [])))) ∧
      (∀ (q t2 t3 f : Nat) (pend : Bool) (e : Exchange), n = s.rd TIM_CTL_PARENT → s.time.tt.find? (fun x => decide (x.seq = q)) = some e →
        (s.Answers (.ttRsp n q true pend t2 t3) (fun t => t.time = { s.time with tt := s.time.tt.filter fun x => x.seq != e.seq } ∧ t.rd TIM_EVT_TTREJ = 1)) ∧
        (e.t1 = some f → e.replayed = false → e.full = false → s.rttMin = none → s.time.stepDue = false →
          s.Answers (.ttRsp n q false pend t2 t3) (fun t => t.time.tt = s.time.tt.filter (fun x => x.seq != e.seq) ∧ t.time.sampled = true ∧
            t.time.samples = s.time.samples ++ [thetaOf (stampOf f) (readStamp t2) (readStamp t3) (stampOf (s.rxStamp n)) * 2 ^ 31]))) ∧
      (∀ (q cyc : Nat) (e : Exchange), n = s.rd TIM_CTL_PARENT → s.time.tt.find? (fun x => decide (x.seq = q) && x.got.isSome) = some e →
        s.Answers (.ttCyc n q cyc (s.rd TIM_PCUR_P)) (fun t => t.time.tt = s.time.tt.filter (fun x => x.seq != e.seq) ∧ t.time.sampled = true ∧
          t.time.samples.length = s.time.samples.length + (if s.time.stepDue then 0 else 1))) ∧
      (∀ p ce : Nat, n = s.rd TIM_CTL_PARENT → s.tRole = 1 → s.cycle < ce →
        s.Answers (.ttPchg n p ce) (fun t => t.time = { s.time with pchg := some (p, ce) } ∧ t.word = s.word)))

/-! ## Pace (chapter 13) -/

/-- R75, R349, R351, R352, R359, R361, R362, R365, R366: a channel's first sample sets it and a later one gives its rate; a missing channel in use shows;
THERM gives four readings and a silent Kalvon-T loses them; the thermal ceiling falls by TSTEP at the warning level and rises below the hysteresis; the tick takes the
permits computed for it and Kalvon-B's readings, and permits of 0 where such a reading trips, and outside a boundary nothing happens; 101 windows that disagree set MISM; OPP goes out 128 to 64 KCLK before its instant,
and at the instant the operating point changes where it has gone out (assumption 78, a choice). -/
def Obligations.PaceEvents : Prop :=
  ∀ s : State, s.bReset = false →
    (∀ c data : Nat, c < 16 → s.Answers (.energySample c data) (fun t => bitAt (t.rd PAC_EMISS_MISS) c = false ∧ (t.ech c).last = data % 2 ^ 32 ∧ t.time = s.time ∧
      ((s.ech c).seen = false → (t.ech c).seen = true ∧ (t.ech c).rate = 0) ∧
      ((s.ech c).seen = true → (s.ech c).at_ < s.kclk → (t.ech c).rate = (data % 2 ^ 32 + 2 ^ 32 - (s.ech c).last) % 2 ^ 32 * 3200000 / (s.kclk - (s.ech c).at_)))) ∧
    (∀ c : Nat, s.Answers (.energyChannelMissing c) (fun t =>
      if c < 16 ∧ bitAt (s.rd PAC_ECH_USED) c = true ∧ bitAt (s.rd PAC_EMISS_MISS) c = false then bitAt (t.rd PAC_EMISS_MISS) c = true ∧ t.rd PAC_EVT_CHMISS = 1 else t = s)) ∧
    (∀ m : XMsg, s.Answers (.therm m) (fun t => t.pace.tSeen = true ∧ t.pace.tSilent = false ∧
      ∀ i, i < 4 → t.rd (PAC_TEMP_TEMP (8 + i)) = bits m.hdr.toNat (48 + 12 * i) 12 ∧ t.rd (PAC_TEMP_VALID (8 + i)) = 1)) ∧
    s.Answers .thermTimeout (fun t => if s.pace.tSeen = true ∧ s.pace.tSilent = false then
      t.pace.tSilent = true ∧ (∀ i, i < 4 → t.rd (PAC_TEMP_VALID (8 + i)) = 0) ∧ t.rd PAC_EVT_TSENS = 1 else t = s) ∧
    s.Answers .thermalCeilingUpdate (fun t => t = { s with pace := t.pace } ∧ (s.tMax = none → t = s) ∧ ∀ x, s.tMax = some x →
      t.pace.ctherm = (if s.warnT ≤ x then s.pace.ctherm - s.rd PAC_THCTL_TSTEP
        else if x < s.warnT - (s.rd PAC_THCTL_THYST : Nat) then min 255 (s.pace.ctherm + s.rd PAC_THCTL_TSTEP) else s.pace.ctherm)) ∧
    (∀ rs : List Int, s.Answers (.paceTick rs) (fun t => if s.kclk % 3125 = 0 ∨ s.kclk % 3125 = 1562 then
      t.pace.tickAt = s.kclk ∧ t.pace.slots = [] ∧ (∀ d, d < 16 → t.rd (PAC_DSTAT_PERMIT d) = if hotReading rs = true ∧ s.pins.tripN = true then 0 else s.pace.next.getD d 0 % 256) ∧
      (∀ i, i < 8 → t.rd (PAC_TEMP_TEMP i) = unsgn 12 (rs.getD i 0) ∧ t.rd (PAC_TEMP_VALID i) = 1) else t = s)) ∧
    s.Answers .mismWindow (fun t => t.pace.winTicks = 0 ∧ t.pace.winMeas = 0 ∧ t.pace.winEst = 0 ∧
      (s.pace.winBad = true ∨ s.pace.winTicks = 0 → t.pace.dis = 0 ∧ t.pace.agree = 0 ∧ t.word = s.word) ∧
      (s.pace.winBad = false → s.pace.winTicks ≠ 0 → s.pace.winEst < 5 * ((s.pace.winMeas : Int) - (s.pace.winEst : Int)).natAbs →
        t.pace.dis = s.pace.dis + 1 ∧ t.pace.agree = 0 ∧ (100 ≤ s.pace.dis → t.rd PAC_STATUS_MISM = 1))) ∧
    s.Answers .oppSendPoint (fun t => ∀ (i o k : Nat), s.pace.opp = some (i, o, false) → s.kOf i = some k →
      (s.kclk + 128 < k ∨ k < s.kclk + 64 → t = s) ∧
      (k ≤ s.kclk + 128 → s.kclk + 64 ≤ k → t.pace.opp = some (i, o, true) ∧
        t.bond.xBT = s.bond.xBT ++ [.msg 3 (mkMsg [(0, 8, 0x52), (16, 32, k % 2 ^ 32), (48, 16, i % 65536), (64, 4, o)])])) ∧
    (s.dueKeys = [] → s.Answers .oppInstant (fun t => (s.pace.opp = none → t = s) ∧ ∀ (i o : Nat) (b : Bool), s.pace.opp = some (i, o, b) →
      (s.reached i = false ∨ b = false → t = s) ∧
      (s.reached i = true → b = true → t.rd PAC_STATUS_OPP = o % 16 ∧ t.rd PAC_STATUS_OPPPEND = 0 ∧ t.pace.opp = none ∧ t.rd PAC_EVT_OPPCHG = 1)))

/-- R350, R351, R357: at a tick boundary the permit that every domain gets at the next boundary moves from the permit in force toward the domain's target by at
most RISE upward and at most FALL downward (a value of 0 counts as 1); it is 0 for a domain not used, while the trip is latched (a reading of 115 °C or more latches it), and while the pace port is not ready. -/
def Obligations.PermitsRiseAndFall : Prop :=
  ∀ (s : State) (rs : List Int), s.bReset = false → s.kclk % 3125 = 0 ∨ s.kclk % 3125 = 1562 →
    s.Answers (.paceTick rs) (fun t => t.pace.next.length = 16 ∧ ∀ d, d < 16 →
      t.pace.next.getD d 0 =
        if s.on PAC_STATUS_TRIP = true ∨ (hotReading rs = true ∧ s.pins.tripN = true) ∨ s.portsReady = false ∨ s.on (PAC_DOM_USED d) = false then 0
        else if t.rd (PAC_DSTAT_PERMIT d) < t.rd (PAC_DSTAT_TGT d) then min (t.rd (PAC_DSTAT_TGT d)) (t.rd (PAC_DSTAT_PERMIT d) + max 1 (s.rd PAC_CTL_RISE))
        else max (t.rd (PAC_DSTAT_TGT d)) (t.rd (PAC_DSTAT_PERMIT d) - max 1 (s.rd PAC_CTL_FALL)))

/-! ## Routing and fences (chapter 07) -/

/-- R200, R201, R212, R215, R216: a message that this device originates carries its FNA, incarnation and hop count. Outside its partition's allow-list it is dropped with
DENYSRC and counted; on a fenced device it is held; to this device it goes to its functions when they accept its source, but under HOLDALL it is held unless it is of VC6 and no entry rejects it; any other waits
for an output link or is dropped with NOROUTE. -/
def Obligations.OriginatedMessages : Prop :=
  ∀ (s : State) (m0 : RMsg),
    let m : RMsg := { m0 with src := s.fna, sinc := s.inc, hops := max 1 (s.rd RTE_CTL_HOPS) }
    let t := (s.originate m0).1
    (s.allowed m.part m.dst = false → (s.originate m0).2 = .denied ∧ t.rd RTE_EVT_DENYSRC = 1 ∧ t.rd (RTE_PDENY (m.part % 256)) = (s.rd (RTE_PDENY (m.part % 256)) + 1) % 2 ^ 32 ∧
      t.route = s.route) ∧
    (s.allowed m.part m.dst = true → s.on RTE_STAT_SELF = true → (s.originate m0).2 = .ok ∧ t = { s with route := { s.route with own := s.route.own ++ [m] } }) ∧
    (s.allowed m.part m.dst = true → s.on RTE_STAT_SELF = false → m.dst = s.fna → s.allowed m.part s.fna = true → s.on RTE_STAT_HOLDALL = false ∨ (m.vc = 6 ∧ s.fenceRejects m = false) →
      (s.originate m0).2 = .ok ∧ t = { s with route := { s.route with local_ := s.route.local_ ++ [(none, m)] } }) ∧
    (s.allowed m.part m.dst = true → s.on RTE_STAT_SELF = false → m.dst = s.fna → s.on RTE_STAT_HOLDALL = true → m.vc ≠ 6 ∨ s.fenceRejects m = true →
      (s.originate m0).2 = .ok ∧ t.route = { s.route with own := s.route.own ++ [m] }) ∧
    (s.allowed m.part m.dst = true → s.on RTE_STAT_SELF = false → m.dst ≠ s.fna →
      ((s.originate m0).2 = .ok ∧ t.route.pool = s.route.pool ++ [{ from_ := none, m := m }]) ∨
      ((s.originate m0).2 = .noRoute ∧ t.route.pool = s.route.pool ∧ t.rd RTE_EVT_NOROUTE = 1))

/-- R201, R205, R213, R215: the oldest message of a VC leaves the link's receive buffer: one that a fence rejects is dropped with FENCED; one for this device goes to its
function; one without hops left is dropped with HOPX; any other waits for an output with one hop less, or is dropped with NOROUTE; HOLDALL keeps it.
A message without a usable position is dropped when its time is out. A FENCE for a device without an entry takes the lowest free one, a newer one
replaces an entry's; UNFENCE frees an entry if it is newer; an older one changes no register. -/
def Obligations.RoutingAndFences : Prop :=
  (∀ (s : State) (n : Nat) (m : RMsg) (rest : List RMsg), s.HasLink n → (s.lk n).rxq = m :: rest → s.Answers (.routeMessage n m.vc []) (fun t =>
    (s.stalls m = true → (t.lk n).rxq = m :: rest ∧ t.route.local_ = s.route.local_ ∧ t.route.pool = s.route.pool) ∧
    (s.stalls m = false → (t.lk n).rxq = rest ∧
      (s.fenceRejects m = true → t.rd RTE_EVT_FENCED = 1 ∧ t.route.pool = s.route.pool ∧ t.route.local_ = s.route.local_) ∧
      (s.fenceRejects m = false → m.dst = s.fna → mtypeKnown m.mtype = true → s.allowed m.part m.src = true → t.route.local_ = s.route.local_ ++ [(some n, m)]) ∧
      (s.fenceRejects m = false → m.dst ≠ s.fna → m.hops = 0 → t.rd RTE_EVT_HOPX = 1 ∧ t.route.pool = s.route.pool) ∧
      (s.fenceRejects m = false → m.dst ≠ s.fna → m.hops ≠ 0 →
        t.route.pool = s.route.pool ++ [{ from_ := some n, m := { m with hops := m.hops - 1 } }] ∨ (t.route.pool = s.route.pool ∧ t.rd RTE_EVT_NOROUTE = 1))))) ∧
  (∀ (s : State) (m : RMsg) (f : Option Nat) (rest : List PoolMsg), s.bReset = false → s.route.pool = { from_ := f, m := m } :: rest → s.Answers (.norouteTimeout m) (fun t =>
    (s.select m ≠ .wait → s.select m ≠ .none_ → t = s) ∧ (s.select m = .wait ∨ s.select m = .none_ → m.src ≠ s.fna ∨ m.mtype ≠ 0x10 → t.route.pool = rest ∧ t.rd RTE_EVT_NOROUTE = 1))) ∧
  (∀ (s : State) (n fna inc gen : Nat), s.HasLink n → fna < 2 ^ 20 →
    (s.Answers (.fence n fna inc gen) (fun t =>
      (∀ e, s.fenceOf fna = none → findUp (fun e => !s.on (RTE_FENCE_A_VALID e)) 512 0 = some e →
        t.rd (RTE_FENCE_A_VALID e) = 1 ∧ t.rd (RTE_FENCE_A_FNA e) = fna ∧ t.rd (RTE_FENCE_B_INC e) = inc % 2 ^ 16 ∧ t.rd (RTE_FENCE_B_GEN e) = gen % 2 ^ 16 ∧ t.rd RTE_EVT_FENCEUP = 1) ∧
      (∀ e, s.fenceOf fna = some e → 1 ≤ (gen + 65536 - s.rd (RTE_FENCE_B_GEN e)) % 65536 → (gen + 65536 - s.rd (RTE_FENCE_B_GEN e)) % 65536 ≤ 32767 →
        t.rd (RTE_FENCE_B_INC e) = inc % 2 ^ 16 ∧ t.rd (RTE_FENCE_B_GEN e) = gen % 2 ^ 16) ∧
      (∀ e, s.fenceOf fna = some e → (gen + 65536 - s.rd (RTE_FENCE_B_GEN e)) % 65536 = 0 → t.word = s.word))) ∧
    (s.Answers (.unfence n fna inc gen) (fun t =>
      (s.fenceOf fna = none → t.word = s.word) ∧
      (∀ e, s.fenceOf fna = some e → 1 ≤ (gen + 65536 - s.rd (RTE_FENCE_B_GEN e)) % 65536 → (gen + 65536 - s.rd (RTE_FENCE_B_GEN e)) % 65536 ≤ 32767 →
        t.rd (RTE_FENCE_A_VALID e) = 0 ∧ t.rd RTE_STAT_HOLDALL = 0) ∧
      (∀ e, s.fenceOf fna = some e → 32768 ≤ (gen + 65536 - s.rd (RTE_FENCE_B_GEN e)) % 65536 → t.word = s.word))))

/-! ## Tile delivery and requests (chapter 08) -/

/-- A message of a type that this device's functions hold, with its fields in their ranges. -/
def heldLocally (s : State) (m : RMsg) (ty : Nat) : Prop := m.mtype = ty ∧ (∃ f, (f, m) ∈ s.route.local_) ∧ m.part < 256 ∧ m.flow < 4096 ∧ m.src < 2 ^ 20

/-- A delivery message once its function has taken it (R424, R185). -/
def afterTaking (s : State) (m : RMsg) : State := (s.trace 3 0).takeLocal m

/-- R223, R237, R238, R240, R246, R472: a tile of an unknown flow above TSEQ 1 gets TNAK cause 4; one whose check fails is withheld; the first tile goes to its point of use: a TDELIV (on the channel of assumption 75, a choice)
or a stream channel with a credit at once, each with its log entry from then on, or Blend; a duplicate is counted and answered; a handover that is done advances LAST, and 16 make a TACK; SYNC, BROKEN and CLOSE are answered
from the log; CLOSE frees the entry; TACK_TIMER sends what is owed. -/
def Obligations.TileDestination : Prop :=
  ∀ s : State, s.bReset = false →
    (∀ m : RMsg, heldLocally s m 1 → s.behind m = false → s.entryOf m.src m.flow = none → s.Answers (.tile m) (fun t =>
      (dmSeq m ≠ 1 → t = (s.takeLocal m).sendTnak m (dmSeq m) 4) ∧
      (dmSeq m = 1 → tileGood m = false → t.rd DLV_EVT_CHKFAIL = 1) ∧
      (dmSeq m = 1 → tileGood m = true → s.freeEntry = none → t.rd DLV_EVT_LOGFULL = 1) ∧
      (∀ e, dmSeq m = 1 → tileGood m = true → s.freeEntry = some e →
        ((spellTileMsg m).use = 1 → (∀ x ∈ s.dlv.tdeliv, x.src ≠ m.src ∨ x.flow ≠ m.flow) → t = { s with regs := t.regs, dlv := t.dlv } ∧
          t.rd (DLV_DLOG_A_SRC e) = m.src ∧ t.rd (DLV_DLOG_A_FLOW e) = m.flow ∧ t.rd (DLV_DLOG_B_LAST e) = s.rd (DLV_DLOG_B_LAST e) ∧
          t.dlv.tdeliv = s.dlv.tdeliv ++ [m] ∧ t.dlv.out = s.dlv.out ++ [{ chan := retPair m.flow, hdr := tdelivHdr m, data := (spellTileMsg m).data, tile := some m }]) ∧
        ((spellTileMsg m).use = 2 → .net m ∉ s.blend.offered → t = { s with blend := { s.blend with offered := s.blend.offered ++ [.net m] } }) ∧
        ((spellTileMsg m).use = 0 → s.streamFree ((spellTileMsg m).usearg % 8) = true →
          t.rd (DLV_DLOG_A_SRC e) = m.src ∧ t.rd (DLV_DLOG_A_FLOW e) = m.flow ∧ t.rd (DLV_DLOG_B_LAST e) = 1)))) ∧
    (∀ (m : RMsg) (e : Nat), heldLocally s m 1 → s.behind m = false → s.entryOf m.src m.flow = some e → (s.df e).owed = [] → s.on (DLV_DLOG_B_BROKEN e) = false →
      dmSeq m ≤ s.rd (DLV_DLOG_B_LAST e) → s.Answers (.tile m) (fun t => t.rd DLV_EVT_DUP = 1 ∧ t.rd (DLV_DLOG_B_LAST e) = s.rd (DLV_DLOG_B_LAST e))) ∧
    (∀ (m : RMsg) (e : Nat) (rest : List RMsg), s.dlv.tdeliv = m :: rest → s.entryOf m.src m.flow = some e → s.Answers (.tdelivDone m) (fun t =>
      t.dlv.tdeliv = rest ∧ (∀ o ∈ t.dlv.out, o.tile ≠ some m) ∧ t.rd (DLV_DLOG_B_LAST e) = dmSeq m % 2 ^ 31 ∧ (t.df e).sinceTack = (if 16 ≤ (s.df e).sinceTack + 1 then 0 else (s.df e).sinceTack + 1))) ∧
    (∀ m : RMsg, s.entryOf m.src m.flow = none →
      (heldLocally s m 4 → s.Answers (.sync m) (fun t => t = (afterTaking s m).sendDlv m.src m.flow m.part 0x05 0 4 0)) ∧
      (heldLocally s m 6 → dmExact m = false → s.Answers (.broken m) (fun t => t = (afterTaking s m).sendDlv m.src m.flow m.part 0x07 1 0 2)) ∧
      (heldLocally s m 8 → s.Answers (.close m) (fun t => t = (afterTaking s m).sendDlv m.src m.flow m.part 0x09 0 0 0))) ∧
    (∀ (m : RMsg) (e : Nat), s.entryOf m.src m.flow = some e → (s.df e).owed = [] →
      (heldLocally s m 4 → s.on (DLV_DLOG_B_BROKEN e) = false → s.Answers (.sync m) (fun t =>
        t = ((afterTaking s m).setDf e { s.df e with part := some m.part, owed := [] }).sendDlv m.src m.flow m.part 0x05 (s.rd (DLV_DLOG_B_LAST e)) 0 (2 * b2n (s.df e).mark))) ∧
      (heldLocally s m 6 → dmExact m = false → s.Answers (.broken m) (fun t => t.rd (DLV_DLOG_B_BROKEN e) = 1 ∧ t.rd (DLV_DLOG_B_LAST e) = s.rd (DLV_DLOG_B_LAST e))) ∧
      (heldLocally s m 8 → s.Answers (.close m) (fun t => t.rd (DLV_DLOG_A_SRC e) = 0 ∧ t.rd (DLV_DLOG_A_FLOW e) = 0 ∧ t.rd (DLV_DLOG_B_LAST e) = 0 ∧ t.df e = DstFlow.reset))) ∧
    (∀ src flow : Nat, s.Answers (.tackTimer src flow) (fun t => (s.entryOf src flow = none → t = s) ∧
      ∀ e p, s.entryOf src flow = some e → (s.df e).part = some p → if (s.df e).sinceTack = 0 then t = s else t = s.sendTack e p ∧ (t.df e).sinceTack = 0))

/-- R228, R238 to R241, R246: TACK advances ACKED; TNAK cause 3 leaves the resend to the flow's timer and cause 4 breaks it; a message about no flow of this device is only taken; SYNC_RSP settles a flow that
waits for it; BRACK ends the wait of a broken flow; a destination's BROKEN breaks it; CLOSE_ACK closes a flow that has sent CLOSE, and a broken one; the timer's last expiry breaks it (before the rebuild has read what is live, at 1: assumption 48, a choice), an earlier
one counts; BROKEN is repeated; a SYNC without an answer breaks it. -/
def Obligations.SourceFlows : Prop :=
  ∀ s : State, s.bReset = false →
    (∀ m : RMsg, s.flowFor m = none →
      (heldLocally s m 2 → s.Answers (.tack m) (fun t => t = afterTaking s m)) ∧ (heldLocally s m 3 → s.Answers (.tnak m) (fun t => t = afterTaking s m)) ∧
      (heldLocally s m 5 → s.Answers (.syncRsp m) (fun t => t = afterTaking s m)) ∧ (heldLocally s m 7 → s.Answers (.brack m) (fun t => t = afterTaking s m)) ∧
      (heldLocally s m 9 → s.Answers (.closeAck m) (fun t => t = afterTaking s m))) ∧
    (∀ m : RMsg, s.flowFor m = some m.flow →
      (heldLocally s m 2 → s.Answers (.tack m) (fun t => t.rd (DLV_SACKED m.flow) = max (s.rd (DLV_SACKED m.flow)) (dmSeq m))) ∧
      (heldLocally s m 3 → s.fst m.flow ≠ 3 → s.Answers (.tnak m) (fun t => (dmCause m = 3 → t = afterTaking s m) ∧ (dmCause m = 4 → t.fst m.flow = 3))) ∧
      (heldLocally s m 5 → s.Answers (.syncRsp m) (fun t => ((s.sf m.flow).syncing = false → t = afterTaking s m) ∧
        ((s.sf m.flow).syncing = true → s.dlv.lost = false → dmCause m = 0 → (t.sf m.flow).syncing = false ∧ t.rd (DLV_SACKED m.flow) = dmSeq m))) ∧
      (heldLocally s m 7 → s.fst m.flow = 3 → s.Answers (.brack m) (fun t => (t.sf m.flow).awaitBrack = false ∧ t.fst m.flow = 3 ∧
        (dmExact m = true → t.rd (DLV_SCMD_EXACT m.flow) = 1))) ∧
      (heldLocally s m 6 → dmExact m = true → s.fst m.flow ≠ 3 → s.Answers (.broken m) (fun t => t.fst m.flow = 3 ∧ t.rd (DLV_SBOUND m.flow) = dmSeq m ∧ t.rd DLV_EVT_BROKEN = 1)) ∧
      (heldLocally s m 9 → s.Answers (.closeAck m) (fun t => if (s.fst m.flow = 2 ∧ (s.sf m.flow).closeSent = true) ∨ s.fst m.flow = 3 then t.fst m.flow = 0 ∧ t.sf m.flow = SrcFlow.reset
        else t = afterTaking s m))) ∧
    (∀ f : Nat, f < 4096 →
      s.Answers (.flowTimerExpiry f) (fun t =>
        (s.fst f = 0 ∨ s.fst f = 3 ∨ s.rd (DLV_SNEXT f) ≤ s.rd (DLV_SACKED f) + 1 ∨ (s.sf f).syncing = true → t = s) ∧
        (s.fst f = 1 → s.rd (DLV_SACKED f) + 1 < s.rd (DLV_SNEXT f) → (s.sf f).syncing = false →
          (s.emax ≤ (s.sf f).expiries + 1 → t.fst f = 3 ∧ t.rd (DLV_SBOUND f) = if s.dlv.synced then s.rd (DLV_SACKED f) + 1 else 1) ∧
          ((s.sf f).expiries + 1 < s.emax → (t.sf f).expiries = (s.sf f).expiries + 1 ∧ t.fst f = 1))) ∧
      s.Answers (.brokenRepeatTimer f) (fun t => if s.fst f = 3 ∧ (s.sf f).awaitBrack = true then (t.sf f).brokenTries = (s.sf f).brokenTries + 1 else t = s) ∧
      s.Answers (.syncTimeout f) (fun t => ((s.sf f).syncing = false → t = s) ∧
        ((s.sf f).syncing = true → s.fst f = 1 → t.fst f = 3 ∧ t.rd DLV_EVT_BROKEN = 1)))

/-- R225, R232 to R236, R246, R423: with the source ready, the oldest tile of a channel is refused with REFUSE, or opens its flow and takes the lowest free block and the flow's next TSEQ, or waits for them; a completed write accepts
the tile, frees the block, or ends a record's; a refused write makes the source unavailable and waits for the timer, which repeats it; a header that matches leads to the first block's descriptor and one without an anchor loses the
retention; a record read for LOG_READ answers it; the rebuild starts when boot is ready. -/
def Obligations.RetentionPath : Prop :=
  ∀ s : State, s.bReset = false →
    (∀ (src : Nat) (tl : Tile) (rest : List (Nat × Tile)), src < 8 → s.xing.fromT = (src, tl) :: rest → (∀ e ∈ s.dlv.taken, e.1 ≠ .stream src) → s.Answers (.tileSourceTake src) (fun t =>
      (s.held = true ∨ s.rd DLV_STATUS_RET ≠ 2 → t = s) ∧
      (s.held = false → s.rd DLV_STATUS_RET = 2 → s.refusesTile (spellIngress tl) = true → t.xing.fromT = rest ∧ t.rd DLV_EVT_REFUSE = 1 ∧ t.dlv = s.dlv) ∧
      (∀ b, s.held = false → s.rd DLV_STATUS_RET = 2 → s.refusesTile (spellIngress tl) = false → s.freeBlockNo = some b → s.windowFull (spellIngress tl).flow = false →
        let f := (spellIngress tl).flow
        let q := if s.fst f = 0 then 1 else s.rd (DLV_SNEXT f)
        t.xing.fromT = rest ∧ t.rd (DLV_SNEXT f) = q + 1 ∧ t.fst f = 1 ∧
          ∃ x, t.block b = some x ∧ x.st = .writing ∧ x.flow = f ∧ x.tseq = q ∧ x.from_ = some (.stream src)) ∧
      (s.held = false → s.rd DLV_STATUS_RET = 2 → s.refusesTile (spellIngress tl) = false → s.freeBlockNo = none ∨ s.windowFull (spellIngress tl).flow = true →
        t.xing.fromT = rest ∧ t.fst (spellIngress tl).flow = 1 ∧ t.dlv.blocks = s.dlv.blocks ∧ t.dlv.taken = s.dlv.taken ++ [(.stream src, spellIngress tl)]))) ∧
    (∀ (q : RetReq) (rest : List RetReq), s.dlv.ret = q :: rest → s.dlv.retWait = [] →
      s.Answers (.wdone q.rid) (fun t => (q.write = false → t = s) ∧ (q.write = true →
        (∀ b, q.use = .free b → t.dlv.ret = rest ∧ t.block b = none) ∧
        (∀ n, q.use = .log n → t.mgmt.logQ = s.mgmt.logQ.filter fun r => r.rseq != n) ∧
        (∀ b x, q.use = .tile b → s.dlv.blocks = [(b, x)] → x.st = .writing → x.tile = none → ∃ y, t.block b = some y ∧ y.st = .accepted))) ∧
      s.Answers (.rerr q.rid) (fun t => (∀ b, q.use = .tile b → t.rd DLV_STATUS_RET = 3 ∧ t.rd DLV_EVT_RETERR = 1 ∧ t.dlv.redo = s.dlv.redo ++ [q] ∧ t.dlv.ret = rest)) ∧
      (∀ data : List Byte, s.Answers (.rdata q.rid data) (fun t => (q.write = true → t = s) ∧
        (q.write = false → q.use = .header → s.hdr.anchor = false → t.rd DLV_EVT_RETLOST = 1 ∧ t.dlv.lost = true ∧ t.dlv.blocks = []) ∧
        (q.write = false → q.use = .header → s.hdr.anchor = true → bits (ofBytes (data.map (·.toNat))) 0 32 = 0x52544B31 → bits (ofBytes (data.map (·.toNat))) 32 16 = s.hdr.finc →
          s.hdr.rbase = s.retBase → s.hdr.rsize * 2 ^ 20 = s.retSize → t.rd DLV_RINC_FINC = s.hdr.finc % 2 ^ 16 ∧ t.dlv.lost = s.dlv.lost ∧
          (rest.length < 4096 → ∃ r, t.dlv.ret = rest ++ [r] ∧ r.use = .descriptor 0 ∧ r.write = false ∧ r.addr = s.blockAddr 0 ∧ r.bytes = 64)) ∧
        (∀ (w : SbWait) (a seq : Nat), q.write = false → q.use = .logRead a seq → s.mgmt.wait = some w → s.mgmt.queued = [] → (∀ p, s.progWaits p 7 = false) →
          ofBytes ((data.map (·.toNat)).take 4) = seq → t.mgmt.wait = none ∧
            t.mgmt.out = s.mgmt.out ++ [{ eid := w.eid, cmd := w.cmd, code := some 0, body := (data.map (·.toNat)).take 32 }])))) ∧
    s.Answers .retentionRetryTimer (fun t => t.dlv.redo = [] ∧ (s.dlv.redo = [] → t = s) ∧
      ∀ q, s.dlv.redo = [q] → s.dlv.ret.length < 4096 → t.dlv.ret = s.dlv.ret ++ [{ q with rid := s.nextRid }]) ∧
    s.Answers .retentionRebuild (fun t => if s.on IMG_BOOT_READY = true ∧ s.rd DLV_STATUS_RET = 0 then
      t.rd DLV_STATUS_RET = 1 ∧ t.rd DLV_RSIZE_BLOCKS = s.blockCount % 2 ^ 16 ∧ (s.dlv.ret.length < 4096 → t.dlv.ret = s.dlv.ret ++ [{ rid := s.nextRid, use := .header, write := false, addr := s.retBase, bytes := 64, data := [] }])
      else t = s)

/-- R242 to R244: a write or atomic of another device takes an entry of the response cache, and a type without a meaning is discarded; a late response is discarded, and one to a
class M request answers its client; a request without an answer is sent again, and after the last attempt fails with cause 3; a response held long enough is forgotten. -/
def Obligations.RemoteRequests : Prop :=
  ∀ s : State, s.bReset = false →
    (∀ m : RMsg, heldLocally s m 0x10 → s.Answers (.mreq m) (fun t =>
      (0x30 ≤ msgTy (mreqMsg m) → t = s.takeLocal m) ∧
      (msgTy (mreqMsg m) = 0x11 ∨ msgTy (mreqMsg m) = 0x12 ∨ msgTy (mreqMsg m) = 0x13 → mreqRetry m = false → s.dlv.cache.length < 1024 →
        (∀ e ∈ s.dlv.cache, e.tag ≠ mreqTag m) →
          ∃ r, t.dlv.cache = s.dlv.cache ++ [{ src := m.src, sinc := m.sinc, tag := mreqTag m, part := m.part, rsp := r }] ∧ t.rd DLV_RSPC_USED = s.dlv.cache.length + 1))) ∧
    (∀ m : RMsg, heldLocally s m 0x11 →
      ((∀ h ∈ s.xing.homes, h.remote ≠ some m.src) → s.Answers (.mrsp m) (fun t => t = s.takeLocal m)) ∧
      (∀ (h : HomeReq) (rest : List HomeReq) (xid way : Nat), s.xing.homes = h :: rest → h.remote = some m.src → h.rid = mreqTag m → h.who = .client xid way → isM (msgTy h.m) = true →
        msgTy (mreqMsg m) ≠ 0x1B → msgTy (mreqMsg m) ≠ 0x2C → s.Answers (.mrsp m) (fun t => t.xing.homes = rest ∧
          t.bond.xBT = s.bond.xBT ++ [.msg 0 (mkAns (msgTy (mreqMsg m)) (msgLaddr h.m % 32) xid 0 (mreqMsg m).data)]))) ∧
    (∀ tag : Nat, s.Answers (.requestTimerExpiry tag) (fun t =>
      ((∀ h ∈ s.xing.homes, h.rid ≠ tag) → t = s) ∧
      (∀ (h : HomeReq) (rest : List HomeReq), s.xing.homes = h :: rest → h.rid = tag → h.remote.isSome = true →
        (h.tries < s.rd DLV_RCTL_RRMAX → (({ s with xing := { s.xing with homes := s.xing.homes.map fun x => if x = h then { x with tries := x.tries + 1 } else x } }).mreq
            (h.remote.getD 0) (xf h.m 85 78) tag true h.m).2 = .ok → t.xing.homes.head? = some { h with tries := h.tries + 1 } ∧ t.xing.homes.length = s.xing.homes.length) ∧
        (∀ (xid way : Nat), s.rd DLV_RCTL_RRMAX ≤ h.tries → h.who = .client xid way → isM (msgTy h.m) = true → t.xing.homes = rest ∧ t.rd DLV_EVT_REQFAIL = 1)))) ∧
    (∀ (e : RespEntry) (rest : List RespEntry), s.dlv.cache = e :: rest → e.rsp.isSome = true → s.dlv.held = [] →
      s.Answers (.responseHoldExpiry e.src e.sinc e.tag) (fun t => t.dlv.cache = rest ∧ t.rd DLV_RSPC_USED = rest.length % 2 ^ 11))

/-! ## Pour (chapter 10) -/

/-- R284, R286 to R290: an entry whose window is open is read for a slot unless it has one, is being read, or one before it waits; when 1,024 are taken it waits with SLOTFULL; a trigger in a slot goes to Kalvon-T LEAD before its release KCLK, or is held; one whose entry is in no slot by its send point is missed, once; at its base
instant a barrier writes its register; a hint is given once, when due. -/
def Obligations.PourEvents : Prop :=
  ∀ (s : State) (n : Nat), s.bReset = false → n < 16384 →
    s.Answers (.pageIn n []) (fun t => (s.armedAt n = none → t = s) ∧ ∀ a, s.armedAt n = some a →
      (a.slot.isSome = true ∨ a.paging = true ∨ s.windowOpen a = false → t = s) ∧
      (a.slot = none → a.paging = false → s.windowOpen a = true →
        (s.slotsTaken < 1024 → (s.pour.armed.any fun b => s.pagesBefore b a) = true → t = s) ∧
        (s.slotsTaken < 1024 → (s.pour.armed.any fun b => s.pagesBefore b a) = false → s.dlv.ret.length < 4096 → (∃ a', t.armedAt n = some a' ∧ a'.paging = true ∧ a'.base = a.base) ∧ t.dlv.ret = s.dlv.ret ++
          [{ rid := s.nextRid, use := .pageEntry n, write := false, addr := s.schedAddr n, bytes := 32, data := [] }]) ∧
        (1024 ≤ s.slotsTaken → t.dlv = s.dlv ∧ n ∈ t.pour.waiting ∧ (n ∉ s.pour.waiting → t.rd POR_EVT_SLOTFULL = 1)))) ∧
    (∀ i : Nat, s.Answers (.trigSendPoint n i) (fun t => (s.armedAt n = none → t = s) ∧ ∀ a, s.armedAt n = some a →
      (∀ k, a.slot = none → s.kOf (a.base + a.sch.offset i) = some k →
        if a.sch.trig = true ∧ i < a.sch.groups ∧ i ∉ a.gone ∧ k ≤ s.kclk + s.lead then
          t.rd POR_EVT_MISSED = 1 ∧ ∃ a', t.armedAt n = some a' ∧ a'.gone = a.gone ++ [i]
        else t = s) ∧
      (∀ sl x y, a.slot = some sl → (sl.trigs.find? fun x => x.i == i && !x.done) = some x →
        placeAll (s.kclk + s.lead) n i s.pour.sent s.toPlace = some (s.kclk + s.lead, false, y) → s.wordErr 1 sl.no = 0 →
        (s.held = true → t.rd POR_EVT_HELD = 1) ∧
        (s.held = false → t.rd POR_TRIG_CNT = (s.rd POR_TRIG_CNT + 1) % 2 ^ 32 ∧ t.bond.xBT = s.bond.xBT ++
          [.msg 3 (mkMsg [(0, 8, 0x50), (16, 32, (s.kclk + s.lead) % 2 ^ 32), (48, 16, x.inst % 65536), (64, 64, trigWord sl.sch x.i false (s.on TIM_STATUS_STALE))])])))) ∧
    (s.dueKeys = [] → s.pace.opp = none → s.Answers (.barrierInstant n) (fun t => (s.armedAt n = none → t = s) ∧ ∀ a sl, s.armedAt n = some a → a.slot = some sl →
      (sl.barDone = true ∨ s.reached a.base = false → t = s) ∧
      (sl.barDone = false → s.reached a.base = true → s.wordErr 1 sl.no = 0 → sl.sch.barid < 256 →
        t.rd (POR_BAR sl.sch.barid) = a.base / 65536 % 2 ^ 32 ∧ t.rd POR_EVT_BAR = 1))) ∧
    s.Answers (.hintTime n) (fun t => (s.armedAt n = none → t = s) ∧ ∀ a sl, s.armedAt n = some a → a.slot = some sl →
      (sl.hintDone = true ∨ s.hintDue sl.sch a.base = false → t = s) ∧
      (sl.hintDone = false → s.hintDue sl.sch a.base = true → s.wordErr 1 sl.no = 0 →
        t.rd POR_HINT_CNT = (s.rd POR_HINT_CNT + 1) % 2 ^ 32 ∧ ∃ a', t.armedAt n = some a' ∧ a'.slot = some { sl with hintDone := true }))

/-! ## Blend (chapter 11) -/

/-- R306 to R308, R310 to R312, R317, R318: a descriptor in INIT comes to ACCUM; a tile that passes its checks is combined into the accumulator and counted, and the tile
that completes EXPECT makes the descriptor FULL; a tile that waits too long is discarded; an emission ends in FREE, INIT or the state before it; a mismatch that repeats
holds the lanes, a transient one is recorded; the known-answer tests retire the lane or put the spare out of use and end the hold. -/
def Obligations.BlendEvents : Prop :=
  ∀ s : State, s.bReset = false →
    (∀ d : Nat, s.Answers (.initDone d) (fun t => (d < 256 → s.dst d = 1 → s.blend.cmds = [] → t.dst d = 2 ∧ t.blend = s.blend) ∧ (¬(d < 256 ∧ s.dst d = 1) → t = s))) ∧
    s.Answers (.blendTake []) (fun t => (s.blend.offered = [] → t = s) ∧
      ∀ d0 d eoff part data raw scale, s.blend.offered = [.cvt d0 d eoff part data] → d < 256 → s.dst d = 2 → s.on BLD_STATUS_HOLD = false →
        s.offerOk (.cvt d0 d eoff part data) = true → s.ecc.words = [] → s.blend.cmds = [] → elems (s.rd (BLD_RD_CFG_IFMT d)) data = [(raw, scale)] →
        t.blend.offered = [] ∧ t.rd (BLD_RD_RECV d) = (s.rd (BLD_RD_RECV d) + 1) % 2 ^ 32 ∧
          t.dst d = (if (s.rd (BLD_RD_RECV d) + 1) % 2 ^ 32 = s.rd (BLD_RD_EXPECT d) then 3 else 2) ∧
          t.acc d eoff = (combine (s.rd (BLD_RD_CFG_OP d)) (s.rd (BLD_RD_CFG_IFMT d)) (s.narrowD d) (s.acc d eoff) raw scale).1) ∧
    (∀ k : Nat, s.Answers (.blendTwaitExpiry k) (fun t => (s.blend.offered[k]? = none → t = s) ∧ ∀ o, s.blend.offered[k]? = some o →
      (s.offerWaits o = false → t = s) ∧ (s.offerWaits o = true → s.offerStale o = false → t.rd BLD_EVT_BADTILE = 1 ∧
        ∀ a b c d e, o = .cvt a b c d e → t.blend.offered = eraseOne o s.blend.offered ∧ t.rd BLD_TILE_CNT = (s.rd BLD_TILE_CNT + 1) % 2 ^ 32))) ∧
    (∀ d : Nat, d < 256 → s.Answers (.emissionDone d) (fun t => ((∀ e ∈ s.blend.emits, e.cmd.rd ≠ d) → t = s) ∧
      ∀ e rest, s.blend.emits = e :: rest → e.cmd.rd = d → (s.emitOwes e = true ∨ s.on BLD_STATUS_HOLD = true → t = s) ∧
        (s.emitOwes e = false → s.on BLD_STATUS_HOLD = false → e.cmd.prog = none → s.blend.cmds = [] → t.blend.emits = rest ∧
          t.dst d = if e.cmd.free then 0 else if e.cmd.clear then 1 else e.prev % 8))) ∧
    (∀ g sig : Nat, ∀ again : Bool, s.Answers (.shadowMismatch g sig again) (fun t =>
      if g < 64 ∧ s.on BLD_CTL_SHEN = true ∧ s.on (BLD_LSPR_SPUSE g) = false ∧ s.on (BLD_LSPR_SPOUT g) = false ∧ s.on BLD_STATUS_HOLD = false then
        (again = true → t.rd BLD_EVT_SHTRANS = 1 ∧ t.blend = s.blend) ∧
        (again = false → t.rd BLD_STATUS_HOLD = 1 ∧ ∃ m, t.blend.held = some (g, s.shadowTarget, m))
      else t = s)) ∧
    (∀ p q : Bool, s.Answers (.katVerdict p q) (fun t => (s.blend.held = none → t = s) ∧ ∀ g l, s.blend.held = some (g, l, false) → g < 64 → l < 32 → s.blend.cmds = [] →
      t.rd BLD_STATUS_HOLD = 0 ∧ t.blend.held = none ∧
      (p = true → q = false → s.on (BLD_LSPR_SPUSE g) = false → t.rd (BLD_LSPR_SPOUT g) = 1) ∧
      (q = true → bitAt (s.rd (BLD_LRET g)) l = false → s.on (BLD_LSPR_SPUSE g) = false → s.on (BLD_LSPR_SPOUT g) = false →
        bitAt (t.rd (BLD_LRET g)) l = true ∧ t.rd (BLD_LSPR_SPUSE g) = 1 ∧ t.rd (BLD_LSPR_SPL g) = l ∧ t.rd BLD_EVT_LRETIRE = 1)))

/-! ## Collective programs (chapter 12) -/

/-- Program p runs, and the word at its PC is w with opcode c: the PC is in the program's range and the word reads without
an error (R324, R326, R327, R329). -/
def Runs (s : State) (p w c : Nat) : Prop :=
  s.bReset = false ∧ p < 4096 ∧ s.pst p = 2 ∧ s.rd (BLD_PRG_A_START p) ≤ s.rd (BLD_PINFO_PC p) ∧
    s.rd (BLD_PINFO_PC p) < s.rd (BLD_PRG_A_START p) + max 1 (s.rd (BLD_PRG_B_LEN p)) ∧ s.wordErr 2 (s.rd (BLD_PINFO_PC p)) = 0 ∧
    s.prgWord (s.rd (BLD_PINFO_PC p)) = w ∧ bits w 56 8 = c

/-- Command c is the instruction with opcode o of program p (R331). -/
def isInstr (p : Nat) (c : Instr) (o : Nat) : Prop := (c, o) ∈ ([
   (.nop p, 0x00), (.endProg p, 0x01), (.jmp p, 0x02), (.bnz p, 0x03), (.loop p, 0x04), (.ldi p, 0x05), (.addi p, 0x06), (.alu p, 0x07), (.gett p, 0x08),
   (.waita p, 0x10), (.join p, 0x11), (.dln p, 0x12), (.nodl p, 0x13), (.raln p, 0x14), (.rdcfg p, 0x20), (.rdcmd p, 0x21), (.recv p, 0x22), (.rdst p, 0x23),
   (.emit p, 0x24), (.cvt p, 0x25), (.send p, 0x30), (.wtac p, 0x31), (.ptrg p, 0x40), (.hint p, 0x41), (.sig p, 0x42)] : List (Instr × Nat))

/-- The next PC. -/
def pcNext (s : State) (p : Nat) : Nat := (s.rd (BLD_PINFO_PC p) + 1) % 2 ^ 14

/-- The program has faulted with a cause (R327). -/
def faulted (t : State) (p cause : Nat) : Prop := t.pst p = 5 ∧ t.rd (BLD_PINFO_FAULT p) = cause ∧ t.rd BLD_PEVT_PFAULT = 1

/-- R324, R327, R331: an instruction of a program that does not run has no effect; a PC outside the program's range faults it with 2, an
uncorrectable word with 4, an unknown opcode with 1; a word that spells another instruction leaves the state as it is. -/
def Obligations.ProgramFetchFaults : Prop :=
  ∀ (s : State) (p : Nat), s.bReset = false → p < 4096 → ∀ (i : Instr) (o : Nat), isInstr p i o →
    s.Answers i (fun t =>
      (s.pst p ≠ 2 → t = s) ∧
      (s.pst p = 2 →
        (s.rd (BLD_PINFO_PC p) < s.rd (BLD_PRG_A_START p) ∨ s.rd (BLD_PRG_A_START p) + max 1 (s.rd (BLD_PRG_B_LEN p)) ≤ s.rd (BLD_PINFO_PC p) → faulted t p 2) ∧
        (s.rd (BLD_PRG_A_START p) ≤ s.rd (BLD_PINFO_PC p) → s.rd (BLD_PINFO_PC p) < s.rd (BLD_PRG_A_START p) + max 1 (s.rd (BLD_PRG_B_LEN p)) →
          (2 ≤ s.wordErr 2 (s.rd (BLD_PINFO_PC p)) → faulted t p 4) ∧
          (s.wordErr 2 (s.rd (BLD_PINFO_PC p)) = 0 →
            let c := bits (s.prgWord (s.rd (BLD_PINFO_PC p))) 56 8
            (opcKnown c = false → faulted t p 1) ∧ (opcKnown c = true → c ≠ o → t = s)))))

/-- R327, R328, R331: NOP only advances the PC; END ends the program in DONE with PDONE and frees its context; JMP, BNZ and LOOP move the PC; LDI,
ADDI, ALU and GETT write a register, modulo 2^64; a reserved FN faults with 1. -/
def Obligations.ProgramControl : Prop :=
  ∀ (s : State) (p w : Nat),
    (Runs s p w 0x00 → s.Answers (.nop p) (fun t => s.OnlyWords t [progKey p + 4] ∧ t.rd (BLD_PINFO_PC p) = pcNext s p ∧ t.pst p = 2)) ∧
    (Runs s p w 0x01 → s.Answers (.endProg p) (fun t => t.pst p = 4 ∧ t.rd BLD_PEVT_PDONE = 1 ∧ (t.px p).ctx = none)) ∧
    (Runs s p w 0x02 → s.Answers (.jmp p) (fun t => s.OnlyWords t [progKey p + 4] ∧ t.rd (BLD_PINFO_PC p) = bits w 0 14 ∧ t.pst p = 2)) ∧
    (Runs s p w 0x03 → s.Answers (.bnz p) (fun t => s.OnlyWords t [progKey p + 4] ∧ t.pst p = 2 ∧
      t.rd (BLD_PINFO_PC p) = if s.gA p w = 0 then pcNext s p else bits w 0 14)) ∧
    (Runs s p w 0x04 → s.Answers (.loop p) (fun t => t.gReg p (fA w) = (s.gA p w + (2 ^ 64 - 1)) % 2 ^ 64 ∧ t.pst p = 2 ∧
      t.rd (BLD_PINFO_PC p) = if s.gA p w = 1 then pcNext s p else bits w 0 14)) ∧
    (Runs s p w 0x05 → s.Answers (.ldi p) (fun t => t.gReg p (fD w) = sext44 w ∧ t.rd (BLD_PINFO_PC p) = pcNext s p ∧
      s.OnlyWords t [progKey p + 4, (BLD_PG_LO p (fD w)).key, (BLD_PG_HI p (fD w)).key])) ∧
    (Runs s p w 0x06 → s.Answers (.addi p) (fun t => t.gReg p (fD w) = (s.gA p w + sext44 w) % 2 ^ 64 ∧ t.rd (BLD_PINFO_PC p) = pcNext s p ∧
      s.OnlyWords t [progKey p + 4, (BLD_PG_LO p (fD w)).key, (BLD_PG_HI p (fD w)).key])) ∧
    (Runs s p w 0x07 → s.Answers (.alu p) (fun t => match aluFn (bits w 0 4) (s.gA p w) (s.gB p w) with
      | some v => t.gReg p (fD w) = v % 2 ^ 64 ∧ t.rd (BLD_PINFO_PC p) = pcNext s p ∧ t.pst p = 2
      | none => faulted t p 1)) ∧
    (Runs s p w 0x08 → s.Answers (.gett p) (fun t => t.gReg p (fD w) = (s.fnow >>> 40) % 2 ^ 64 ∧ t.rd (BLD_PINFO_PC p) = pcNext s p ∧ t.pst p = 2))

/-- R331, R339 to R343: WAITA passes an instant already reached and else waits, with its context when the instant is within PRE; JOIN, RECV and WTAC wait without one; DLN
and NODL set the deadline and clear it; RALN sets the realign point or clears it; CONTEXT_LOAD gives the lowest free context to the next program; a quantum that is used
up gives the context back; a wake and a missed deadline end their waits. -/
def Obligations.ProgramWaits : Prop :=
  ∀ (s : State) (p w : Nat),
    (Runs s p w 0x10 → s.Answers (.waita p) (fun t => t.rd (BLD_PINFO_PC p) = pcNext s p ∧
      let i := (s.gA p w + sext44 w) % 2 ^ 64
      if s.reached i then t.pst p = 2 else t.pst p = 3 ∧ t.rd (BLD_PINFO_WAIT p) = 1 ∧ (t.px p).inst = i ∧
        (t.px p).ctx = if s.withinPre i then (s.px p).ctx else none)) ∧
    (Runs s p w 0x11 → s.Answers (.join p) (fun t => t.rd (BLD_PINFO_PC p) = pcNext s p ∧ t.pst p = 3 ∧ t.rd (BLD_PINFO_WAIT p) = 2 ∧
      (t.px p).obj = bits w 0 8 ∧ (t.px p).d = fD w ∧ (t.px p).ctx = none)) ∧
    (Runs s p w 0x12 → s.Answers (.dln p) (fun t => t.deadline p = (s.gA p w + sext44 w) % 2 ^ 64 ∧ t.rd (BLD_PINFO_DLV p) = 1 ∧ t.rd (BLD_PINFO_PC p) = pcNext s p ∧ t.pst p = 2)) ∧
    (Runs s p w 0x13 → s.Answers (.nodl p) (fun t => s.OnlyWords t [progKey p + 4] ∧ t.rd (BLD_PINFO_DLV p) = 0 ∧ t.rd (BLD_PINFO_PC p) = pcNext s p)) ∧
    (Runs s p w 0x14 → s.Answers (.raln p) (fun t => t.rd (BLD_PINFO_PC p) = pcNext s p ∧
      if bitAt w 24 then t.rd (BLD_PINFO_RLV p) = 0
      else t.rd (BLD_PINFO_RLV p) = 1 ∧ t.rd (BLD_PINFO_RBAR p) = bits w 0 8 ∧ t.rd (BLD_PRLN_TARGET p) = bits w 8 14 ∧ t.rd (BLD_PRLN_REG p) = fD w)) ∧
    (Runs s p w 0x31 → s.Answers (.wtac p) (fun t => t.rd (BLD_PINFO_PC p) = pcNext s p ∧
      if s.unsettled p then t.pst p = 3 ∧ t.rd (BLD_PINFO_WAIT p) = 7 ∧ (t.px p).d = fD w ∧ (t.px p).ctx = none
      else t.gReg p (fD w) = (s.px p).refused % 2 ^ 64 ∧ (t.px p).refused = 0 ∧ t.pst p = 2)) ∧
    (s.bReset = false →
      s.Answers (.contextLoad []) (fun t => (s.nextProg = none ∨ (∀ c, c < 256 → s.on (BLD_CTX_VALID c) = true) → t = s) ∧
        ∀ q c, s.nextProg = some q → c < 256 → s.on (BLD_CTX_VALID c) = false → (∀ b, b < c → s.on (BLD_CTX_VALID b) = true) →
          (t.px q).ctx = some c ∧ t.rd (BLD_CTX_VALID c) = 1 ∧ t.rd (BLD_CTX_PROG c) = q ∧ t.pst q = (if s.pst q = 1 then 2 else s.pst q) ∧
          ∀ i k, s.pst q = 1 → (s.px q).woke = some (i, k) → k + 1 < s.kclk → t.rd BLD_PEVT_CTXLATE = 1) ∧
      (p < 4096 →
        s.Answers (.quantumExpiry p) (fun t =>
          if s.pst p = 2 ∧ 16 * max 1 (s.rd BLD_PCTL_QNT) ≤ (s.px p).issued ∧ s.nextProg.isSome = true ∧
            ((s.px p).wakeK.all fun k => k + s.pre < s.kclk) = true ∧ ((List.range 256).all fun c => s.on (BLD_CTX_VALID c)) = true
          then t.pst p = 1 ∧ (t.px p).ctx = none ∧ (t.px p).since = s.kclk else t = s) ∧
        (s.dueKeys = [] → s.pace.opp = none → s.Answers (.programWake p) (fun t => if s.progWaits p 1 = true ∧ s.reached (s.px p).inst = true then
          (s.px p).stopping = false → t.pst p = (if (s.px p).ctx.isSome then 2 else 1) else t = s)) ∧
        s.Answers (.deadlineMiss p) (fun t => if s.progWaits p 3 = true ∧ s.on (BLD_PINFO_DLV p) = true ∧ s.reached (s.deadline p) = true then
          t.rd BLD_PEVT_DLMISS = 1 ∧ t.rd (BLD_PINFO_DLV p) = 0 ∧ t.pst p = 3 ∧
            (s.on (BLD_PINFO_RLV p) = true → t.rd (BLD_PINFO_WAIT p) = 9 ∧ (t.px p).obj = s.rd (BLD_PINFO_RBAR p) ∧ (t.px p).ctx = none) ∧
            (s.on (BLD_PINFO_RLV p) = false → t.rd (BLD_PINFO_WAIT p) = 3)
          else t = s)))

/-- R306 to R308, R325, R330, R331, R333 to R336: RDCFG writes a field of a FREE descriptor; RDCMD, EMIT and CVT give Blend a command and get its result, and wait while the
descriptor is in INIT or EMIT (an emission also while the lanes are held); RECV and RDST read a descriptor, and a RECV after its deadline misses at once; SEND reads its payload through a
retention channel, or is refused by a template without VALID; PTRG arms an entry of Pour; HINT gives a phase hint;
SIG signals. A descriptor or template of another partition faults with 3, a reserved selector or command with 1. -/
def Obligations.ProgramUnits : Prop :=
  ∀ (s : State) (p w : Nat),
    let d := s.descOf p w 0
    let k0 := s.gA p w % 2 ^ 18
    let n := bits w 24 18
    let ofmt := s.rd (BLD_RD_CFG_OFMT d)
    (Runs s p w 0x20 → s.Answers (.rdcfg p) (fun t => (6 ≤ bits w 8 4 → faulted t p 1) ∧ (bits w 8 4 < 6 → s.foreignD p d = true → faulted t p 3) ∧
      (bits w 8 4 < 6 → s.foreignD p d = false → t.rd (BLD_PINFO_PC p) = pcNext s p ∧ (s.dst d ≠ 0 → t.rd BLD_EVT_DREJ = 1 ∧ t.dst d = s.dst d) ∧ (s.dst d = 0 → (∀ k ∈ cfgKeys d (bits w 8 4), s.outranked k p = false) →
        (bits w 8 4 = 0 → t.rd (BLD_RD_CFG_PART d) = bits (s.gA p w) 0 8 ∧ t.rd (BLD_RD_CFG_OP d) = bits (s.gA p w) 12 3 ∧ t.rd (BLD_RD_CFG_IFMT d) = bits (s.gA p w) 16 4 ∧
          t.rd (BLD_RD_CFG_OFMT d) = bits (s.gA p w) 20 4 ∧ t.rd (BLD_RD_CFG_RND d) = bits (s.gA p w) 24 2 ∧ t.rd (BLD_RD_CFG_ACC d) = bits (s.gA p w) 26 1 ∧
          t.rd (BLD_RD_CFG_SAT d) = bits (s.gA p w) 27 1 ∧ t.dst d = 0) ∧
        (bits w 8 4 = 1 → t.rd (BLD_RD_BASE_BASE d) = s.gA p w % 2 ^ 18) ∧ (bits w 8 4 = 2 → t.rd (BLD_RD_COUNT_COUNT d) = s.gA p w % 2 ^ 18) ∧
        (bits w 8 4 = 3 → t.rd (BLD_RD_EXPECT d) = s.gA p w % 2 ^ 32) ∧ (bits w 8 4 = 4 → t.rd (BLD_RD_SEED d) = s.gA p w % 2 ^ 32) ∧
        (bits w 8 4 = 5 → t.rd (BLD_RD_SCYC_LO d) = s.gA p w % 2 ^ 32 ∧ t.rd (BLD_RD_SCYC_HI_SCYC d) = bits (s.gA p w) 32 16))))) ∧
    (Runs s p w 0x21 → s.Answers (.rdcmd p) (fun t => (bits w 8 4 = 0 ∨ 3 < bits w 8 4 → faulted t p 1) ∧
      (1 ≤ bits w 8 4 → bits w 8 4 ≤ 3 → (s.foreignD p d = true → faulted t p 3) ∧ (s.foreignD p d = false →
        (s.dst d = 1 ∨ s.dst d = 4 → t.pst p = 3 ∧ t.rd (BLD_PINFO_WAIT p) = 4 ∧ t.blend.cmds = s.blend.cmds ++
          [{ op := bits w 8 4, rd := d, prog := some p, k0 := 0, n := 0, to_ := 0, clear := false, free := false, force := false }]) ∧
        (s.dst d ≠ 1 → s.dst d ≠ 4 → s.blend.cmds = [] → (s.px p).stopping = false → t.pst p = (if (s.px p).ctx.isSome then 2 else 1) ∧
          (bits w 8 4 = 1 → t.gReg p (fD w) = s.armReason d ∧ (s.armReason d = 0 → t.dst d = 1) ∧ (s.armReason d ≠ 0 → t.rd BLD_EVT_DREJ = 1 ∧ t.rd BLD_DSTAT_REASON = s.armReason d)) ∧
          (bits w 8 4 = 2 → if s.dst d = 2 ∨ s.dst d = 3 then t.dst d = 1 ∧ t.gReg p (fD w) = 0 else t.rd BLD_EVT_DREJ = 1 ∧ t.gReg p (fD w) = 1) ∧
          (bits w 8 4 = 3 → t.dst d = 0 ∧ t.gReg p (fD w) = 0)))))) ∧
    (Runs s p w 0x22 → s.Answers (.recv p) (fun t => (s.foreignD p d = true → faulted t p 3) ∧ (s.foreignD p d = false → t.rd (BLD_PINFO_PC p) = pcNext s p ∧
      (s.recvLate p (s.dst d) = true → t.rd BLD_PEVT_DLMISS = 1 ∧ t.rd (BLD_PINFO_DLV p) = 0) ∧
      if s.recvLate p (s.dst d) = true ∧ s.on (BLD_PINFO_RLV p) = true then t.pst p = 3 ∧ t.rd (BLD_PINFO_WAIT p) = 9 ∧ (t.px p).obj = s.rd (BLD_PINFO_RBAR p) ∧ (t.px p).ctx = none
      else if s.dst d = 3 ∨ s.dst d = 5 ∨ s.dst d = 0 then t.gReg p (fD w) = s.dst d ∧ t.pst p = 2
      else t.pst p = 3 ∧ t.rd (BLD_PINFO_WAIT p) = 3 ∧ (t.px p).obj = d ∧ (t.px p).ctx = none))) ∧
    (Runs s p w 0x23 → s.Answers (.rdst p) (fun t => (s.foreignD p d = true → faulted t p 3) ∧ (s.foreignD p d = false → t.gReg p (fD w) =
      s.rd (BLD_RD_RECV d) + 2 ^ 32 * s.dst d + 2 ^ 35 * s.rd (BLD_RD_SCYC_HI_ERRC d) + 2 ^ 37 * s.rd (BLD_RD_SCYC_HI_PARTIAL d) ∧ t.rd (BLD_PINFO_PC p) = pcNext s p))) ∧
    (Runs s p w 0x24 → let to_ := (bits w 8 10 + (if bitAt w 18 then s.gB p w % 256 else 0)) % 1024
      s.Answers (.emit p) (fun t => (s.foreignD p d = true ∨ s.foreignT p to_ = true → faulted t p 3) ∧ (s.foreignD p d = false → s.foreignT p to_ = false →
        (s.dst d = 1 ∨ s.dst d = 4 ∨ s.on BLD_STATUS_HOLD = true → t.pst p = 3 ∧ t.rd (BLD_PINFO_WAIT p) = 4 ∧ t.dst d = s.dst d ∧ t.blend.cmds.length = s.blend.cmds.length + 1) ∧
        (s.on BLD_STATUS_HOLD = false → s.blend.cmds = [] →
        (s.dst d = 3 → k0 + n ≤ s.rd (BLD_RD_COUNT_COUNT d) → s.on (BLD_TPL_A_VALID to_) = true → s.ecc.words = [] →
          t.dst d = 4 ∧ t.pst p = 3 ∧ t.rd BLD_EMIT_CNT = (s.rd BLD_EMIT_CNT + n) % 2 ^ 32 ∧ t.dlv.waiting = s.dlv.waiting ++ (s.emitTiles d k0 n).map fun x =>
            (TileFrom.prog p, s.tplTile to_ x.1 (x.2.length * (fmtBits ofmt / 8)) (emitBytes ofmt x.2))) ∧
        (s.dst d = 3 → s.rd (BLD_RD_COUNT_COUNT d) < k0 + n → t.gReg p (fD w) = 2 ∧ t.dst d = 3) ∧
        (s.dst d = 0 ∨ s.dst d = 5 → t.gReg p (fD w) = 1 ∧ t.dst d = s.dst d))))) ∧
    (Runs s p w 0x25 → let e := s.descOf p w 8
      s.Answers (.cvt p) (fun t => (s.foreignD p d = true ∨ s.foreignD p e = true → faulted t p 3) ∧ (s.foreignD p d = false → s.foreignD p e = false →
        (s.dst d = 1 ∨ s.dst d = 4 ∨ s.on BLD_STATUS_HOLD = true → t.pst p = 3 ∧ t.rd (BLD_PINFO_WAIT p) = 4 ∧ t.dst d = s.dst d ∧ t.blend.cmds.length = s.blend.cmds.length + 1) ∧
        (s.on BLD_STATUS_HOLD = false → s.blend.cmds = [] →
        (s.dst d = 3 → k0 + n ≤ s.rd (BLD_RD_COUNT_COUNT d) → e ≠ d → s.rd (BLD_RD_CFG_IFMT e) = ofmt → s.ecc.words = [] →
          t.dst d = 4 ∧ t.pst p = 3 ∧ t.blend.offered = s.blend.offered ++ (s.emitTiles d k0 n).map fun x =>
            .cvt d e x.1 (s.rd (BLD_RD_CFG_PART d)) (emitBytes ofmt x.2)) ∧
        (s.dst d = 3 → k0 + n ≤ s.rd (BLD_RD_COUNT_COUNT d) → e = d → t.gReg p (fD w) = 3 ∧ t.dst d = 3))))) ∧
    (Runs s p w 0x30 → s.Answers (.send p) (fun t => (s.foreignT p (bits w 8 10) = true → faulted t p 3) ∧ (s.foreignT p (bits w 8 10) = false →
      if bits w 20 13 = 0 ∨ 4096 < bits w 20 13 then t.dlv.ret = s.dlv.ret ∧ (t.px p).ctx = none ∧
        if s.on (BLD_TPL_A_VALID (bits w 8 10)) = true then t.pst p = 3 ∧ t.rd (BLD_PINFO_WAIT p) = 6 ∧ t.dlv.waiting.length = s.dlv.waiting.length + 1
        else t.dlv.waiting = s.dlv.waiting ∧ t.rd DLV_EVT_REFUSE = 1 ∧ ((s.px p).stopping = false → t.gReg p (fD w) = 3 ∧ t.pst p = 1)
      else t.pst p = 3 ∧ t.rd (BLD_PINFO_WAIT p) = 6 ∧ (t.px p).ctx = none ∧ t.dlv.waiting = s.dlv.waiting ∧ (s.dlv.ret.length < 4096 → t.dlv.ret = s.dlv.ret ++
        [{ rid := s.nextRid, use := .send p, write := false, addr := s.gA p w % 2 ^ 52, bytes := bits w 20 13, data := [] }])))) ∧
    (Runs s p w 0x40 → s.Answers (.ptrg p) (fun t => (s.pour.arming.isSome = true → t.pst p = 3 ∧ t.rd (BLD_PINFO_WAIT p) = 5 ∧ t.pour = s.pour) ∧
      (s.pour.arming = none → (∀ q ∈ s.programs, q ≠ p → s.progWaits q 5 = false) →
        (s.on POR_CTL_EN = false → t.gReg p (fD w) = 8 ∧ t.rd POR_EVT_ARMREJ = 1) ∧
        (s.on POR_CTL_EN = true → s.armedAt (bits w 0 14) = none → t.rd POR_ASTAT_BUSY = 1 ∧
          t.pour.arming = some { entry := bits w 0 14, prog := some p, ovr := if bitAt w 16 then some (s.gA p w) else none } ∧
          (s.dlv.ret.length < 4096 → t.dlv.ret = s.dlv.ret ++ [{ rid := s.nextRid, use := .armEntry (bits w 0 14), write := false, addr := s.schedAddr (bits w 0 14), bytes := 32, data := [] }]))))) ∧
    (Runs s p w 0x41 → s.Answers (.hint p) (fun t => t.rd BLD_PHINT_CNT = (s.rd BLD_PHINT_CNT + 1) % 2 ^ 32 ∧ t.rd (BLD_PINFO_PC p) = pcNext s p ∧
      t.pace = (s.hint (bits w 0 16) (bits w 16 8) (s.gA p w)).pace)) ∧
    (Runs s p w 0x42 → s.Answers (.sig p) (fun t => t.rd BLD_PSIGV_PROG = p ∧ t.rd BLD_PSIGV_VALUE = bits w 0 16 ∧ t.rd BLD_PEVT_PSIG = 1 ∧ t.rd (BLD_PINFO_PC p) = pcNext s p))

/-! ## The side-band (chapter 15) -/

/-- R412: a target without a dynamic address takes one and drops its Hot-Join; one with an address can be given another or lose it; interrupts and Hot-Joins are enabled and
disabled, and a waiting message raises an interrupt; only a target with an address answers a GET, GETPID with the manufacturer and part codes around 32 bits that are free (and
with the byte order of assumption 23, a presumption), GETMWL and GETMRL with 69, GETSTATUS with a free value; SETMWL and SETMRL take limits from 69 on; 1 ms after power-on a
target without an address raises a Hot-Join. -/
def Obligations.SideBandTarget : Prop :=
  ∀ s : State,
    (∀ da : Nat, da < 128 →
      s.Answers (.entdaa da) (fun t => if s.mgmt.i3c.dyn = none then t = { s with mgmt := { s.mgmt with i3c := { s.mgmt.i3c with dyn := some da, hotJoin := false } } } else t = s) ∧
      s.Answers (.setnewda da) (fun t => if s.mgmt.i3c.dyn = none then t = s else t = { s with mgmt := { s.mgmt with i3c := { s.mgmt.i3c with dyn := some da } } })) ∧
    s.Answers .rstdaa (fun t => t = { s with mgmt := { s.mgmt with i3c := { s.mgmt.i3c with dyn := none } } }) ∧
    (∀ i h : Bool,
      s.Answers (.enec i h) (fun t => t = { s with mgmt := t.mgmt } ∧ t.mgmt.i3c.ibiEn = (s.mgmt.i3c.ibiEn || i) ∧ t.mgmt.i3c.hjEn = (s.mgmt.i3c.hjEn || h) ∧
        (i = true → s.mgmt.out ≠ [] → t.mgmt.i3c.ibi = true)) ∧
      s.Answers (.disec i h) (fun t => t = { s with mgmt := t.mgmt } ∧ t.mgmt.i3c.ibiEn = (s.mgmt.i3c.ibiEn && !i) ∧ t.mgmt.i3c.hjEn = (s.mgmt.i3c.hjEn && !h))) ∧
    (∀ c ∈ ([.getpid, .getbcr, .getdcr, .getmwl, .getmrl] : List Instr), s.mgmt.i3c.dyn = none → s.Answers c (fun t => t = s)) ∧
    (s.mgmt.i3c.dyn.isSome = true →
      s.Answers .getpid (fun t => t = { s with mgmt := t.mgmt } ∧ ∃ v, v < 2 ^ 32 ∧ t.mgmt.i3c.rdata = beBytes 6 (0x7A11 * 2 ^ 33 + 2 ^ 32 + v)) ∧
      s.Answers .getbcr (fun t => t = { s with mgmt := t.mgmt } ∧ t.mgmt.i3c.rdata = [0x06]) ∧
      s.Answers .getdcr (fun t => t = { s with mgmt := t.mgmt } ∧ t.mgmt.i3c.rdata = [0x00]) ∧
      s.Answers .getmwl (fun t => t = { s with mgmt := t.mgmt } ∧ t.mgmt.i3c.rdata = [0, 69]) ∧
      s.Answers .getmrl (fun t => t = { s with mgmt := t.mgmt } ∧ t.mgmt.i3c.rdata = [0, 69])) ∧
    s.Answers .getstatus (fun t => t.word = s.word ∧ t.mgmt.out = s.mgmt.out ∧ (s.mgmt.i3c.dyn.isSome = true → t.mgmt.i3c.rdata.length = 2)) ∧
    (∀ v : Nat, v < 65536 →
      s.Answers (.setmwl v) (fun t => if v < 69 then t = s else t = { s with mgmt := { s.mgmt with i3c := { s.mgmt.i3c with mwl := v } } }) ∧
      s.Answers (.setmrl v) (fun t => if v < 69 then t = s else t = { s with mgmt := { s.mgmt with i3c := { s.mgmt.i3c with mrl := v } } })) ∧
    s.Answers .hotJoinTimer (fun t => if s.mgmt.i3c.dyn = none ∧ s.mgmt.i3c.hjEn = true then
      t = { s with mgmt := { s.mgmt with i3c := { s.mgmt.i3c with hotJoin := true } } } else t = s)

/-- The next message that Kalvon-B has for its MCTP reader is a response with a code and a body. -/
def answered (s t : State) (eid cmd code : Nat) (body : List Nat) : Prop :=
  t.mgmt.out = s.mgmt.out ++ [{ eid := eid, cmd := cmd, code := some code, body := body }] ∧ t.mgmt.i3c.ibi = (s.mgmt.i3c.ibi || s.mgmt.i3c.ibiEn)

/-- R413 to R417 (the bytes of the answers to control commands are the presumption of assumption 23): with no request waiting, SET_ENDPOINT_ID takes the EID and remembers its sender; the other
control commands are answered; FENCE sets fence bits and UNFENCE clears them; RESET with its key asks for a full reset, which the delay then requests; STATUS reports; and all of this
also while Kalvon-B is in reset. -/
def Obligations.SideBandControl : Prop :=
  ∀ (s : State) (from_ : Nat), s.mgmt.wait = none →
    (∀ op eid : Nat, s.Answers (.setEndpointId from_ op eid) (fun t => t = { s with mgmt := t.mgmt } ∧ t.mgmt.eid = eid % 256 ∧ t.mgmt.ctrlEid = some from_ ∧
      answered s t from_ 0x101 0 [0, eid % 256, 0])) ∧
    s.Answers (.getEndpointId from_) (fun t => t = { s with mgmt := t.mgmt } ∧ answered s t from_ 0x102 0 [s.mgmt.eid, 0, 0]) ∧
    s.Answers (.getEndpointUuid from_) (fun t => t = { s with mgmt := t.mgmt } ∧
      answered s t from_ 0x103 0 (bytesOf 16 (Config.uuid (s.rd IMG_SERIAL_LO + s.rd IMG_SERIAL_HI <<< 32) s.pid))) ∧
    s.Answers (.getMctpVersionSupport from_) (fun t => t = { s with mgmt := t.mgmt } ∧ answered s t from_ 0x104 0 [1, 0xF1, 0xF3, 0xFF, 0x00]) ∧
    s.Answers (.getMessageTypeSupport from_) (fun t => t = { s with mgmt := t.mgmt } ∧ answered s t from_ 0x105 0 [2, 0x00, 0x7F]) ∧
    (∀ v : Nat, v < 4 →
      s.Answers (.sbFence from_ [v]) (fun t => s.OnlyWords t [GLB_FENCE_HOST.key, GLB_FENCE_TRAFFIC.key] ∧ t.fenceBits = s.fenceBits ||| v ∧ answered s t from_ 3 0 [t.fenceBits]) ∧
      s.Answers (.sbUnfence from_ [v]) (fun t => s.OnlyWords t [GLB_FENCE_HOST.key, GLB_FENCE_TRAFFIC.key] ∧ t.fenceBits = s.fenceBits &&& (3 ^^^ v) ∧ answered s t from_ 4 0 [t.fenceBits])) ∧
    (∀ v : Nat, 4 ≤ v → s.Answers (.sbFence from_ [v]) (fun t => t.word = s.word ∧ answered s t from_ 3 4 [])) ∧
    s.Answers (.reset from_ [0xA5, 0xC3]) (fun t => t.word = s.word ∧ t.mgmt.resetDue = true ∧ answered s t from_ 5 0 []) ∧
    (∀ a b : Nat, a < 256 → b < 256 → ¬(a = 0xA5 ∧ b = 0xC3) → s.Answers (.reset from_ [a, b]) (fun t => t.mgmt.resetDue = s.mgmt.resetDue ∧ answered s t from_ 5 4 [])) ∧
    s.Answers .sbResetDelay (fun t => if s.mgmt.resetDue = true then t.mgmt.resetDue = false ∧ t.boot.causes = s.boot.causes ||| 2 ^ 4 ∧
      (s.bReset = false → t.pins.rstReqN = false ∧ t.boot.reqPending = true) else t = s) ∧
    s.Answers (.status from_ []) (fun t => t = { s with mgmt := t.mgmt } ∧ answered s t from_ 6 0 (bytesOf 4 (s.word IMG_BOOT_STEP.key).toNat ++ bytesOf 4 (s.word 0x1100).toNat ++
      [s.fenceBits] ++ bytesOf 2 s.alarmsPending.length ++ bytesOf 2 s.inc))

/-- R411, R413 to R416, R423: a register of Kalvon-B is read or written as R406 to R411 say, one of Kalvon-T is reached across the crossing, or is unavailable; a request in
the wrong form is answered with 0x04; ALARM_READ reports an entry and ALARM_ACK clears its pending bit; LOG_READ reads a record that memory still holds; up to four requests are
held and a fifth is answered with busy, and a fence held so is in force at once; in reset what the main domain holds is unavailable; the note timer sends a note that is owed; the bucket refills up to its limit. -/
def Obligations.SideBandRequests : Prop :=
  ∀ (s : State) (from_ : Nat),
    (s.mgmt.wait = none → s.bReset = false →
      (∀ off : Nat, off < 2 ^ 20 → off % 4 = 0 →
        s.Answers (.regRead from_ (bytesOf 4 off)) (fun t => t.word = (s.regRead .side off).2.word ∧ answered (s.regRead .side off).2 t from_ 1 0 (bytesOf 4 (s.regRead .side off).1)) ∧
        (∀ v : Nat, v < 2 ^ 32 → s.Answers (.regWrite from_ (bytesOf 4 off ++ bytesOf 4 v)) (fun t => t.word = (s.regWrite .side off v).1.word ∧
          answered (s.regWrite .side off v).1 t from_ 2 (if (s.regWrite .side off v).2 = 1 then 1 else if (s.regWrite .side off v).2 = 3 then 2 else 0) [])) ∧
        (s.noTunnel = true → s.Answers (.regRead from_ (bytesOf 4 (2 ^ 31 + off))) (fun t => answered s t from_ 1 3 [])) ∧
        (s.noTunnel = false → s.Answers (.regRead from_ (bytesOf 4 (2 ^ 31 + off))) (fun t => t.word = s.word ∧ t.mgmt.out = s.mgmt.out ∧ t.mgmt.wait = some { eid := from_, cmd := 1 } ∧
          t.xing.tunnel = s.xing.tunnel ++ [{ fromB := true, src := 1, write := false }] ∧
          t.bond.xBT = s.bond.xBT ++ [.msg 3 (mkMsg [(0, 8, 0x40), (8, 2, 1), (16, 20, off), (36, 32, 0)])]))) ∧
      s.Answers (.regRead from_ []) (fun t => answered s t from_ 1 4 []) ∧ s.Answers (.regWrite from_ (bytesOf 4 0)) (fun t => t.word = s.word ∧ answered s t from_ 2 4 []) ∧
      (∀ e : Nat, e < 320 →
        s.Answers (.alarmRead from_ (bytesOf 2 e)) (fun t => t.word = s.word ∧ answered s t from_ 7 0 (bytesOf 4 (s.rd (TEL_ACOUNT e)) ++ bytesOf 4 (s.rd (TEL_AARG e)) ++
          bytesOf 4 (s.rd (TEL_AFIRST e)) ++ bytesOf 4 (s.rd (TEL_ALAST e)) ++ [if e ∈ s.alarmsPending then 1 else 0])) ∧
        s.Answers (.alarmAck from_ (bytesOf 2 e)) (fun t => e ∉ t.alarmsPending ∧ (∀ f, f ≠ e → (f ∈ t.alarmsPending ↔ f ∈ s.alarmsPending)) ∧ answered s t from_ 8 0 [])) ∧
      (∀ e : Nat, 320 ≤ e → e < 65536 → s.Answers (.alarmRead from_ (bytesOf 2 e)) (fun t => answered s t from_ 7 4 []) ∧
        s.Answers (.alarmAck from_ (bytesOf 2 e)) (fun t => t.word = s.word ∧ answered s t from_ 8 4 [])) ∧
      (∀ q : Nat, q < 2 ^ 32 → s.Answers (.logRead from_ (bytesOf 4 q)) (fun t => t.word = s.word ∧
        let d := (s.rd TEL_LSEQ + 2 ^ 32 - q) % 2 ^ 32
        if d = 0 ∨ 131072 < d ∨ (s.mgmt.logQ.any fun r => r.rseq == q) = true then answered s t from_ 9 6 []
        else t.mgmt.out = s.mgmt.out ∧ t.mgmt.wait = some { eid := from_, cmd := 9 } ∧
          (s.dlv.ret.length < 4096 → t.dlv.ret = s.dlv.ret ++ [{ rid := s.nextRid, use := .logRead from_ q, write := false, addr := s.logAddr q, bytes := 32, data := [] }])))) ∧
    (s.mgmt.wait = none → s.bReset = true → ∀ bs : List Nat, ∀ e ∈ ([(.regWrite from_ bs, 2), (.alarmRead from_ bs, 7), (.alarmAck from_ bs, 8), (.logRead from_ bs, 9)] : List (Instr × Nat)),
      s.Answers e.1 (fun t => t.word = s.word ∧ answered s t from_ e.2 3 [])) ∧
    (s.mgmt.wait.isSome = true → ∀ bs : List Nat, ∀ e ∈ ([(.regRead from_ bs, 1), (.regWrite from_ bs, 2), (.reset from_ bs, 5),
        (.status from_ bs, 6), (.alarmRead from_ bs, 7), (.alarmAck from_ bs, 8), (.logRead from_ bs, 9)] : List (Instr × Nat)),
      s.Answers e.1 (fun t => if s.mgmt.queued.length < 3 then t = { s with mgmt := { s.mgmt with queued := s.mgmt.queued ++ [(from_, e.2, bs)] } }
        else t.word = s.word ∧ t.mgmt.queued = s.mgmt.queued ∧ answered s t from_ e.2 5 [])) ∧
    (s.mgmt.wait.isSome = true → ∀ v : Nat, v < 4 →
      s.Answers (.sbFence from_ [v]) (fun t => if s.mgmt.queued.length < 3 then t.fenceBits = s.fenceBits ||| v ∧ t.mgmt.queued = s.mgmt.queued ++ [(from_, 3, [v])]
        else t.word = s.word ∧ answered s t from_ 3 5 []) ∧
      s.Answers (.sbUnfence from_ [v]) (fun t => if s.mgmt.queued.length < 3 then t.fenceBits = s.fenceBits &&& (3 ^^^ v) ∧ t.mgmt.queued = s.mgmt.queued ++ [(from_, 4, [v])]
        else t.word = s.word ∧ answered s t from_ 4 5 [])) ∧
    (s.bReset = false →
      s.Answers .alarmNoteTimer (fun t => t.word = s.word ∧ (s.mgmt.noteOwed = false → t = { s with mgmt := { s.mgmt with noteGap := false } }) ∧
        (∀ e, s.mgmt.noteOwed = true → s.on TEL_ACTL_NOTIFY = true → s.mgmt.ctrlEid = some e → t.mgmt.noteGap = true ∧ t.mgmt.noteOwed = false ∧
          t.mgmt.out = s.mgmt.out ++ [{ eid := e, cmd := 0x80, code := none, body := bytesOf 2 s.alarmsPending.length ++ bytesOf 2 (s.alarmsPending.headD 0x1FF) }])) ∧
      s.Answers .logBucketRefill (fun t => t = { s with mgmt := t.mgmt } ∧ t.mgmt.bucket = min (16 * max 1 (s.rd TEL_LCTL_LBURST)) (s.mgmt.bucket + s.rd TEL_LCTL_LRATE)))

/-! ## Registers (chapters 15 and 18) -/

/-- A write of `v` to an offset of Kalvon-B at its own port may take place: Kalvon-B is out of reset, the host fence is off, the host owns
the page, it is not locked, and no source that comes after the port has written a register in this KCLK (R406, R408 to R410). -/
def HostMay (s : State) (key v : Nat) : Prop :=
  s.bReset = false ∧ s.on GLB_FENCE_HOST = false ∧ s.mayWrite false key v = true ∧ s.pageLocked key = false ∧ ∀ h, s.outranked h 4097 = false

/-- The access at Kalvon-B's port has ended without an error. -/
def hostDone (t : State) : Prop := t.pins.bAck = true ∧ t.pins.bErr = false

/-- The last message to the MCTP reader answers a REG_WRITE with success. -/
def sideDone (t : State) (eid : Nat) : Prop := ∃ ms, t.mgmt.out = ms ++ [{ eid := eid, cmd := 2, code := some 0, body := [] }]

/-- R52, R54, R117, R406 to R411, R454: an access at Kalvon-B's port ends with the register's word, or with an error when the write is refused, and a refusal is recorded; at
Kalvon-T's port a register of Kalvon-T is local, one of Kalvon-B crosses, as does a write of a shared setting of Kalvon-T (R25) and a write refused there, which Kalvon-B records, and
without a tunnel there is an error; the test port reads and writes the registers of its half, and is aborted
by a reset; a half answers an access that crosses with REG_RSP, with STS 2 while traffic is held; REG_RSP ends the access that waits for it. -/
def Obligations.RegisterPorts : Prop :=
  ∀ s : State,
    (∀ key v : Nat, key < 2 ^ 20 → key % 4 = 0 → v < 2 ^ 32 → s.bReset = false →
      s.Answers (.registerRead .bPort key) (fun t => hostDone t ∧ t.pins.bRdata = (s.regRead .bPort key).1 ∧ t.word = (s.regRead .bPort key).2.word ∧
        (key < 0x40000 ∨ 0x80000 ≤ key → t.word = s.word)) ∧
      s.Answers (.registerWrite .bPort key v) (fun t => t.pins.bAck = true ∧ (t.pins.bErr = true ↔ (s.regWrite .bPort key v).2 ≠ 0) ∧ t.word = (s.regWrite .bPort key v).1.word ∧
        (s.mayWrite false key v = false ∨ s.on GLB_FENCE_HOST = true → t.pins.bErr = true ∧ t.rd OWN_EVT_HREFUSE = 1 ∧
          ∀ k, k < 0xF0000 ∨ 0xF3000 ≤ k → k ≠ EV_OWN_HREFUSE.key → k ≠ EV_OWN_HREFUSE.cnt.key → k ≠ 0x4110 → t.word k = s.word k))) ∧
    (∀ key v : Nat, key < 2 ^ 21 → key % 4 = 0 → v < 2 ^ 32 → s.tReset = false →
      s.Answers (.registerRead .tPort key) (fun t => (s.crossing 0 = true → t = s) ∧ (s.crossing 0 = false →
        (tBase + 0x10000 ≤ key → t.pins.tAck = true ∧ t.pins.tErr = true) ∧
        (tBase ≤ key → key < tBase + 0x10000 → t.pins.tAck = true ∧ t.pins.tErr = false ∧ t.pins.tRdata = (s.regRead .tPort key).1) ∧
        (key < tBase → if s.tunnelShut then t.pins.tErr = true else t.pins = s.pins ∧ t.xing.tunnel = s.xing.tunnel ++ [{ fromB := false, src := 0, write := false }] ∧
          t.bond.xTB = s.bond.xTB ++ [.msg 3 (mkMsg [(0, 8, 0x40), (8, 2, 0), (16, 20, key), (36, 32, 0)])]))) ∧
      s.Answers (.registerWrite .tPort key v) (fun t => (s.crossing 0 = true → t = s) ∧ (s.crossing 0 = false →
        (tBase + 0x10000 ≤ key → t.pins.tAck = true ∧ t.pins.tErr = true ∧ t.word = s.word) ∧
        (tBase ≤ key → key < tBase + 0x10000 → setsShared key (s.word key) v = true → s.tmode false = false →
          if s.tunnelShut then t.pins.tErr = true ∧ t.word = s.word
          else t.pins = s.pins ∧ t.word = s.word ∧ t.xing.tunnel = s.xing.tunnel ++ [{ fromB := false, src := 0, write := true, kt := true }] ∧
            t.bond.xTB = s.bond.xTB ++ [.msg 3 (mkMsg [(0, 8, 0x41), (8, 2, 0), (16, 20, key % tBase), (36, 32, v)])]) ∧
        (tBase ≤ key → key < tBase + 0x10000 → setsShared key (s.word key) v = false ∨ s.tmode false = true → let r := s.regWrite .tPort key v
          t.word = r.1.word ∧ if r.2 = 0 ∨ s.tunnelShut = true then t.pins.tAck = true ∧ (t.pins.tErr = true ↔ r.2 ≠ 0)
            else t.pins = r.1.pins ∧ t.xing.tunnel = r.1.xing.tunnel ++ [{ fromB := false, src := 0, write := true, kt := true, why := s.whyAtT false key v r.2 }]) ∧
        (key < tBase → s.tunnelShut = true → t.pins.tErr = true ∧ t.word = s.word) ∧
        (key < tBase → s.tunnelShut = false → t.word = s.word ∧
          t.bond.xTB = s.bond.xTB ++ [.msg 3 (mkMsg [(0, 8, 0x41), (8, 2, 0), (16, 20, key), (36, 32, v)])])))) ∧
    (∀ key v : Nat, key < 2 ^ 20 → key % 4 = 0 → v < 2 ^ 32 → s.test.tapB.regSts ≠ 2 → ∀ wr : Bool,
      s.Answers (.regacc true key wr v) (fun t =>
        (s.bReset = true → t.test.tapB.regSts = 3 ∧ t.word = s.word) ∧
        (s.bReset = false → wr = false → t.test.tapB.regSts = 0 ∧ t.test.tapB.regData = (s.regRead .debug key).1 ∧ t.word = (s.regRead .debug key).2.word) ∧
        (s.bReset = false → wr = true → t.word = (s.regWrite .debug key v).1.word ∧ t.test.tapB.regSts = if (s.regWrite .debug key v).2 = 0 then 0 else 1))) ∧
    (∀ m : XMsg,
      let off := xf m 35 16 / 4 * 4
      (s.bReset = false → xf m 9 8 = 0 → (∀ w ∈ s.xing.tunnel, w.fromB = false → w.kt = false ∧ w.why = 0) →
        let u := s.tookMsgB m
        let r0 := if s.held then (0, u) else u.regRead .tunnel off
        s.Answers (.regRd true m) (fun t => t.word = r0.2.word ∧ t.bond.xBT = r0.2.bond.xBT ++ [.msg 3 (regRsp 0 off r0.1 (if s.held then 2 else 0))]) ∧
        s.Answers (.regWr true m) (fun t => (s.held = true → t.word = s.word ∧ t.bond.xBT = s.bond.xBT ++ [.msg 3 (regRsp 0 off 0 2)]) ∧
          (s.held = false → let r := u.regWrite .tunnel off (xf m 67 36)
            t.word = r.1.word ∧ t.bond.xBT = r.1.bond.xBT ++ [.msg 3 (regRsp 0 off 0 r.2)]))) ∧
      (∀ why : Nat, s.bReset = false → s.held = false → xf m 9 8 = 0 → 1 ≤ why → why ≤ 3 → s.xing.tunnel = [⟨false, 0, true, true, why⟩] → s.Answers (.regWr true m) (fun t =>
        t.rd (if why = 2 then OWN_EVT_LOCKIGN else OWN_EVT_HREFUSE) = 1 ∧ t.xing.tunnel = s.xing.tunnel)) ∧
      (s.tReset = false → xf m 9 8 = 1 → s.tHold = false → off < 0x10000 →
        let u := s.tookMsgT m
        s.Answers (.regRd false m) (fun t => t.word = s.word ∧ t.bond.xTB = s.bond.xTB ++ [.msg 3 (regRsp 1 off (u.regRead .side (tBase + off)).1 0)]) ∧
        s.Answers (.regWr false m) (fun t => let r := u.regWrite .side (tBase + off) (xf m 67 36)
          t.word = r.1.word ∧ t.bond.xTB = r.1.bond.xTB ++ [.msg 3 (regRsp 1 off 0 r.2)])) ∧
      (s.tReset = false → xf m 9 8 = 0 → s.Answers (.regRsp false m) (fun t =>
        (s.crossing 0 = false → t.pins = s.pins) ∧
        (∀ w kt why, s.xing.tunnel = [⟨false, 0, w, kt, why⟩] → t.xing.tunnel = [] ∧ t.pins.tAck = true ∧ (t.pins.tErr = true ↔ xf m 69 68 ≠ 0) ∧ (xf m 69 68 = 0 → t.pins.tRdata = xf m 67 36)))) ∧
      (s.bReset = false → xf m 9 8 = 1 → ∀ e kt why, s.xing.tunnel = [⟨true, 1, false, kt, why⟩] → s.mgmt.wait = some ⟨e, 1⟩ → s.mgmt.queued = [] → xf m 69 68 = 0 →
        s.Answers (.regRsp true m) (fun t => t.xing.tunnel = [] ∧ t.mgmt.wait = none ∧ answered s t e 1 0 (bytesOf 4 (xf m 67 36)))))

/-- R18, R19, R21, R463, R465: at Kalvon-B's port a write to KB_BLD_PARG_LO, an RW register, is read back; one to KB_POR_SBASE_LO, an RO register, changes nothing; one to
KB_POR_EVT clears the W1C bits it names that hardware has not set in the same KCLK; one to a register of a link the build does not have, or to an unassigned offset, changes nothing, and both read 0; a WO
register reads 0. -/
def Obligations.RegisterFieldsByAccess : Prop :=
  ∀ s : State, s.bReset = false →
    (∀ v : Nat, v < 2 ^ 32 →
      (HostMay s 0xb3808 v → s.Answers (.registerWrite .bPort 0xb3808 v) (fun t => hostDone t ∧ t.rd BLD_PARG_LO = v ∧ s.OnlyWords t [0xb3808] ∧
        ((∀ e ∈ s.boot.shared, e.1 ≠ 0xb3808) → t.readNow .bPort 0xb3808 = v))) ∧
      (HostMay s 0xa0008 v → s.Answers (.registerWrite .bPort 0xa0008 v) (fun t => hostDone t ∧ t.word = s.word)) ∧
      (HostMay s 0xa0040 v → s.Answers (.registerWrite .bPort 0xa0040 v) (fun t => hostDone t ∧ s.OnlyWords t [0xa0040] ∧
        ∀ i, i < 8 → bitAt (t.word 0xa0040).toNat i = (bitAt (s.word 0xa0040).toNat i && (!bitAt v i || bitAt (s.freshBits 0xa0040) i)))) ∧
      (∀ n o : Nat, s.links ≤ n → n < 64 → o < 0x400 → o % 4 = 0 → HostMay s (0x10000 + 0x400 * n + o) v →
        s.Answers (.registerWrite .bPort (0x10000 + 0x400 * n + o) v) (fun t => hostDone t ∧ t.word = s.word)) ∧
      (∀ key : Nat, key < 2 ^ 20 → key % 4 = 0 → regRow key = none → HostMay s key v → s.Answers (.registerWrite .bPort key v) (fun t => hostDone t ∧ t.word = s.word))) ∧
    (∀ n o : Nat, s.links ≤ n → n < 64 → o < 0x400 → o % 4 = 0 → s.readNow .bPort (0x10000 + 0x400 * n + o) = 0) ∧
    (∀ key : Nat, regRow key = none → s.readNow .bPort key = 0) ∧
    s.readNow .bPort 0xb0010 = 0

/-- R151, R153, R154, R160, R164, R194, R456: EN = 1 brings a link in DOWN to HEALTH once boot has reached step 7 and a neighbour is expected; EN = 0 brings it to DOWN; RETRAIN in
ACTIVE has three RETRAIN commands sent before LOCK; a lower WMAX starts a width switch; ACCEPT takes the observed neighbour as the expected one; a key load waits for its epoch, or is refused when that is
too near; GO of KB_LNK_TST starts a loopback in DOWN, and is rejected otherwise. -/
def Obligations.LinkRegisterCommands : Prop :=
  ∀ (s : State) (n v : Nat), s.HasLink n → v < 2 ^ 32 → (∀ u, HostMay s (linkOff n 0x4) u) →
    s.Answers (.linkEn .bPort n v) (fun t => hostDone t ∧ t.rd (LNK_CTL_EN n) = 1 ∧
      (s.lst n = 0 → s.on (LNK_EXP_USED n) = true → s.on (LNK_TST_BUSY n) = false → 7 ≤ s.rd IMG_BOOT_STEP → t.lst n = 1)) ∧
    s.Answers (.linkDisable .bPort n v) (fun t => hostDone t ∧ t.rd (LNK_CTL_EN n) = 0 ∧ t.lst n = 0) ∧
    s.Answers (.retrainWrite .bPort n v) (fun t => hostDone t ∧ (bitAt v 0 = true → s.lst n = 5 → t.lst n = 5 ∧ ((s.lk n).retrainTx = 0 → (s.lk n).retrainWait = false → (t.lk n).retrainTx = 3))) ∧
    s.Answers (.wmaxWrite .bPort n v) (fun t => hostDone t ∧ t.rd (LNK_CTL_WMAX n) = bits v 1 2 ∧
      (s.lst n = 5 → bitAt v 0 = true → bitAt v 4 = false → s.rd (LNK_CTL_WMAX n) = 0 → bits v 1 2 = 1 → s.rd (LNK_STATUS_TXW n) = 0 → (mapped (s.rd (LNK_MAP_TXMAP n))).length = 4 →
        (t.lk n).txSw = some { width := 1, map := packMap ((mapped (s.rd (LNK_MAP_TXMAP n))).take 2), count := 24 })) ∧
    (HostMay s (linkOff n 0x2c) 1 → s.Answers (.nbrAccept .bPort n) (fun t => hostDone t ∧ t.rd (LNK_NBR_ACCEPT n) = 0 ∧
      (s.on (LNK_NBR_QID n) = true → t.rd (LNK_EXP_FNA n) = s.rd (LNK_OBS_FNA n) ∧ t.rd (LNK_EXP_LINK n) = s.rd (LNK_OBS_LINK n) ∧ t.rd (LNK_NBR_QID n) = 0) ∧
      (s.on (LNK_NBR_QID n) = false → t.rd (LNK_EXP_FNA n) = s.rd (LNK_EXP_FNA n) ∧ t.rd (LNK_EXP_LINK n) = s.rd (LNK_EXP_LINK n)))) ∧
    ((∀ u, HostMay s (linkOff n 0x300) u) → s.Answers (.laneLoopbackGo .bPort n v) (fun t => hostDone t ∧ t.rd (LNK_TST_LANES n) = bits v 1 5 ∧
      if s.lst n = 0 ∧ s.on (LNK_TST_BUSY n) = false then t.rd (LNK_TST_BUSY n) = 1 ∧ t.rd (LNK_TST_PASS n) = 0 ∧ t.rd (LNK_TST_REJ n) = 0 ∧ (t.lk n).lpbk = bits v 1 5 ∧ (t.lk n).txen = bits v 1 5
      else t.rd (LNK_TST_REJ n) = 1)) ∧
    (∀ (e : Nat) (rx : Bool), s.mgmt.wait = none → (∀ h, s.outranked h 4096 = false) → s.Answers (.keyLoad (.side e) n rx) (fun t => sideDone t e ∧
      let i := instant (s.rd2 (LNK_KCYC_LO n) (LNK_KCYC_HI_CYCLE n)) (s.rd (LNK_KCYC_HI_ANGLE n))
      (s.ahead i 15625 = false → t.rd (LNK_REVT_KREJ n) = 1 ∧ (t.lk n).rxPend = (s.lk n).rxPend ∧ (t.lk n).txPend = (s.lk n).txPend) ∧
      (s.ahead i 15625 = true → (s.lk n).lastRxEp = none → (s.lk n).lastTxEp = none → (s.lk n).rxPend = none → (s.lk n).txPend = none →
        if rx then t.rd (LNK_KSTAT_RXPEND n) = 1 ∧ (t.lk n).rxPend.isSome = true ∧ (t.lk n).txPend = none
        else t.rd (LNK_KSTAT_TXPEND n) = 1 ∧ (t.lk n).txPend.isSome = true ∧ (t.lk n).rxPend = none)))

/-- R132, R137, R138, R203, R206, R215, R227, R228, R240, R241, R273: a flush of the remote line cache starts the removal of a line that the client holds, and one that changes RLC_EN, a shared setting (R25), goes across; a flush of the
directory snoops a line; RFLUSH reads 0 once nothing is left to answer; the root takes a change of the period that meets the rules, and any other is refused; routing table, mesh and drain
registers hold what is written; FENCE stores an entry, UNFENCE with a newer generation frees it; CLOSE, BREAK and FREE act on the flow that the selector names, DCMD
FREE on a delivery log entry. -/
def Obligations.CrossingAndRouteCommands : Prop :=
  ∀ s : State,
    (∀ v k : Nat, v < 2 ^ 32 → s.tReset = false → s.crossing 0 = false → let key := tBase + 0x4008; let w := setBits v 1 1 1
      (setsShared key (s.word key) w = false ∨ s.tmode false = true → (s.viewOf key).on GLB_FENCE_HOST = false → (s.viewOf key).mayWrite false key w = true → (s.viewOf key).pageLocked key = false →
        s.outranked key 4098 = false → s.Answers (.rlcFlush .tPort v) (fun t => t.pins.tAck = true ∧ t.pins.tErr = false ∧ t.rd KT_XPR_CTL_RLC_EN = bits v 0 1 ∧
          (s.xing.cache = [] → t.xing = s.xing) ∧
          (∀ l, s.xing.cache = [(k, l)] → l.st ≠ 0 → l.cp = true → s.lineBusy (l.tag * 2048 + k / 16) = false → ∃ r, r ∈ t.xing.reqs ∧ r.way = k ∧ r.req.op = 16))) ∧
      (setsShared key (s.word key) w = true → s.tunnelShut = false → s.Answers (.rlcFlush .tPort v) (fun t => t.word = s.word ∧ t.pins = s.pins ∧
        t.bond.xTB = s.bond.xTB ++ [.msg 3 (mkMsg [(0, 8, 0x41), (8, 2, 0), (16, 20, 0x4008), (36, 32, w)])]))) ∧
    (HostMay s 0x8820 2 → s.Answers (.dirFlush .bPort) (fun t => hostDone t ∧ (s.xing.dir = [] → t.xing = s.xing) ∧
      ∀ k e, s.xing.dir = [(k, e)] → e.st ≠ 0 → s.dirLaddr k < 2 ^ 46 → s.dirFind (s.dirLaddr k) = some k → s.xing.busy = [] → s.xing.acrossB = [] →
        ∃ b, t.xing.acrossB = [b] ∧ b.laddr = s.dirLaddr k ∧ b.entry = k ∧ b.inv = true)) ∧
    (HostMay s 0x8820 1 → s.Answers (.rflush .bPort) (fun t => hostDone t ∧ (s.xing.dir = [] → s.xing.acrossB = [] → s.xing.homeWait = [] → t.rd BND_DIR_CTL_RFLUSH = 0) ∧
      (∀ b, s.xing.dir = [] → s.xing.acrossB = [b] → b.home = none → s.remoteHome b.laddr = true → t.rd BND_DIR_CTL_RFLUSH = 1))) ∧
    (∀ v : Nat, v < 2 ^ 32 → HostMay s 0x90054 (setBits v 31 1 1) → s.Answers (.periodChangeGo .bPort v) (fun t => hostDone t ∧ t.rd TIM_PCYC_HI_CEFF = bits v 0 16 ∧
      let p := s.rd TIM_PNEW_P
      let ce := s.rd TIM_PCYC_LO + bits v 0 16 * 2 ^ 32
      let ok := s.tRole = 2 ∧ 78125 ≤ p ∧ p ≤ 1562500 ∧ s.epochK % p = 0 ∧ s.time.f0 % 2 ^ 56 = 0 ∧ s.time.f0 >>> 56 ≤ ce ∧
        (ce - s.time.f0 >>> 56) % max 1 (s.epochK / max 1 (s.rd TIM_PCUR_P)) = 0 ∧ s.ahead (instant ce 0) 1562500000 = true
      (ok → t.time.pchg = some (p, ce)) ∧ (¬ok → t.rd TIM_EVT_PREJ = 1 ∧ t.time = s.time))) ∧
    (∀ i v : Nat, i < 65536 → v < 2 ^ 32 → HostMay s (0x40000 + 4 * i) v → s.Answers (.tableWrite .bPort i v) (fun t => hostDone t ∧
      t.rd (RTE_TBL_VALID i) = bits v 31 1 ∧ t.rd (RTE_TBL_CNT i) = bits v 28 2 ∧ t.rd (RTE_TBL_LINKS i) = bits v 0 24)) ∧
    (∀ (d v : Nat) (hi : Bool), d < 4 → v < 2 ^ 32 → HostMay s (0x20010 + 8 * d + 4 * b2n hi) v →
      s.Answers (.meshWrite .bPort d hi v) (fun t => hostDone t ∧ (if hi then t.rd (RTE_MESH_HI d) else t.rd (RTE_MESH_LO d)) = v)) ∧
    (∀ (v : Nat) (hi : Bool), v < 2 ^ 32 → HostMay s (0x20030 + 4 * b2n hi) v →
      s.Answers (.drainWrite .bPort hi v) (fun t => hostDone t ∧ (if hi then t.rd RTE_DRAIN_HI else t.rd RTE_DRAIN_LO) = v)) ∧
    (HostMay s 0x20068 1 → s.Answers (.fcmdFence .bPort) (fun t => hostDone t ∧ (s.fenceOf (s.rd RTE_FCMD_FNA_FNA) = none →
      (∀ e, e < 512 → s.on (RTE_FENCE_A_VALID e) = false → (∀ f, f < e → s.on (RTE_FENCE_A_VALID f) = true) → t.rd RTE_EVT_FENCEUP = 1 ∧
        t.rd (RTE_FENCE_A_VALID e) = 1 ∧ t.rd (RTE_FENCE_A_FNA e) = s.rd RTE_FCMD_FNA_FNA ∧ t.rd (RTE_FENCE_B_INC e) = s.rd RTE_FCMD_ARG_INC ∧ t.rd (RTE_FENCE_B_GEN e) = s.rd RTE_FCMD_ARG_GEN) ∧
      ((∀ f, f < 512 → s.on (RTE_FENCE_A_VALID f) = true) → t.rd RTE_STAT_HOLDALL = 1 ∧ t.rd RTE_EVT_FENCEFULL = 1)))) ∧
    (HostMay s 0x20068 3 → s.Answers (.fcmdUnfence .bPort) (fun t => hostDone t ∧ (s.fenceOf (s.rd RTE_FCMD_FNA_FNA) = none → t.word = s.word) ∧
      ∀ e, s.fenceOf (s.rd RTE_FCMD_FNA_FNA) = some e → let d := (s.rd RTE_FCMD_ARG_GEN + 65536 - s.rd (RTE_FENCE_B_GEN e)) % 65536
        if 1 ≤ d ∧ d ≤ 32767 then t.rd (RTE_FENCE_A_VALID e) = 0 ∧ t.rd RTE_STAT_HOLDALL = 0 else t.word = s.word)) ∧
    (∀ f : Nat, f = s.rd (DLV_SSEL_FLOW 1) →
      (HostMay s 0x80114 1 → s.Answers (.scmdClose .bPort) (fun t => hostDone t ∧ t.fst f = if s.fst f = 1 then 2 else s.fst f)) ∧
      (HostMay s 0x80114 2 → s.Answers (.scmdBreak .bPort) (fun t => hostDone t ∧ if s.fst f = 1 ∨ s.fst f = 2 then
        t.fst f = 3 ∧ t.rd (DLV_SBOUND f) = (s.rd (DLV_SACKED f) + 1) % 2 ^ 32 ∧ t.rd DLV_EVT_BROKEN = 1 else t.fst f = s.fst f)) ∧
      (HostMay s 0x80114 3 → s.Answers (.scmdFree .bPort) (fun t => hostDone t ∧ t.fst f = if s.fst f = 2 ∨ s.fst f = 3 then 0 else s.fst f))) ∧
    (∀ e : Nat, e = s.rd (DLV_DSEL_ENTRY 1) → HostMay s 0x8012c 1 → s.Answers (.dcmdFree .bPort) (fun t => hostDone t ∧
      t.rd (DLV_DLOG_A_SRC e) = 0 ∧ t.rd (DLV_DLOG_A_FLOW e) = 0 ∧ t.rd (DLV_DLOG_B_LAST e) = 0 ∧ t.rd (DLV_DLOG_B_BROKEN e) = 0))

/-- R282, R306 to R308, R324, R325, R327, R359: an entry is armed by reading it, and refused while Pour is off; it is disarmed; EN = 0 disarms all; a change of the operating point waits for its
instant or is rejected; configuration of a descriptor or program in use is refused; ARM, CLEAR and FREE act on a descriptor or wait while it is in INIT or EMIT; START begins a program at its first word with the
argument in G0, STOP ends it; the high half of a store word commits both halves. -/
def Obligations.ComputeRegisterCommands : Prop :=
  ∀ s : State,
    (∀ e : Nat, e < 16384 → HostMay s 0xa0010 (0x10000 + e) → s.Answers (.pourArm .bPort e) (fun t => hostDone t ∧
      (s.pour.arming.isSome = true → t.pour = s.pour) ∧
      (s.pour.arming = none → s.on POR_CTL_EN = false → t.rd POR_EVT_ARMREJ = 1 ∧ t.rd POR_ASTAT_REASON = 8 ∧ t.rd POR_ASTAT_BUSY = 0) ∧
      (s.pour.arming = none → s.on POR_CTL_EN = true → s.armedAt e = none → t.pour.arming = some { entry := e, prog := none, ovr := none } ∧ t.rd POR_ASTAT_BUSY = 1 ∧ t.rd POR_ASTAT_ENTRY = e ∧
        (s.dlv.ret.length < 4096 → t.dlv.ret = s.dlv.ret ++ [{ rid := s.nextRid, use := .armEntry e, write := false, addr := s.schedAddr e, bytes := 32, data := [] }])))) ∧
    (∀ e : Nat, e < 16384 → HostMay s 0xa0010 (0x30000 + e) → s.Answers (.pourDisarm .bPort e) (fun t => hostDone t ∧
      (s.pour.arming.isSome = true → t.pour = s.pour) ∧ (s.pour.arming = none → t.armedAt e = none ∧ ∀ f, f ≠ e → t.armedAt f = s.armedAt f))) ∧
    (∀ v : Nat, v < 2 ^ 32 → HostMay s 0xa0004 (setBits v 31 1 0) → s.Answers (.pourDisable .bPort v) (fun t => hostDone t ∧ t.rd POR_CTL_EN = 0 ∧ t.pour.armed = [])) ∧
    (∀ o : Nat, o < 16 → HostMay s 0xe0010 (2 ^ 31 + o) → s.Answers (.oppChangeRequest .bPort o) (fun t => hostDone t ∧
      let i := instant (s.rd PAC_OPP_CYC_LO + s.rd PAC_OPP_CYC_HI_CYCLE <<< 32) (s.rd PAC_OPP_CYC_HI_ANGLE)
      if s.pace.opp.isSome = true ∨ s.ahead i 15625 = false then t.rd PAC_EVT_OPPREJ = 1 ∧ t.pace = s.pace
      else t.pace.opp = some (i, o, false) ∧ t.rd PAC_STATUS_OPPNEXT = o ∧ t.rd PAC_STATUS_OPPPEND = 1)) ∧
    (∀ d w v : Nat, d < 256 → v < 2 ^ 32 → w ∈ [0, 1, 2, 3, 5] → HostMay s (0xb1000 + 0x20 * d + 4 * w) v → s.Answers (.descriptorConfigWrite .bPort d w v) (fun t => hostDone t ∧
      (s.dst d ≠ 0 → t.rd BLD_EVT_DREJ = 1 ∧ t.word (0xb1000 + 0x20 * d + 4 * w) = s.word (0xb1000 + 0x20 * d + 4 * w)) ∧
      (s.dst d = 0 → (w = 0 → t.rd (BLD_RD_CFG_PART d) = bits v 0 8 ∧ t.rd (BLD_RD_CFG_OP d) = bits v 12 3 ∧ t.rd (BLD_RD_CFG_IFMT d) = bits v 16 4 ∧ t.rd (BLD_RD_CFG_OFMT d) = bits v 20 4 ∧ t.dst d = 0) ∧
        (w = 1 → t.rd (BLD_RD_BASE_BASE d) = v % 2 ^ 18) ∧ (w = 2 → t.rd (BLD_RD_COUNT_COUNT d) = v % 2 ^ 18) ∧ (w = 3 → t.rd (BLD_RD_EXPECT d) = v) ∧ (w = 5 → t.rd (BLD_RD_SEED d) = v)))) ∧
    (∀ d : Nat, d < 256 → (∀ u, HostMay s 0xb0010 u) →
      (∀ e ∈ ([(.bldArm .bPort d, 1), (.bldClear .bPort d, 2), (.bldFree .bPort d, 3)] : List (Instr × Nat)), s.dst d = 1 ∨ s.dst d = 4 → s.Answers e.1 (fun t => hostDone t ∧ t.dst d = s.dst d ∧
        t.rd BLD_DSTAT_BUSY = 1 ∧ t.blend.cmds = s.blend.cmds ++ [{ op := e.2, rd := d, prog := none, k0 := 0, n := 0, to_ := 0, clear := false, free := false, force := false }])) ∧
      (s.dst d ≠ 1 → s.dst d ≠ 4 → s.blend.cmds = [] →
        s.Answers (.bldArm .bPort d) (fun t => hostDone t ∧ t.rd BLD_DSTAT_RD = d ∧ if s.armReason d = 0 then t.dst d = 1 ∧ t.rd (BLD_RD_RECV d) = 0
          else t.dst d = s.dst d ∧ t.rd BLD_EVT_DREJ = 1 ∧ t.rd BLD_DSTAT_REASON = s.armReason d) ∧
        s.Answers (.bldClear .bPort d) (fun t => hostDone t ∧ if s.dst d = 2 ∨ s.dst d = 3 then t.dst d = 1 ∧ t.rd (BLD_RD_RECV d) = 0 else t.dst d = s.dst d ∧ t.rd BLD_EVT_DREJ = 1) ∧
        s.Answers (.bldFree .bPort d) (fun t => hostDone t ∧ t.dst d = 0))) ∧
    (∀ p : Nat, p < 4096 →
      (HostMay s 0xb3810 (0x10000 + p) → s.Answers (.progStart .bPort p) (fun t => hostDone t ∧ t.rd BLD_PCSTAT_PROG = p ∧
        (activeSt (s.pst p) = true → t.rd BLD_PEVT_PREJ = 1 ∧ t.rd BLD_PCSTAT_REASON = 1 ∧ t.pst p = s.pst p) ∧
        (activeSt (s.pst p) = false → s.on (BLD_PRG_A_VALID p) = false → t.rd BLD_PEVT_PREJ = 1 ∧ t.rd BLD_PCSTAT_REASON = 2 ∧ t.pst p = s.pst p) ∧
        (activeSt (s.pst p) = false → s.on (BLD_PRG_A_VALID p) = true → s.rd (BLD_PRG_A_START p) + max 1 (s.rd (BLD_PRG_B_LEN p)) ≤ 16384 →
          t.pst p = 1 ∧ t.rd (BLD_PINFO_PC p) = s.rd (BLD_PRG_A_START p) ∧ t.gReg p 0 = s.rd2 BLD_PARG_LO BLD_PARG_HI ∧ t.gReg p 15 = 0 ∧ t.rd (BLD_PINFO_FAULT p) = 0 ∧ p ∈ t.programs))) ∧
      (HostMay s 0xb3810 (0x20000 + p) → s.Answers (.progStop .bPort p) (fun t => hostDone t ∧
        (s.pst p = 0 → t.rd BLD_PEVT_PREJ = 1 ∧ t.rd BLD_PCSTAT_REASON = 1) ∧ (s.pst p ≠ 0 → s.blend.emits = [] → s.pour.arming = none → t.pst p = 6 ∧ (t.px p).ctx = none))) ∧
      (∀ v : Nat, v < 2 ^ 32 →
        (HostMay s (0xb8000 + 8 * p) v → s.Answers (.progTableWrite .bPort p false v) (fun t => hostDone t ∧
          if activeSt (s.pst p) then t.rd BLD_PEVT_PREJ = 1 ∧ t.word (0xb8000 + 8 * p) = s.word (0xb8000 + 8 * p)
          else t.rd (BLD_PRG_A_VALID p) = bits v 31 1 ∧ t.rd (BLD_PRG_A_PART p) = bits v 14 8 ∧ t.rd (BLD_PRG_A_START p) = bits v 0 14)) ∧
        (HostMay s (0xb8004 + 8 * p) v → s.Answers (.progTableWrite .bPort p true v) (fun t => hostDone t ∧
          if activeSt (s.pst p) then t.rd BLD_PEVT_PREJ = 1 ∧ t.rd (BLD_PRG_B_LEN p) = s.rd (BLD_PRG_B_LEN p) else t.rd (BLD_PRG_B_LEN p) = bits v 0 14 ∧ t.pst p = s.pst p)))) ∧
    (∀ w lo v : Nat, w < 16384 → lo < 2 ^ 32 → v < 2 ^ 32 → HostMay s (0xc0000 + 8 * w) lo →
      s.Answers (.registerWrite .bPort (0xc0000 + 8 * w) lo) (fun u => hostDone u ∧ u.word = s.word ∧
        u.Answers (.prgCommit .bPort w v) (fun t => hostDone t ∧ t.prgWord w = lo + v * 2 ^ 32)))

/-- R366, R383, R393, R398, R400, R409, R410, R442, R451, R455, R458: the side-band clears the trip latch when every sensor reads below 100 °C; SEQFLOOR only rises; the flash window
takes one command at a time and refuses a protected address, in boot steps 2 and 3 when the command that waits executes; a snapshot or the default settings are asked for; the host sets lock bits of pages it may write; a marginal list entry is freed; loopback, self-test
and calibration start in test mode when no test runs. -/
def Obligations.SideAndTestCommands : Prop :=
  ∀ s : State,
    (∀ e : Nat, s.bReset = false → s.mgmt.wait = none → (∀ h, s.outranked h 4096 = false) →
      s.Answers (.tripClear (.side e)) (fun t => sideDone t e ∧ if ((List.range 12).all fun i => s.on (PAC_TEMP_VALID i) && decide (s.tempOf i < 800)) = true then t.rd PAC_STATUS_TRIP = 0 ∧ t.pins.tripN = true
        else t.rd PAC_EVT_TCLRREJ = 1 ∧ t.rd PAC_STATUS_TRIP = s.rd PAC_STATUS_TRIP ∧ t.pins.tripN = s.pins.tripN) ∧
      (∀ v : Nat, v < 2 ^ 32 → s.Answers (.seqfloorWrite (.side e) v) (fun t => sideDone t e ∧ t.rd IMG_SEQFLOOR = max v (s.rd IMG_SEQFLOOR))) ∧
      (∀ c ∈ ([(.flashReadWord (.side e), 1), (.flashProgramWord (.side e), 2), (.flashErase (.side e), 3)] : List (Instr × Nat)), s.Answers c.1 (fun t => sideDone t e ∧
        (s.on IMG_FSTAT_BUSY = true → t.word = s.word ∧ t.boot = s.boot) ∧
        (s.on IMG_FSTAT_BUSY = false → s.flashWaits = false → s.flashRefused (s.rd IMG_FADDR_ADDR / 4 * 4) = true → t.rd IMG_FSTAT_RES = 1 ∧ t.rd IMG_EVT_FREFUSE = 1 ∧ t.boot.windowOp = s.boot.windowOp) ∧
        (s.on IMG_FSTAT_BUSY = false → s.flashWaits = true ∨ s.flashRefused (s.rd IMG_FADDR_ADDR / 4 * 4) = false →
          t.rd IMG_FSTAT_BUSY = 1 ∧ t.boot.windowOp = c.2 ∧ t.boot.windowAddr = s.rd IMG_FADDR_ADDR / 4 * 4))) ∧
      s.Answers (.cdySnap (.side e)) (fun t => sideDone t e ∧ if s.journalOk = true ∧ s.boot.snapGap = false then t.rd CDY_JSTAT_BUSY = 1 ∧ t.boot.snapWanted = false else t.boot.snapWanted = true) ∧
      s.Answers (.cdyDefault (.side e)) (fun t => sideDone t e ∧ t.rd CDY_STATUS_DEFREQ = 1 ∧ (s.caddyOpen = true → t.hdr.defReq = true))) ∧
    (∀ i v : Nat, i < 8 → v < 2 ^ 32 → HostMay s (0x4060 + 4 * i) v → s.Answers (.ownLock .bPort i v) (fun t => hostDone t ∧ t.word (0x4060 + 4 * i) = s.word (0x4060 + 4 * i) ||| BitVec.ofNat 32 v ∧
      s.OnlyWords t [0x4060 + 4 * i])) ∧
    (∀ m : Nat, m < 32 → HostMay s 0xf3010 m → s.Answers (.marginalClear .bPort m) (fun t => hostDone t ∧ t.rd (TEL_MARG_VALID m) = 0 ∧ t.rd (TEL_MARG_CAUSE m) = 0 ∧ t.rd (TEL_MARG_RID m) = 0)) ∧
    (∀ v : Nat, v < 2 ^ 32 →
      (HostMay s 0xf400c (setBits v 8 1 1) → s.Answers (.bondLoopback .bPort true v) (fun t => hostDone t ∧ if s.on TST_STATUS_TMODE = true ∧ s.on TST_STATUS_BUSY = false then
        t.test = { s.test with runB := .loopback } ∧ t.rd TST_STATUS_BUSY = 1 ∧ t.rd TST_STATUS_REJ = 0 else t.test = s.test ∧ t.rd TST_STATUS_REJ = 1)) ∧
      (HostMay s 0xf4004 (setBits v 8 1 1) → s.Answers (.calibrationGo .bPort v) (fun t => hostDone t ∧ t.rd TST_CCTL_HMIN = bits v 24 8 ∧ t.rd TST_CCTL_DWELL = bits v 0 5 ∧
        if s.on TST_STATUS_TMODE = true ∧ s.on TST_STATUS_BUSY = false then t.test.runB = .calibration ∧ t.test.calTries = 0 ∧ t.rd TST_STATUS_CSTATE = 1 ∧ t.rd BND_STATUS_STATE = 1
        else t.test = s.test ∧ t.rd TST_STATUS_REJ = 1)) ∧
      (HostMay s 0xf4020 (setBits v 8 1 1) → s.Answers (.mbistGo .bPort true v) (fun t => hostDone t ∧ t.rd TST_MBCTL_CADDY = bits v 0 1 ∧ if s.on TST_STATUS_TMODE = true ∧ s.on TST_STATUS_BUSY = false then
        t.test = { s.test with runB := .mbist } ∧ t.rd TST_STATUS_BUSY = 1 else t.test = s.test ∧ t.rd TST_STATUS_BUSY = s.rd TST_STATUS_BUSY)))

/-- R437, R451 to R453, R455 to R458: a bank under copy is served by the spare once its copy is done; a loopback of the bond pads shows the first group that fails; the self-test shows each
memory's failing banks; a link's loopback passes the lanes that locked, had few enough errors and heard themselves; calibration repeats CAL up to eight times, sweeps in both halves, takes the middle of each
wire's hits half a period away as its target, and fails if a group is not aligned; CAL is echoed; the TAPs take their instructions. -/
def Obligations.TestEvents : Prop :=
  ∀ s : State,
    (∀ mem bank : Nat, s.bReset = false → s.Answers (.bankCopyDone mem bank) (fun t => if mem < 3 ∧ bank < 16 ∧ s.on (bankCopy mem) = true ∧ Sparse.get (fun _ => 0) s.ecc.copying mem = bank + 1 then
      t.rd (bankRet mem) = bank ∧ t.rd (bankCopy mem) = 0 ∧ t.rd TEL_FEVT_BANKRET = 1 else t = s)) ∧
    (s.bReset = false → s.Answers (.bondLoopbackDone true []) (fun t => if s.test.runB = .loopback then t.test.runB = .none_ ∧ t.rd TST_STATUS_BUSY = 0 ∧ t.rd TST_LPRES_FAILG = 0 ∧ t.rd TST_LPRES_FIRST = 0xFFF
      else t = s)) ∧
    (∀ (g depth : Nat) (errs : List Nat), s.bReset = false → s.test.runB = .loopback → g < s.groups → g < 2048 → gBT g = false → s.loopPass depth errs = false →
      s.Answers (.bondLoopbackDone true [(g, depth, errs)]) (fun t => t.rd TST_LPRES_FAILG = 1 ∧ t.rd TST_LPRES_FIRST = g ∧ t.test.runB = .none_)) ∧
    (∀ fails : List (Nat × List Nat), s.bReset = false → s.Answers (.mbistDone true fails) (fun t => (s.test.runB ≠ .mbist → t = s) ∧ (s.test.runB = .mbist → t.test.runB = .none_ ∧ t.rd TST_STATUS_BUSY = 0 ∧
      ∀ m, m < 7 → t.rd (TST_MBRES_DONE m) = 1 ∧ t.rd (TST_MBRES_FAIL m) = if (((fails.find? fun f => f.1 == m).map (·.2)).getD []).isEmpty then 0 else 1))) ∧
    (∀ (n : Nat) (res : List (Nat × Bool × Nat × Bool)), s.HasLink n → s.Answers (.laneLoopbackDone n res) (fun t => (s.on (LNK_TST_BUSY n) = false → t = s) ∧ (s.on (LNK_TST_BUSY n) = true →
      t.rd (LNK_TST_BUSY n) = 0 ∧ (t.lk n).lpbk = 0 ∧ ∀ q, q < 5 → bitAt (t.rd (LNK_TST_PASS n)) q =
        (bitAt (s.rd (LNK_TST_LANES n)) q && res.any fun r => r.1 == q && r.2.1 && decide (r.2.2.1 ≤ s.rd (LNK_CTL_PRBSMAX n)) && r.2.2.2)))) ∧
    (s.bReset = false →
      s.Answers .calRetryTimeout (fun t => if s.rd TST_STATUS_CSTATE = 1 ∧ 1 ≤ s.test.calTries ∧ s.test.calAcked = false then
        (s.test.calTries < 8 → t.test.calTries = s.test.calTries + 1 ∧ t.bond.xBT.length = s.bond.xBT.length + 1 ∧ t.test.calS % 16 = 0 ∧ s.kclk + 51200 ≤ t.test.calS) ∧
        (8 ≤ s.test.calTries → t.rd TST_STATUS_CSTATE = 6 ∧ t.test.runB = .none_ ∧ t.rd TST_STATUS_BUSY = 0) else t = s) ∧
      (s.tiles ≤ 16 → s.Answers .calSweepStart (fun t => if s.rd TST_STATUS_CSTATE = 1 ∧ s.test.calAcked = true then t.rd TST_STATUS_CSTATE = 2 ∧ t.rd BND_STATUS_RATE = 0 ∧
        ∀ g w, g < s.groups → gBT g = false → w < 65 + s.spares → t.rd (BND_TAP_TAP g w) = 0 else t = s)) ∧
      (∀ hits : List (Nat × Nat × List Nat), s.tiles ≤ 16 → s.Answers (.calSweepEnd hits) (fun t => if s.rd TST_STATUS_CSTATE = 2 then
        t.rd TST_STATUS_CSTATE = 3 ∧ t.rd BND_STATUS_RATE = 1 ∧ t.rd BND_STATUS_STATE = 3 ∧ ∀ g w, g < s.groups → gBT g = false → w < 65 + s.spares →
          t.rd (BND_TAP_TARGET g w) = (calTarget (((hits.find? fun h => h.1 == g && h.2.1 == w).map (·.2.2)).getD []) (s.rd TST_CCTL_HMIN)).getD 32 else t = s)) ∧
      (∀ errs : List (Nat × List Nat), s.Answers (.calVerifyDone errs) (fun t => if s.rd TST_STATUS_CSTATE = 4 then
        (t.rd TST_STATUS_CSTATE = 5 ∨ t.rd TST_STATUS_CSTATE = 6) ∧ t.test.runB = .none_ ∧ t.rd TST_STATUS_BUSY = 0 ∧
          (∀ g, g < s.groups → g < 2048 → s.rd (BND_GSTAT_DEPTH g) = 0 → t.rd TST_STATUS_CSTATE = 6 ∧ t.rd BND_STATUS_RATE = 1) else t = s)) ∧
      (∀ a b c : Nat, s.Answers (.calAck a b c) (fun t => t.word = s.word ∧ t.test = if s.rd TST_STATUS_CSTATE = 1 ∧ a = s.test.calS % 2 ^ 32 ∧ b = s.rd TST_CCTL_DWELL ∧ c = s.rd TST_CCTL_HMIN
        then { s.test with calAcked := true } else s.test))) ∧
    (∀ a b c : Nat, s.tReset = false → s.Answers (.cal a b c) (fun t => if 1 ≤ s.rd KT_BND_STATUS_STATE ∧ s.rd KT_BND_STATUS_STATE ≤ 6 then
      t.test = { s.test with calT := some (a, b, c) } ∧ t.bond.xTB = s.bond.xTB ++ [.ctrl 0x17 (BitVec.ofNat 1008 (pack [(0, 32, a), (32, 8, b), (40, 8, c)]))]
      else t.test = s.test ∧ t.rd KT_XPR_EVT_PROTO = 1)) ∧
    (∀ atB : Bool, s.tapReached atB = true →
      (∀ trst : Bool, s.Answers (.tapReset atB trst) (fun t => (t.tap atB).ir = 1 ∧ (t.tap atB).sconfig = 0 ∧ (t.tap atB).extest = false ∧ t.word = s.word)) ∧
      (∀ v : Nat,
        s.Answers (.sconfig atB v) (fun t => (t.tap atB).sconfig = v % 2 ∧ (t.tap atB).ir = 0x10 ∧ t.word = s.word) ∧
        s.Answers (.extest atB v) (fun t => (t.tap atB).ir = 0x03 ∧ (t.tap atB).extest = s.tmode atB ∧ (s.tmode atB = true → (t.tap atB).dwr = v) ∧ t.word = s.word) ∧
        (∀ seen : Nat, s.Answers (.samplePreload atB seen v) (fun t => (t.tap atB).ir = 0x02 ∧ (t.tap atB).captured = seen ∧ (t.tap atB).dwr = v ∧ t.word = s.word)) ∧
        (s.bReset = false → s.tReset = false → s.Answers (.mbist atB v) (fun t => (t.tap atB).ir = 0x21 ∧
          t.running atB = if v % 2 = 1 ∧ s.tmode atB = true ∧ s.testBusy atB = false then .mbist else s.running atB))))

/-! ## Rules stated whole -/

/-- A program that ran faults with a cause if a condition holds, and only then. -/
def faultsIff (t : State) (p cause : Nat) (b : Prop) : Prop := (b → t.pst p = 5 ∧ t.rd (BLD_PINFO_FAULT p) = cause) ∧ (¬ b → t.pst p ≠ 5)

/-- R330: of every instruction that names a descriptor, RDCFG, RDCMD, RECV, RDST, EMIT and CVT, the descriptor is IMM[7:0], with IDX that plus G[B][7:0] modulo 256; of EMIT the
template is IMM[17:8], with TIDX that plus G[B][7:0] modulo 1,024. It is the one the instruction writes, reads or moves, and the one whose partition is held against the program's. -/
def Obligations.DescriptorsNamed : Prop :=
  ∀ (s : State) (p w : Nat),
    let b := s.gReg p (bits w 44 4) % 256
    let d := if bitAt w 23 then (bits w 0 8 + b) % 256 else bits w 0 8
    let e := if bitAt w 23 then (bits w 8 8 + b) % 256 else bits w 8 8
    let tp := if bitAt w 18 then (bits w 8 10 + b) % 1024 else bits w 8 10
    let part := s.rd (BLD_PRG_A_PART p)
    let other := s.rd (BLD_RD_CFG_PART d) ≠ part
    (Runs s p w 0x20 → bits w 8 4 = 1 → (∀ k ∈ cfgKeys d 1, s.outranked k p = false) → s.Answers (.rdcfg p) (fun t => faultsIff t p 3 other ∧
      (¬ other → s.dst d = 0 → t.rd (BLD_RD_BASE_BASE d) = s.gA p w % 2 ^ 18 ∧ ∀ c, c < 256 → c ≠ d → t.rd (BLD_RD_BASE_BASE c) = s.rd (BLD_RD_BASE_BASE c)))) ∧
    (Runs s p w 0x21 → bits w 8 4 = 3 → s.dst d ≠ 1 → s.dst d ≠ 4 → s.ecc.words = [] → s.blend.cmds = [] → s.blend.offered = [] →
      s.Answers (.rdcmd p) (fun t => faultsIff t p 3 other ∧ (¬ other → t.dst d = 0 ∧ ∀ c, c < 256 → c ≠ d → t.dst c = s.dst c))) ∧
    (Runs s p w 0x22 → s.recvLate p (s.dst d) = false → s.dst d = 3 ∨ s.dst d = 5 ∨ s.dst d = 0 →
      s.Answers (.recv p) (fun t => faultsIff t p 3 other ∧ (¬ other → t.gReg p (fD w) = s.dst d))) ∧
    (Runs s p w 0x23 → s.Answers (.rdst p) (fun t => faultsIff t p 3 other ∧ (¬ other →
      t.gReg p (fD w) % 2 ^ 32 = s.rd (BLD_RD_RECV d) ∧ t.gReg p (fD w) / 2 ^ 32 % 8 = s.dst d))) ∧
    (Runs s p w 0x24 → s.dst d = 0 → s.on BLD_STATUS_HOLD = false → s.ecc.words = [] → s.blend.cmds = [] → s.blend.offered = [] →
      s.Answers (.emit p) (fun t => faultsIff t p 3 (other ∨ s.rd (BLD_TPL_B_PART tp) ≠ part) ∧
        (¬ other → s.rd (BLD_TPL_B_PART tp) = part → t.gReg p (fD w) = 1))) ∧
    (Runs s p w 0x25 → s.dst d = 0 → s.on BLD_STATUS_HOLD = false → s.ecc.words = [] → s.blend.cmds = [] → s.blend.offered = [] →
      s.Answers (.cvt p) (fun t => faultsIff t p 3 (other ∨ s.rd (BLD_RD_CFG_PART e) ≠ part) ∧
        (¬ other → s.rd (BLD_RD_CFG_PART e) = part → t.gReg p (fD w) = 1)))

/-- R433: the band of a tracked resource is clamp(floor((T − TB0) ÷ TBW), 0, 7), T being the reading of its home sensor in eighths of a degree, TB0 signed, both in
degrees; a residence tick counts in the bin of that band and in no other; with 40 °C and 10 °C, the reset values, band 0 lies below 50 °C, band 6 is 100 °C to 110 °C, and band 7 begins
at 110 °C. -/
def Obligations.SensorBands : Prop :=
  (∀ (s : State) (e : Nat), s.bReset = false → s.track = [e] → e < 4096 → 1 ≤ s.rd TEL_TBAND_TBW →
    let x : Int := sgn 12 (s.rd (PAC_TEMP_TEMP (s.homeSensor (s.rd (TEL_TRID_RID e))))) - 8 * sgn 8 (s.rd TEL_TBAND_TB0)
    s.Answers .trackerResidenceTick (fun t => ∃ b, b ≤ 7 ∧
      (b < 7 → x < 8 * (s.rd TEL_TBAND_TBW * (b + 1) : Nat)) ∧ (0 < b → (8 * (s.rd TEL_TBAND_TBW * b : Nat) : Int) ≤ x) ∧
      t.rd (TEL_TBIN_RES e b) = min 0xFFFF (s.rd (TEL_TBIN_RES e b) + 1) ∧ ∀ c, c < 8 → c ≠ b → t.rd (TEL_TBIN_RES e c) = s.rd (TEL_TBIN_RES e c))) ∧
  State.reset.rd TEL_TBAND_TB0 = 40 ∧ State.reset.rd TEL_TBAND_TBW = 10 ∧
  ∀ (s : State) (i : Nat), s.rd TEL_TBAND_TB0 = 40 → s.rd TEL_TBAND_TBW = 10 →
    (s.band i = 0 ↔ s.temp i < 8 * 50) ∧ (s.band i = 6 ↔ 8 * 100 ≤ s.temp i ∧ s.temp i < 8 * 110) ∧ (s.band i = 7 ↔ 8 * 110 ≤ s.temp i)

/-- The offset lies in the window of the registers of a selected group of Kalvon-B, or of Kalvon-T (R109, R112, R465). -/
def groupWindow (k : Nat) : Bool :=
  (0x8044 ≤ k && k ≤ 0x804c) || (0x8100 ≤ k && k ≤ 0x8213) || (0x8300 ≤ k && k ≤ 0x83ff) || (0x8480 ≤ k && k ≤ 0x8493) ||
    (0xf4100 ≤ k && k ≤ 0xf41fb)

/-- Kalvon-B's register at an offset lies beyond the build, seen by a master with copy `c` of the selectors. -/
def beyondB (s : State) (c k : Nat) : Prop :=
  (∃ n o, s.links ≤ n ∧ n < 64 ∧ o < 0x400 ∧ k = 0x10000 + 0x400 * n + o) ∨ (∃ i, s.tiles ≤ i ∧ i < 16 ∧ k = 0x8400 + 4 * i) ∨
    (s.groups ≤ s.rd (BND_SEL_GROUP c) ∧ groupWindow k = true)

/-- Kalvon-T's register at an offset lies beyond the build. -/
def beyondT (s : State) (c o : Nat) : Prop := s.groups ≤ s.rd (KT_BND_SEL_GROUP c) ∧ ((0x2100 ≤ o ∧ o ≤ 0x2213) ∨ (0x2300 ≤ o ∧ o ≤ 0x2413) ∨ (0x8100 ≤ o ∧ o ≤ 0x81fb))

/-- R465: at either port a link page of a link that the build does not have, KB_BND_ROLE of a tile that it does not have, and the registers of a selected group at or above the group
count read as 0, and a write that the port may make completes without an error and changes nothing; the same holds of the accesses of every other master. -/
def Obligations.RegistersBeyondTheBuild : Prop :=
  ∀ s : State,
    (∀ k, k % 4 = 0 → s.bReset = false → beyondB s 1 k →
      s.Answers (.registerRead .bPort k) (fun t => hostDone t ∧ t.pins.bRdata = 0 ∧ t.word = s.word) ∧
      ∀ v, v < 2 ^ 32 → HostMay s k v → s.Answers (.registerWrite .bPort k v) (fun t => hostDone t ∧ t = { s with pins := t.pins })) ∧
    (∀ o, o % 4 = 0 → s.tReset = false → s.crossing 0 = false → beyondT s 3 o →
      s.Answers (.registerRead .tPort (tBase + o)) (fun t => t.pins.tAck = true ∧ t.pins.tErr = false ∧ t.pins.tRdata = 0 ∧ t.word = s.word) ∧
      ∀ v, v < 2 ^ 32 → (s.viewOf (tBase + o)).mayWrite false (tBase + o) v = true → (s.viewOf (tBase + o)).on GLB_FENCE_HOST = false →
        s.Answers (.registerWrite .tPort (tBase + o) v) (fun t => t.pins.tAck = true ∧ t.pins.tErr = false ∧ t = { s with pins := t.pins })) ∧
    ∀ (m : Master) (k : Nat), beyondB s (copyOf m) k ∨ (∃ o, k = tBase + o ∧ beyondT s (copyOf m) o) →
      (s.regRead m k).1 = 0 ∧ ∀ v, (s.viewOf k).mayWrite (decide (m = .side)) k v = true → (s.viewOf k).on GLB_FENCE_HOST = false → s.regWrite m k v = (s, 0)

/-- A write of a register, of a word that Caddy retains while it can be written, of an error mark, of a link's or of a program's state keeps the canonical form of every store; the word
read back is the one written, and every other word reads as before (the form is the model's, in the log entry on the stores). -/
def Obligations.StoresStayCanonical : Prop :=
  ∀ (s : State) (k : Nat) (w : Word) (l : LinkSt) (x : ProgX) (m v : Nat), s.canon = true →
    ((s.setWord k w).canon = true ∧ (s.setWord k w).word k = w ∧ ∀ j, j ≠ k → (s.setWord k w).word j = s.word j) ∧
    ((s.setCword k w).canon = true ∧ (∀ j, j ≠ k → (s.setCword k w).cword j = s.cword j) ∧ (s.setCword k w).cword k = if s.caddyOpen then w else s.cword k) ∧
    ((s.setLk k l).canon = true ∧ (s.setLk k l).lk k = l ∧ ∀ j, j ≠ k → (s.setLk k l).lk j = s.lk j) ∧
    ((s.setPx k x).canon = true ∧ (s.setPx k x).px k = x ∧ ∀ j, j ≠ k → (s.setPx k x).px j = s.px j) ∧
    (m < 2 ^ 8 → k < 2 ^ 24 → (s.setEcc m k v).canon = true ∧ (s.setEcc m k v).eccAt m k = v ∧
      ∀ n j, j < 2 ^ 24 → (n, j) ≠ (m, k) → (s.setEcc m k v).eccAt n j = s.eccAt n j)
end

