-- ==== Sys2Proof/Laws/Bits.lean ====
section
/-!
SUPPORT. Laws of bit fields: a field reads back what was put into it, and putting one field leaves the others alone.
-/
namespace Sys2Proof.Machine

theorem bits_lt (x lo w : Nat) : bits x lo w < 2 ^ w := Nat.mod_lt _ (Nat.two_pow_pos w)

theorem bits_testBit (x lo w i : Nat) : (bits x lo w).testBit i = (decide (i < w) && x.testBit (lo + i)) := by
  simp [bits, Nat.testBit_mod_two_pow, Nat.testBit_shiftRight]

/-- A bit of a word with a field put into it. -/
theorem setBits_testBit (x lo w v i : Nat) :
    (setBits x lo w v).testBit i = if lo ≤ i ∧ i < lo + w then v.testBit (i - lo) else x.testBit i := by
  have h0 : x % 2 ^ lo < 2 ^ lo := Nat.mod_lt _ (Nat.two_pow_pos lo)
  have h1 : v % 2 ^ w < 2 ^ w := Nat.mod_lt _ (Nat.two_pow_pos w)
  have e1 : (v % 2 ^ w) <<< lo + x % 2 ^ lo = 2 ^ lo * (v % 2 ^ w) + x % 2 ^ lo := by
    rw [Nat.shiftLeft_eq, Nat.mul_comm]
  have h2 : 2 ^ lo * (v % 2 ^ w) + x % 2 ^ lo < 2 ^ (lo + w) := by
    have : 2 ^ lo * (v % 2 ^ w) + 2 ^ lo ≤ 2 ^ lo * 2 ^ w := by
      have h3 : 2 ^ lo * (v % 2 ^ w + 1) ≤ 2 ^ lo * 2 ^ w := Nat.mul_le_mul_left _ h1
      rw [Nat.mul_add] at h3; omega
    rw [Nat.pow_add]; omega
  have e2 : setBits x lo w v = 2 ^ (lo + w) * (x >>> (lo + w)) + (2 ^ lo * (v % 2 ^ w) + x % 2 ^ lo) := by
    unfold setBits
    rw [Nat.add_assoc, e1, Nat.shiftLeft_eq, Nat.mul_comm (2 ^ (lo + w))]
  rw [e2, Nat.testBit_two_pow_mul_add _ h2, Nat.testBit_two_pow_mul_add _ h0]
  by_cases a : i < lo
  · have b : i < lo + w := by omega
    have c : ¬ (lo ≤ i ∧ i < lo + w) := by omega
    rw [if_neg c]; simp [a, b, Nat.testBit_mod_two_pow]
  · by_cases b : i < lo + w
    · have c : lo ≤ i ∧ i < lo + w := by omega
      have d : i - lo < w := by omega
      rw [if_pos c]; simp [a, b, d, Nat.testBit_mod_two_pow]
    · have c : ¬ (lo ≤ i ∧ i < lo + w) := by omega
      have d : lo + w + (i - (lo + w)) = i := by omega
      rw [if_neg c]; simp [b, Nat.testBit_shiftRight, d]

/-- A field reads back what was put into it. -/
theorem bits_setBits_same (x lo w v : Nat) : bits (setBits x lo w v) lo w = v % 2 ^ w := by
  apply Nat.eq_of_testBit_eq
  intro i
  rw [bits_testBit, setBits_testBit, Nat.testBit_mod_two_pow]
  by_cases h : i < w
  · have c : lo ≤ lo + i ∧ lo + i < lo + w := by omega
    have d : lo + i - lo = i := by omega
    simp [h, c, d]
  · simp [h]

/-- Putting a field leaves a field apart from it alone. -/
theorem bits_setBits_apart (x lo w v lo' w' : Nat) (h : lo' + w' ≤ lo ∨ lo + w ≤ lo') : bits (setBits x lo w v) lo' w' = bits x lo' w' := by
  apply Nat.eq_of_testBit_eq
  intro i
  rw [bits_testBit, bits_testBit, setBits_testBit]
  by_cases a : i < w'
  · have c : ¬ (lo ≤ lo' + i ∧ lo' + i < lo + w) := by omega
    simp [c]
  · simp [a]

theorem setBits_lt (x lo w v n : Nat) (hx : x < 2 ^ n) (h : lo + w ≤ n) : setBits x lo w v < 2 ^ n := by
  apply Nat.lt_pow_two_of_testBit
  intro i hi
  rw [setBits_testBit]
  have c : ¬ (lo ≤ i ∧ i < lo + w) := by omega
  rw [if_neg c]
  exact Nat.testBit_lt_two_pow (Nat.lt_of_lt_of_le hx (Nat.pow_le_pow_right (by omega) hi))

end Sys2Proof.Machine
end

