-- ==== Sys2Proof/Laws/Sparse.lean ====
section
/-!
SUPPORT. Laws of sparse data: a read after a write of the same key gives what was written, a write leaves every
other key alone, and writing keeps the canonical form.
-/
namespace Sys2Proof.Machine

variable {α : Type} {d : Nat → α}

@[simp] theorem Sparse.get_nil (k : Nat) : Sparse.get d [] k = d k := rfl

theorem Sparse.get_drop_same (m : Sparse α) (k : Nat) : Sparse.get d (Sparse.drop k m) k = d k := by
  induction m with
  | nil => rfl
  | cons e m ih =>
    obtain ⟨k', v'⟩ := e
    by_cases h : k' = k <;> simp [Sparse.drop, Sparse.get, h, ih]

theorem Sparse.get_drop_ne (m : Sparse α) {k j : Nat} (h : j ≠ k) : Sparse.get d (Sparse.drop k m) j = Sparse.get d m j := by
  induction m with
  | nil => rfl
  | cons e m ih =>
    obtain ⟨k', v'⟩ := e
    by_cases hk : k' = k
    · have hj : ¬ k = j := fun h' => h h'.symm
      simp [Sparse.drop, Sparse.get, hk, hj, ih]
    · simp [Sparse.drop, Sparse.get, hk, ih]

theorem Sparse.get_put_ne (m : Sparse α) (v : α) {k j : Nat} (h : j ≠ k) : Sparse.get d (Sparse.put k v m) j = Sparse.get d m j := by
  have hj : ¬ k = j := fun h' => h h'.symm
  induction m with
  | nil => simp [Sparse.put, Sparse.get, hj]
  | cons e m ih =>
    obtain ⟨k', v'⟩ := e
    by_cases h1 : k < k'
    · simp [Sparse.put, Sparse.get, h1, hj]
    · by_cases h2 : k = k'
      · subst h2; simp [Sparse.put, Sparse.get, hj]
      · simp [Sparse.put, Sparse.get, h1, h2, ih]

theorem Sparse.get_put_drop (m : Sparse α) (k : Nat) (v : α) : Sparse.get d (Sparse.put k v (Sparse.drop k m)) k = v := by
  induction m with
  | nil => simp [Sparse.put, Sparse.drop, Sparse.get]
  | cons e m ih =>
    obtain ⟨k', v'⟩ := e
    by_cases hk : k' = k
    · simp [Sparse.drop, hk, ih]
    · by_cases h1 : k < k'
      · simp [Sparse.drop, hk, Sparse.put, Sparse.get, h1]
      · have h2 : ¬ k = k' := fun h => hk h.symm
        simp [Sparse.drop, hk, Sparse.put, Sparse.get, h1, h2, ih]

/-- A read after a write of the same key. -/
@[simp] theorem Sparse.get_set_same [DecidableEq α] (m : Sparse α) (k : Nat) (v : α) : Sparse.get d (Sparse.set d m k v) k = v := by
  unfold Sparse.set
  split
  · next h => rw [Sparse.get_drop_same, h]
  · exact Sparse.get_put_drop m k v

/-- A write leaves every other key alone. -/
theorem Sparse.get_set_ne [DecidableEq α] (m : Sparse α) (v : α) {k j : Nat} (h : j ≠ k) :
    Sparse.get d (Sparse.set d m k v) j = Sparse.get d m j := by
  unfold Sparse.set
  split
  · exact Sparse.get_drop_ne m h
  · rw [Sparse.get_put_ne _ _ h, Sparse.get_drop_ne m h]

/-! ## The canonical form -/

/-- Keys above a bound, where there is one. -/
def Sparse.above (lo : Option Nat) (k : Nat) : Prop := ∀ l, lo = some l → l < k

theorem Sparse.rising_cons (lo : Option Nat) (k : Nat) (v : α) (m : Sparse α) :
    Sparse.rising lo ((k, v) :: m) = true ↔ Sparse.above lo k ∧ Sparse.rising (some k) m = true := by
  cases lo <;> simp [Sparse.rising, Sparse.above]

theorem Sparse.rising_weaken (m : Sparse α) {lo : Nat} {k : Nat} (hl : lo < k) (h : Sparse.rising (some k) m = true) :
    Sparse.rising (some lo) m = true := by
  cases m with
  | nil => rfl
  | cons e m =>
    obtain ⟨k', v'⟩ := e
    rw [Sparse.rising_cons] at h ⊢
    refine ⟨?_, h.2⟩
    intro l hlo
    have := h.1 k rfl
    cases hlo; omega

theorem Sparse.rising_drop (m : Sparse α) (k : Nat) : ∀ lo, Sparse.rising lo m = true → Sparse.rising lo (Sparse.drop k m) = true := by
  induction m with
  | nil => intro lo _; rfl
  | cons e m ih =>
    obtain ⟨k', v'⟩ := e
    intro lo h
    rw [Sparse.rising_cons] at h
    unfold Sparse.drop
    split
    · have h2 := ih (some k') h.2
      cases lo with
      | none =>
        cases hm : Sparse.drop k m with
        | nil => rfl
        | cons e' m' =>
          obtain ⟨k2, v2⟩ := e'
          rw [hm, Sparse.rising_cons] at h2
          rw [Sparse.rising_cons]
          exact ⟨(by intro l hl; cases hl), h2.2⟩
      | some l => exact Sparse.rising_weaken _ (h.1 l rfl) h2
    · rw [Sparse.rising_cons]
      exact ⟨h.1, ih _ h.2⟩

theorem Sparse.rising_put (m : Sparse α) (k : Nat) (v : α) : ∀ lo, Sparse.above lo k → Sparse.rising lo m = true →
    Sparse.rising lo (Sparse.put k v m) = true := by
  induction m with
  | nil => intro lo ha _; simp [Sparse.put, Sparse.rising_cons, ha, Sparse.rising]
  | cons e m ih =>
    obtain ⟨k', v'⟩ := e
    intro lo ha h
    rw [Sparse.rising_cons] at h
    unfold Sparse.put
    split
    · next hk =>
      rw [Sparse.rising_cons, Sparse.rising_cons]
      exact ⟨ha, (by intro l hl; cases hl; exact hk), h.2⟩
    · split
      · next hk => subst hk; rw [Sparse.rising_cons]; exact ⟨ha, h.2⟩
      · next h1 h2 =>
        rw [Sparse.rising_cons]
        exact ⟨h.1, ih _ (by intro l hl; cases hl; omega) h.2⟩

theorem Sparse.all_drop (p : Nat × α → Bool) (m : Sparse α) (k : Nat) (h : m.all p = true) : (Sparse.drop k m).all p = true := by
  induction m with
  | nil => rfl
  | cons e m ih =>
    obtain ⟨k', v'⟩ := e
    simp only [List.all_cons, Bool.and_eq_true] at h
    unfold Sparse.drop
    split
    · exact ih h.2
    · simp only [List.all_cons, Bool.and_eq_true]; exact ⟨h.1, ih h.2⟩

theorem Sparse.all_put (p : Nat × α → Bool) (m : Sparse α) (k : Nat) (v : α) (h : m.all p = true) (hv : p (k, v) = true) :
    (Sparse.put k v m).all p = true := by
  induction m with
  | nil => simp [Sparse.put, hv]
  | cons e m ih =>
    obtain ⟨k', v'⟩ := e
    simp only [List.all_cons, Bool.and_eq_true] at h
    unfold Sparse.put
    split
    · simp only [List.all_cons, Bool.and_eq_true]; exact ⟨hv, h.1, h.2⟩
    · split
      · simp only [List.all_cons, Bool.and_eq_true]; exact ⟨hv, h.2⟩
      · simp only [List.all_cons, Bool.and_eq_true]; exact ⟨h.1, ih h.2⟩

/-- A write keeps the canonical form. -/
theorem Sparse.wf_set [DecidableEq α] (m : Sparse α) (k : Nat) (v : α) (h : Sparse.wf d m = true) : Sparse.wf d (Sparse.set d m k v) = true := by
  simp only [Sparse.wf, Bool.and_eq_true] at h ⊢
  unfold Sparse.set
  split
  · exact ⟨Sparse.rising_drop m k none h.1, Sparse.all_drop _ m k h.2⟩
  · next hv =>
    refine ⟨Sparse.rising_put _ k v none (by intro l hl; cases hl) (Sparse.rising_drop m k none h.1), ?_⟩
    exact Sparse.all_put _ _ k v (Sparse.all_drop _ m k h.2) (by simpa using hv)

@[simp] theorem Sparse.wf_nil [DecidableEq α] : Sparse.wf d [] = true := rfl

end Sys2Proof.Machine
end

