-- ==== Sys2Proof/Laws/State.lean ====
section
/-!
SUPPORT. What each named update of the state leaves alone: one lemma for each field.
-/
namespace Sys2Proof.Machine

/-! ## State.setWord -/

@[simp] theorem State.setWord_regs (s : State) (key : Nat) (v : Word) : (s.setWord key v).regs = Sparse.set regReset s.regs key v := rfl
@[simp] theorem State.setWord_pending (s : State) (key : Nat) (v : Word) : (s.setWord key v).pending = s.pending := rfl
@[simp] theorem State.setWord_tiles (s : State) (key : Nat) (v : Word) : (s.setWord key v).tiles = s.tiles := rfl
@[simp] theorem State.setWord_links (s : State) (key : Nat) (v : Word) : (s.setWord key v).links = s.links := rfl
@[simp] theorem State.setWord_draws (s : State) (key : Nat) (v : Word) : (s.setWord key v).draws = s.draws := rfl
@[simp] theorem State.setWord_bReset (s : State) (key : Nat) (v : Word) : (s.setWord key v).bReset = s.bReset := rfl
@[simp] theorem State.setWord_tReset (s : State) (key : Nat) (v : Word) : (s.setWord key v).tReset = s.tReset := rfl
@[simp] theorem State.setWord_kclk (s : State) (key : Nat) (v : Word) : (s.setWord key v).kclk = s.kclk := rfl
@[simp] theorem State.setWord_tclk (s : State) (key : Nat) (v : Word) : (s.setWord key v).tclk = s.tclk := rfl
@[simp] theorem State.setWord_hold (s : State) (key : Nat) (v : Word) : (s.setWord key v).hold = s.hold := rfl
@[simp] theorem State.setWord_tHold (s : State) (key : Nat) (v : Word) : (s.setWord key v).tHold = s.tHold := rfl
@[simp] theorem State.setWord_portsUp (s : State) (key : Nat) (v : Word) : (s.setWord key v).portsUp = s.portsUp := rfl
@[simp] theorem State.setWord_caddy (s : State) (key : Nat) (v : Word) : (s.setWord key v).caddy = s.caddy := rfl
@[simp] theorem State.setWord_hdr (s : State) (key : Nat) (v : Word) : (s.setWord key v).hdr = s.hdr := rfl
@[simp] theorem State.setWord_caddyShut (s : State) (key : Nat) (v : Word) : (s.setWord key v).caddyShut = s.caddyShut := rfl
@[simp] theorem State.setWord_latches (s : State) (key : Nat) (v : Word) : (s.setWord key v).latches = s.latches := rfl
@[simp] theorem State.setWord_pins (s : State) (key : Nat) (v : Word) : (s.setWord key v).pins = s.pins := rfl
@[simp] theorem State.setWord_boot (s : State) (key : Nat) (v : Word) : (s.setWord key v).boot = s.boot := rfl
@[simp] theorem State.setWord_mgmt (s : State) (key : Nat) (v : Word) : (s.setWord key v).mgmt = s.mgmt := rfl
@[simp] theorem State.setWord_bond (s : State) (key : Nat) (v : Word) : (s.setWord key v).bond = s.bond := rfl
@[simp] theorem State.setWord_xing (s : State) (key : Nat) (v : Word) : (s.setWord key v).xing = s.xing := rfl
@[simp] theorem State.setWord_lnk (s : State) (key : Nat) (v : Word) : (s.setWord key v).lnk = s.lnk := rfl
@[simp] theorem State.setWord_route (s : State) (key : Nat) (v : Word) : (s.setWord key v).route = s.route := rfl
@[simp] theorem State.setWord_dlv (s : State) (key : Nat) (v : Word) : (s.setWord key v).dlv = s.dlv := rfl
@[simp] theorem State.setWord_time (s : State) (key : Nat) (v : Word) : (s.setWord key v).time = s.time := rfl
@[simp] theorem State.setWord_pace (s : State) (key : Nat) (v : Word) : (s.setWord key v).pace = s.pace := rfl
@[simp] theorem State.setWord_pour (s : State) (key : Nat) (v : Word) : (s.setWord key v).pour = s.pour := rfl
@[simp] theorem State.setWord_blend (s : State) (key : Nat) (v : Word) : (s.setWord key v).blend = s.blend := rfl
@[simp] theorem State.setWord_prog (s : State) (key : Nat) (v : Word) : (s.setWord key v).prog = s.prog := rfl
@[simp] theorem State.setWord_track (s : State) (key : Nat) (v : Word) : (s.setWord key v).track = s.track := rfl
@[simp] theorem State.setWord_ecc (s : State) (key : Nat) (v : Word) : (s.setWord key v).ecc = s.ecc := rfl
@[simp] theorem State.setWord_test (s : State) (key : Nat) (v : Word) : (s.setWord key v).test = s.test := rfl

/-! ## State.sendT -/

@[simp] theorem State.sendT_pending (s : State) (cls : Nat) (m : XMsg) : (s.sendT cls m).pending = s.pending := rfl
@[simp] theorem State.sendT_tiles (s : State) (cls : Nat) (m : XMsg) : (s.sendT cls m).tiles = s.tiles := rfl
@[simp] theorem State.sendT_links (s : State) (cls : Nat) (m : XMsg) : (s.sendT cls m).links = s.links := rfl
@[simp] theorem State.sendT_draws (s : State) (cls : Nat) (m : XMsg) : (s.sendT cls m).draws = s.draws := rfl
@[simp] theorem State.sendT_bReset (s : State) (cls : Nat) (m : XMsg) : (s.sendT cls m).bReset = s.bReset := rfl
@[simp] theorem State.sendT_tReset (s : State) (cls : Nat) (m : XMsg) : (s.sendT cls m).tReset = s.tReset := rfl
@[simp] theorem State.sendT_kclk (s : State) (cls : Nat) (m : XMsg) : (s.sendT cls m).kclk = s.kclk := rfl
@[simp] theorem State.sendT_tclk (s : State) (cls : Nat) (m : XMsg) : (s.sendT cls m).tclk = s.tclk := rfl
@[simp] theorem State.sendT_hold (s : State) (cls : Nat) (m : XMsg) : (s.sendT cls m).hold = s.hold := rfl
@[simp] theorem State.sendT_tHold (s : State) (cls : Nat) (m : XMsg) : (s.sendT cls m).tHold = s.tHold := rfl
@[simp] theorem State.sendT_portsUp (s : State) (cls : Nat) (m : XMsg) : (s.sendT cls m).portsUp = s.portsUp := rfl
@[simp] theorem State.sendT_regs (s : State) (cls : Nat) (m : XMsg) : (s.sendT cls m).regs = s.regs := rfl
@[simp] theorem State.sendT_caddy (s : State) (cls : Nat) (m : XMsg) : (s.sendT cls m).caddy = s.caddy := rfl
@[simp] theorem State.sendT_hdr (s : State) (cls : Nat) (m : XMsg) : (s.sendT cls m).hdr = s.hdr := rfl
@[simp] theorem State.sendT_caddyShut (s : State) (cls : Nat) (m : XMsg) : (s.sendT cls m).caddyShut = s.caddyShut := rfl
@[simp] theorem State.sendT_latches (s : State) (cls : Nat) (m : XMsg) : (s.sendT cls m).latches = s.latches := rfl
@[simp] theorem State.sendT_pins (s : State) (cls : Nat) (m : XMsg) : (s.sendT cls m).pins = s.pins := rfl
@[simp] theorem State.sendT_boot (s : State) (cls : Nat) (m : XMsg) : (s.sendT cls m).boot = s.boot := rfl
@[simp] theorem State.sendT_mgmt (s : State) (cls : Nat) (m : XMsg) : (s.sendT cls m).mgmt = s.mgmt := rfl
@[simp] theorem State.sendT_xing (s : State) (cls : Nat) (m : XMsg) : (s.sendT cls m).xing = s.xing := rfl
@[simp] theorem State.sendT_lnk (s : State) (cls : Nat) (m : XMsg) : (s.sendT cls m).lnk = s.lnk := rfl
@[simp] theorem State.sendT_route (s : State) (cls : Nat) (m : XMsg) : (s.sendT cls m).route = s.route := rfl
@[simp] theorem State.sendT_dlv (s : State) (cls : Nat) (m : XMsg) : (s.sendT cls m).dlv = s.dlv := rfl
@[simp] theorem State.sendT_time (s : State) (cls : Nat) (m : XMsg) : (s.sendT cls m).time = s.time := rfl
@[simp] theorem State.sendT_pace (s : State) (cls : Nat) (m : XMsg) : (s.sendT cls m).pace = s.pace := rfl
@[simp] theorem State.sendT_pour (s : State) (cls : Nat) (m : XMsg) : (s.sendT cls m).pour = s.pour := rfl
@[simp] theorem State.sendT_blend (s : State) (cls : Nat) (m : XMsg) : (s.sendT cls m).blend = s.blend := rfl
@[simp] theorem State.sendT_prog (s : State) (cls : Nat) (m : XMsg) : (s.sendT cls m).prog = s.prog := rfl
@[simp] theorem State.sendT_track (s : State) (cls : Nat) (m : XMsg) : (s.sendT cls m).track = s.track := rfl
@[simp] theorem State.sendT_ecc (s : State) (cls : Nat) (m : XMsg) : (s.sendT cls m).ecc = s.ecc := rfl
@[simp] theorem State.sendT_test (s : State) (cls : Nat) (m : XMsg) : (s.sendT cls m).test = s.test := rfl

/-! ## State.sendB -/

@[simp] theorem State.sendB_pending (s : State) (cls : Nat) (m : XMsg) : (s.sendB cls m).pending = s.pending := rfl
@[simp] theorem State.sendB_tiles (s : State) (cls : Nat) (m : XMsg) : (s.sendB cls m).tiles = s.tiles := rfl
@[simp] theorem State.sendB_links (s : State) (cls : Nat) (m : XMsg) : (s.sendB cls m).links = s.links := rfl
@[simp] theorem State.sendB_draws (s : State) (cls : Nat) (m : XMsg) : (s.sendB cls m).draws = s.draws := rfl
@[simp] theorem State.sendB_bReset (s : State) (cls : Nat) (m : XMsg) : (s.sendB cls m).bReset = s.bReset := rfl
@[simp] theorem State.sendB_tReset (s : State) (cls : Nat) (m : XMsg) : (s.sendB cls m).tReset = s.tReset := rfl
@[simp] theorem State.sendB_kclk (s : State) (cls : Nat) (m : XMsg) : (s.sendB cls m).kclk = s.kclk := rfl
@[simp] theorem State.sendB_tclk (s : State) (cls : Nat) (m : XMsg) : (s.sendB cls m).tclk = s.tclk := rfl
@[simp] theorem State.sendB_hold (s : State) (cls : Nat) (m : XMsg) : (s.sendB cls m).hold = s.hold := rfl
@[simp] theorem State.sendB_tHold (s : State) (cls : Nat) (m : XMsg) : (s.sendB cls m).tHold = s.tHold := rfl
@[simp] theorem State.sendB_portsUp (s : State) (cls : Nat) (m : XMsg) : (s.sendB cls m).portsUp = s.portsUp := rfl
@[simp] theorem State.sendB_regs (s : State) (cls : Nat) (m : XMsg) : (s.sendB cls m).regs = s.regs := rfl
@[simp] theorem State.sendB_caddy (s : State) (cls : Nat) (m : XMsg) : (s.sendB cls m).caddy = s.caddy := rfl
@[simp] theorem State.sendB_hdr (s : State) (cls : Nat) (m : XMsg) : (s.sendB cls m).hdr = s.hdr := rfl
@[simp] theorem State.sendB_caddyShut (s : State) (cls : Nat) (m : XMsg) : (s.sendB cls m).caddyShut = s.caddyShut := rfl
@[simp] theorem State.sendB_latches (s : State) (cls : Nat) (m : XMsg) : (s.sendB cls m).latches = s.latches := rfl
@[simp] theorem State.sendB_pins (s : State) (cls : Nat) (m : XMsg) : (s.sendB cls m).pins = s.pins := rfl
@[simp] theorem State.sendB_boot (s : State) (cls : Nat) (m : XMsg) : (s.sendB cls m).boot = s.boot := rfl
@[simp] theorem State.sendB_mgmt (s : State) (cls : Nat) (m : XMsg) : (s.sendB cls m).mgmt = s.mgmt := rfl
@[simp] theorem State.sendB_xing (s : State) (cls : Nat) (m : XMsg) : (s.sendB cls m).xing = s.xing := rfl
@[simp] theorem State.sendB_lnk (s : State) (cls : Nat) (m : XMsg) : (s.sendB cls m).lnk = s.lnk := rfl
@[simp] theorem State.sendB_route (s : State) (cls : Nat) (m : XMsg) : (s.sendB cls m).route = s.route := rfl
@[simp] theorem State.sendB_dlv (s : State) (cls : Nat) (m : XMsg) : (s.sendB cls m).dlv = s.dlv := rfl
@[simp] theorem State.sendB_time (s : State) (cls : Nat) (m : XMsg) : (s.sendB cls m).time = s.time := rfl
@[simp] theorem State.sendB_pace (s : State) (cls : Nat) (m : XMsg) : (s.sendB cls m).pace = s.pace := rfl
@[simp] theorem State.sendB_pour (s : State) (cls : Nat) (m : XMsg) : (s.sendB cls m).pour = s.pour := rfl
@[simp] theorem State.sendB_blend (s : State) (cls : Nat) (m : XMsg) : (s.sendB cls m).blend = s.blend := rfl
@[simp] theorem State.sendB_prog (s : State) (cls : Nat) (m : XMsg) : (s.sendB cls m).prog = s.prog := rfl
@[simp] theorem State.sendB_track (s : State) (cls : Nat) (m : XMsg) : (s.sendB cls m).track = s.track := rfl
@[simp] theorem State.sendB_ecc (s : State) (cls : Nat) (m : XMsg) : (s.sendB cls m).ecc = s.ecc := rfl
@[simp] theorem State.sendB_test (s : State) (cls : Nat) (m : XMsg) : (s.sendB cls m).test = s.test := rfl

/-! ## State.ctlToT -/

@[simp] theorem State.ctlToT_pending (s : State) (ty body : Nat) : (s.ctlToT ty body).pending = s.pending := rfl
@[simp] theorem State.ctlToT_tiles (s : State) (ty body : Nat) : (s.ctlToT ty body).tiles = s.tiles := rfl
@[simp] theorem State.ctlToT_links (s : State) (ty body : Nat) : (s.ctlToT ty body).links = s.links := rfl
@[simp] theorem State.ctlToT_draws (s : State) (ty body : Nat) : (s.ctlToT ty body).draws = s.draws := rfl
@[simp] theorem State.ctlToT_bReset (s : State) (ty body : Nat) : (s.ctlToT ty body).bReset = s.bReset := rfl
@[simp] theorem State.ctlToT_tReset (s : State) (ty body : Nat) : (s.ctlToT ty body).tReset = s.tReset := rfl
@[simp] theorem State.ctlToT_kclk (s : State) (ty body : Nat) : (s.ctlToT ty body).kclk = s.kclk := rfl
@[simp] theorem State.ctlToT_tclk (s : State) (ty body : Nat) : (s.ctlToT ty body).tclk = s.tclk := rfl
@[simp] theorem State.ctlToT_hold (s : State) (ty body : Nat) : (s.ctlToT ty body).hold = s.hold := rfl
@[simp] theorem State.ctlToT_tHold (s : State) (ty body : Nat) : (s.ctlToT ty body).tHold = s.tHold := rfl
@[simp] theorem State.ctlToT_portsUp (s : State) (ty body : Nat) : (s.ctlToT ty body).portsUp = s.portsUp := rfl
@[simp] theorem State.ctlToT_regs (s : State) (ty body : Nat) : (s.ctlToT ty body).regs = s.regs := rfl
@[simp] theorem State.ctlToT_caddy (s : State) (ty body : Nat) : (s.ctlToT ty body).caddy = s.caddy := rfl
@[simp] theorem State.ctlToT_hdr (s : State) (ty body : Nat) : (s.ctlToT ty body).hdr = s.hdr := rfl
@[simp] theorem State.ctlToT_caddyShut (s : State) (ty body : Nat) : (s.ctlToT ty body).caddyShut = s.caddyShut := rfl
@[simp] theorem State.ctlToT_latches (s : State) (ty body : Nat) : (s.ctlToT ty body).latches = s.latches := rfl
@[simp] theorem State.ctlToT_pins (s : State) (ty body : Nat) : (s.ctlToT ty body).pins = s.pins := rfl
@[simp] theorem State.ctlToT_boot (s : State) (ty body : Nat) : (s.ctlToT ty body).boot = s.boot := rfl
@[simp] theorem State.ctlToT_mgmt (s : State) (ty body : Nat) : (s.ctlToT ty body).mgmt = s.mgmt := rfl
@[simp] theorem State.ctlToT_xing (s : State) (ty body : Nat) : (s.ctlToT ty body).xing = s.xing := rfl
@[simp] theorem State.ctlToT_lnk (s : State) (ty body : Nat) : (s.ctlToT ty body).lnk = s.lnk := rfl
@[simp] theorem State.ctlToT_route (s : State) (ty body : Nat) : (s.ctlToT ty body).route = s.route := rfl
@[simp] theorem State.ctlToT_dlv (s : State) (ty body : Nat) : (s.ctlToT ty body).dlv = s.dlv := rfl
@[simp] theorem State.ctlToT_time (s : State) (ty body : Nat) : (s.ctlToT ty body).time = s.time := rfl
@[simp] theorem State.ctlToT_pace (s : State) (ty body : Nat) : (s.ctlToT ty body).pace = s.pace := rfl
@[simp] theorem State.ctlToT_pour (s : State) (ty body : Nat) : (s.ctlToT ty body).pour = s.pour := rfl
@[simp] theorem State.ctlToT_blend (s : State) (ty body : Nat) : (s.ctlToT ty body).blend = s.blend := rfl
@[simp] theorem State.ctlToT_prog (s : State) (ty body : Nat) : (s.ctlToT ty body).prog = s.prog := rfl
@[simp] theorem State.ctlToT_track (s : State) (ty body : Nat) : (s.ctlToT ty body).track = s.track := rfl
@[simp] theorem State.ctlToT_ecc (s : State) (ty body : Nat) : (s.ctlToT ty body).ecc = s.ecc := rfl
@[simp] theorem State.ctlToT_test (s : State) (ty body : Nat) : (s.ctlToT ty body).test = s.test := rfl

/-! ## State.ctlToB -/

@[simp] theorem State.ctlToB_pending (s : State) (ty body : Nat) : (s.ctlToB ty body).pending = s.pending := rfl
@[simp] theorem State.ctlToB_tiles (s : State) (ty body : Nat) : (s.ctlToB ty body).tiles = s.tiles := rfl
@[simp] theorem State.ctlToB_links (s : State) (ty body : Nat) : (s.ctlToB ty body).links = s.links := rfl
@[simp] theorem State.ctlToB_draws (s : State) (ty body : Nat) : (s.ctlToB ty body).draws = s.draws := rfl
@[simp] theorem State.ctlToB_bReset (s : State) (ty body : Nat) : (s.ctlToB ty body).bReset = s.bReset := rfl
@[simp] theorem State.ctlToB_tReset (s : State) (ty body : Nat) : (s.ctlToB ty body).tReset = s.tReset := rfl
@[simp] theorem State.ctlToB_kclk (s : State) (ty body : Nat) : (s.ctlToB ty body).kclk = s.kclk := rfl
@[simp] theorem State.ctlToB_tclk (s : State) (ty body : Nat) : (s.ctlToB ty body).tclk = s.tclk := rfl
@[simp] theorem State.ctlToB_hold (s : State) (ty body : Nat) : (s.ctlToB ty body).hold = s.hold := rfl
@[simp] theorem State.ctlToB_tHold (s : State) (ty body : Nat) : (s.ctlToB ty body).tHold = s.tHold := rfl
@[simp] theorem State.ctlToB_portsUp (s : State) (ty body : Nat) : (s.ctlToB ty body).portsUp = s.portsUp := rfl
@[simp] theorem State.ctlToB_regs (s : State) (ty body : Nat) : (s.ctlToB ty body).regs = s.regs := rfl
@[simp] theorem State.ctlToB_caddy (s : State) (ty body : Nat) : (s.ctlToB ty body).caddy = s.caddy := rfl
@[simp] theorem State.ctlToB_hdr (s : State) (ty body : Nat) : (s.ctlToB ty body).hdr = s.hdr := rfl
@[simp] theorem State.ctlToB_caddyShut (s : State) (ty body : Nat) : (s.ctlToB ty body).caddyShut = s.caddyShut := rfl
@[simp] theorem State.ctlToB_latches (s : State) (ty body : Nat) : (s.ctlToB ty body).latches = s.latches := rfl
@[simp] theorem State.ctlToB_pins (s : State) (ty body : Nat) : (s.ctlToB ty body).pins = s.pins := rfl
@[simp] theorem State.ctlToB_boot (s : State) (ty body : Nat) : (s.ctlToB ty body).boot = s.boot := rfl
@[simp] theorem State.ctlToB_mgmt (s : State) (ty body : Nat) : (s.ctlToB ty body).mgmt = s.mgmt := rfl
@[simp] theorem State.ctlToB_xing (s : State) (ty body : Nat) : (s.ctlToB ty body).xing = s.xing := rfl
@[simp] theorem State.ctlToB_lnk (s : State) (ty body : Nat) : (s.ctlToB ty body).lnk = s.lnk := rfl
@[simp] theorem State.ctlToB_route (s : State) (ty body : Nat) : (s.ctlToB ty body).route = s.route := rfl
@[simp] theorem State.ctlToB_dlv (s : State) (ty body : Nat) : (s.ctlToB ty body).dlv = s.dlv := rfl
@[simp] theorem State.ctlToB_time (s : State) (ty body : Nat) : (s.ctlToB ty body).time = s.time := rfl
@[simp] theorem State.ctlToB_pace (s : State) (ty body : Nat) : (s.ctlToB ty body).pace = s.pace := rfl
@[simp] theorem State.ctlToB_pour (s : State) (ty body : Nat) : (s.ctlToB ty body).pour = s.pour := rfl
@[simp] theorem State.ctlToB_blend (s : State) (ty body : Nat) : (s.ctlToB ty body).blend = s.blend := rfl
@[simp] theorem State.ctlToB_prog (s : State) (ty body : Nat) : (s.ctlToB ty body).prog = s.prog := rfl
@[simp] theorem State.ctlToB_track (s : State) (ty body : Nat) : (s.ctlToB ty body).track = s.track := rfl
@[simp] theorem State.ctlToB_ecc (s : State) (ty body : Nat) : (s.ctlToB ty body).ecc = s.ecc := rfl
@[simp] theorem State.ctlToB_test (s : State) (ty body : Nat) : (s.ctlToB ty body).test = s.test := rfl

/-! ## State.holdAll -/

@[simp] theorem State.holdAll_hold (s : State)  : (s.holdAll).hold = true := rfl
@[simp] theorem State.holdAll_pending (s : State)  : (s.holdAll).pending = s.pending := rfl
@[simp] theorem State.holdAll_tiles (s : State)  : (s.holdAll).tiles = s.tiles := rfl
@[simp] theorem State.holdAll_links (s : State)  : (s.holdAll).links = s.links := rfl
@[simp] theorem State.holdAll_draws (s : State)  : (s.holdAll).draws = s.draws := rfl
@[simp] theorem State.holdAll_bReset (s : State)  : (s.holdAll).bReset = s.bReset := rfl
@[simp] theorem State.holdAll_tReset (s : State)  : (s.holdAll).tReset = s.tReset := rfl
@[simp] theorem State.holdAll_kclk (s : State)  : (s.holdAll).kclk = s.kclk := rfl
@[simp] theorem State.holdAll_tclk (s : State)  : (s.holdAll).tclk = s.tclk := rfl
@[simp] theorem State.holdAll_tHold (s : State)  : (s.holdAll).tHold = s.tHold := rfl
@[simp] theorem State.holdAll_portsUp (s : State)  : (s.holdAll).portsUp = s.portsUp := rfl
@[simp] theorem State.holdAll_regs (s : State)  : (s.holdAll).regs = s.regs := rfl
@[simp] theorem State.holdAll_caddy (s : State)  : (s.holdAll).caddy = s.caddy := rfl
@[simp] theorem State.holdAll_hdr (s : State)  : (s.holdAll).hdr = s.hdr := rfl
@[simp] theorem State.holdAll_caddyShut (s : State)  : (s.holdAll).caddyShut = s.caddyShut := rfl
@[simp] theorem State.holdAll_latches (s : State)  : (s.holdAll).latches = s.latches := rfl
@[simp] theorem State.holdAll_pins (s : State)  : (s.holdAll).pins = s.pins := rfl
@[simp] theorem State.holdAll_boot (s : State)  : (s.holdAll).boot = s.boot := rfl
@[simp] theorem State.holdAll_mgmt (s : State)  : (s.holdAll).mgmt = s.mgmt := rfl
@[simp] theorem State.holdAll_bond (s : State)  : (s.holdAll).bond = s.bond := rfl
@[simp] theorem State.holdAll_xing (s : State)  : (s.holdAll).xing = s.xing := rfl
@[simp] theorem State.holdAll_lnk (s : State)  : (s.holdAll).lnk = s.lnk := rfl
@[simp] theorem State.holdAll_route (s : State)  : (s.holdAll).route = s.route := rfl
@[simp] theorem State.holdAll_dlv (s : State)  : (s.holdAll).dlv = s.dlv := rfl
@[simp] theorem State.holdAll_time (s : State)  : (s.holdAll).time = s.time := rfl
@[simp] theorem State.holdAll_pace (s : State)  : (s.holdAll).pace = s.pace := rfl
@[simp] theorem State.holdAll_pour (s : State)  : (s.holdAll).pour = s.pour := rfl
@[simp] theorem State.holdAll_blend (s : State)  : (s.holdAll).blend = s.blend := rfl
@[simp] theorem State.holdAll_prog (s : State)  : (s.holdAll).prog = s.prog := rfl
@[simp] theorem State.holdAll_track (s : State)  : (s.holdAll).track = s.track := rfl
@[simp] theorem State.holdAll_ecc (s : State)  : (s.holdAll).ecc = s.ecc := rfl
@[simp] theorem State.holdAll_test (s : State)  : (s.holdAll).test = s.test := rfl

/-! ## State.setLk -/

@[simp] theorem State.setLk_lnk (s : State) (n : Nat) (l : LinkSt) : (s.setLk n l).lnk = Sparse.set (fun _ => LinkSt.reset) s.lnk n l := rfl
@[simp] theorem State.setLk_pending (s : State) (n : Nat) (l : LinkSt) : (s.setLk n l).pending = s.pending := rfl
@[simp] theorem State.setLk_tiles (s : State) (n : Nat) (l : LinkSt) : (s.setLk n l).tiles = s.tiles := rfl
@[simp] theorem State.setLk_links (s : State) (n : Nat) (l : LinkSt) : (s.setLk n l).links = s.links := rfl
@[simp] theorem State.setLk_draws (s : State) (n : Nat) (l : LinkSt) : (s.setLk n l).draws = s.draws := rfl
@[simp] theorem State.setLk_bReset (s : State) (n : Nat) (l : LinkSt) : (s.setLk n l).bReset = s.bReset := rfl
@[simp] theorem State.setLk_tReset (s : State) (n : Nat) (l : LinkSt) : (s.setLk n l).tReset = s.tReset := rfl
@[simp] theorem State.setLk_kclk (s : State) (n : Nat) (l : LinkSt) : (s.setLk n l).kclk = s.kclk := rfl
@[simp] theorem State.setLk_tclk (s : State) (n : Nat) (l : LinkSt) : (s.setLk n l).tclk = s.tclk := rfl
@[simp] theorem State.setLk_hold (s : State) (n : Nat) (l : LinkSt) : (s.setLk n l).hold = s.hold := rfl
@[simp] theorem State.setLk_tHold (s : State) (n : Nat) (l : LinkSt) : (s.setLk n l).tHold = s.tHold := rfl
@[simp] theorem State.setLk_portsUp (s : State) (n : Nat) (l : LinkSt) : (s.setLk n l).portsUp = s.portsUp := rfl
@[simp] theorem State.setLk_regs (s : State) (n : Nat) (l : LinkSt) : (s.setLk n l).regs = s.regs := rfl
@[simp] theorem State.setLk_caddy (s : State) (n : Nat) (l : LinkSt) : (s.setLk n l).caddy = s.caddy := rfl
@[simp] theorem State.setLk_hdr (s : State) (n : Nat) (l : LinkSt) : (s.setLk n l).hdr = s.hdr := rfl
@[simp] theorem State.setLk_caddyShut (s : State) (n : Nat) (l : LinkSt) : (s.setLk n l).caddyShut = s.caddyShut := rfl
@[simp] theorem State.setLk_latches (s : State) (n : Nat) (l : LinkSt) : (s.setLk n l).latches = s.latches := rfl
@[simp] theorem State.setLk_pins (s : State) (n : Nat) (l : LinkSt) : (s.setLk n l).pins = s.pins := rfl
@[simp] theorem State.setLk_boot (s : State) (n : Nat) (l : LinkSt) : (s.setLk n l).boot = s.boot := rfl
@[simp] theorem State.setLk_mgmt (s : State) (n : Nat) (l : LinkSt) : (s.setLk n l).mgmt = s.mgmt := rfl
@[simp] theorem State.setLk_bond (s : State) (n : Nat) (l : LinkSt) : (s.setLk n l).bond = s.bond := rfl
@[simp] theorem State.setLk_xing (s : State) (n : Nat) (l : LinkSt) : (s.setLk n l).xing = s.xing := rfl
@[simp] theorem State.setLk_route (s : State) (n : Nat) (l : LinkSt) : (s.setLk n l).route = s.route := rfl
@[simp] theorem State.setLk_dlv (s : State) (n : Nat) (l : LinkSt) : (s.setLk n l).dlv = s.dlv := rfl
@[simp] theorem State.setLk_time (s : State) (n : Nat) (l : LinkSt) : (s.setLk n l).time = s.time := rfl
@[simp] theorem State.setLk_pace (s : State) (n : Nat) (l : LinkSt) : (s.setLk n l).pace = s.pace := rfl
@[simp] theorem State.setLk_pour (s : State) (n : Nat) (l : LinkSt) : (s.setLk n l).pour = s.pour := rfl
@[simp] theorem State.setLk_blend (s : State) (n : Nat) (l : LinkSt) : (s.setLk n l).blend = s.blend := rfl
@[simp] theorem State.setLk_prog (s : State) (n : Nat) (l : LinkSt) : (s.setLk n l).prog = s.prog := rfl
@[simp] theorem State.setLk_track (s : State) (n : Nat) (l : LinkSt) : (s.setLk n l).track = s.track := rfl
@[simp] theorem State.setLk_ecc (s : State) (n : Nat) (l : LinkSt) : (s.setLk n l).ecc = s.ecc := rfl
@[simp] theorem State.setLk_test (s : State) (n : Nat) (l : LinkSt) : (s.setLk n l).test = s.test := rfl

/-! ## State.emod -/

@[simp] theorem State.emod_ecc (s : State) (f : EccSt → EccSt) : (s.emod f).ecc = f s.ecc := rfl
@[simp] theorem State.emod_pending (s : State) (f : EccSt → EccSt) : (s.emod f).pending = s.pending := rfl
@[simp] theorem State.emod_tiles (s : State) (f : EccSt → EccSt) : (s.emod f).tiles = s.tiles := rfl
@[simp] theorem State.emod_links (s : State) (f : EccSt → EccSt) : (s.emod f).links = s.links := rfl
@[simp] theorem State.emod_draws (s : State) (f : EccSt → EccSt) : (s.emod f).draws = s.draws := rfl
@[simp] theorem State.emod_bReset (s : State) (f : EccSt → EccSt) : (s.emod f).bReset = s.bReset := rfl
@[simp] theorem State.emod_tReset (s : State) (f : EccSt → EccSt) : (s.emod f).tReset = s.tReset := rfl
@[simp] theorem State.emod_kclk (s : State) (f : EccSt → EccSt) : (s.emod f).kclk = s.kclk := rfl
@[simp] theorem State.emod_tclk (s : State) (f : EccSt → EccSt) : (s.emod f).tclk = s.tclk := rfl
@[simp] theorem State.emod_hold (s : State) (f : EccSt → EccSt) : (s.emod f).hold = s.hold := rfl
@[simp] theorem State.emod_tHold (s : State) (f : EccSt → EccSt) : (s.emod f).tHold = s.tHold := rfl
@[simp] theorem State.emod_portsUp (s : State) (f : EccSt → EccSt) : (s.emod f).portsUp = s.portsUp := rfl
@[simp] theorem State.emod_regs (s : State) (f : EccSt → EccSt) : (s.emod f).regs = s.regs := rfl
@[simp] theorem State.emod_caddy (s : State) (f : EccSt → EccSt) : (s.emod f).caddy = s.caddy := rfl
@[simp] theorem State.emod_hdr (s : State) (f : EccSt → EccSt) : (s.emod f).hdr = s.hdr := rfl
@[simp] theorem State.emod_caddyShut (s : State) (f : EccSt → EccSt) : (s.emod f).caddyShut = s.caddyShut := rfl
@[simp] theorem State.emod_latches (s : State) (f : EccSt → EccSt) : (s.emod f).latches = s.latches := rfl
@[simp] theorem State.emod_pins (s : State) (f : EccSt → EccSt) : (s.emod f).pins = s.pins := rfl
@[simp] theorem State.emod_boot (s : State) (f : EccSt → EccSt) : (s.emod f).boot = s.boot := rfl
@[simp] theorem State.emod_mgmt (s : State) (f : EccSt → EccSt) : (s.emod f).mgmt = s.mgmt := rfl
@[simp] theorem State.emod_bond (s : State) (f : EccSt → EccSt) : (s.emod f).bond = s.bond := rfl
@[simp] theorem State.emod_xing (s : State) (f : EccSt → EccSt) : (s.emod f).xing = s.xing := rfl
@[simp] theorem State.emod_lnk (s : State) (f : EccSt → EccSt) : (s.emod f).lnk = s.lnk := rfl
@[simp] theorem State.emod_route (s : State) (f : EccSt → EccSt) : (s.emod f).route = s.route := rfl
@[simp] theorem State.emod_dlv (s : State) (f : EccSt → EccSt) : (s.emod f).dlv = s.dlv := rfl
@[simp] theorem State.emod_time (s : State) (f : EccSt → EccSt) : (s.emod f).time = s.time := rfl
@[simp] theorem State.emod_pace (s : State) (f : EccSt → EccSt) : (s.emod f).pace = s.pace := rfl
@[simp] theorem State.emod_pour (s : State) (f : EccSt → EccSt) : (s.emod f).pour = s.pour := rfl
@[simp] theorem State.emod_blend (s : State) (f : EccSt → EccSt) : (s.emod f).blend = s.blend := rfl
@[simp] theorem State.emod_prog (s : State) (f : EccSt → EccSt) : (s.emod f).prog = s.prog := rfl
@[simp] theorem State.emod_track (s : State) (f : EccSt → EccSt) : (s.emod f).track = s.track := rfl
@[simp] theorem State.emod_test (s : State) (f : EccSt → EccSt) : (s.emod f).test = s.test := rfl

/-! ## State.setPx -/

@[simp] theorem State.setPx_prog (s : State) (p : Nat) (x : ProgX) : (s.setPx p x).prog = Sparse.set (fun _ => ProgX.reset) s.prog p x := rfl
@[simp] theorem State.setPx_pending (s : State) (p : Nat) (x : ProgX) : (s.setPx p x).pending = s.pending := rfl
@[simp] theorem State.setPx_tiles (s : State) (p : Nat) (x : ProgX) : (s.setPx p x).tiles = s.tiles := rfl
@[simp] theorem State.setPx_links (s : State) (p : Nat) (x : ProgX) : (s.setPx p x).links = s.links := rfl
@[simp] theorem State.setPx_draws (s : State) (p : Nat) (x : ProgX) : (s.setPx p x).draws = s.draws := rfl
@[simp] theorem State.setPx_bReset (s : State) (p : Nat) (x : ProgX) : (s.setPx p x).bReset = s.bReset := rfl
@[simp] theorem State.setPx_tReset (s : State) (p : Nat) (x : ProgX) : (s.setPx p x).tReset = s.tReset := rfl
@[simp] theorem State.setPx_kclk (s : State) (p : Nat) (x : ProgX) : (s.setPx p x).kclk = s.kclk := rfl
@[simp] theorem State.setPx_tclk (s : State) (p : Nat) (x : ProgX) : (s.setPx p x).tclk = s.tclk := rfl
@[simp] theorem State.setPx_hold (s : State) (p : Nat) (x : ProgX) : (s.setPx p x).hold = s.hold := rfl
@[simp] theorem State.setPx_tHold (s : State) (p : Nat) (x : ProgX) : (s.setPx p x).tHold = s.tHold := rfl
@[simp] theorem State.setPx_portsUp (s : State) (p : Nat) (x : ProgX) : (s.setPx p x).portsUp = s.portsUp := rfl
@[simp] theorem State.setPx_regs (s : State) (p : Nat) (x : ProgX) : (s.setPx p x).regs = s.regs := rfl
@[simp] theorem State.setPx_caddy (s : State) (p : Nat) (x : ProgX) : (s.setPx p x).caddy = s.caddy := rfl
@[simp] theorem State.setPx_hdr (s : State) (p : Nat) (x : ProgX) : (s.setPx p x).hdr = s.hdr := rfl
@[simp] theorem State.setPx_caddyShut (s : State) (p : Nat) (x : ProgX) : (s.setPx p x).caddyShut = s.caddyShut := rfl
@[simp] theorem State.setPx_latches (s : State) (p : Nat) (x : ProgX) : (s.setPx p x).latches = s.latches := rfl
@[simp] theorem State.setPx_pins (s : State) (p : Nat) (x : ProgX) : (s.setPx p x).pins = s.pins := rfl
@[simp] theorem State.setPx_boot (s : State) (p : Nat) (x : ProgX) : (s.setPx p x).boot = s.boot := rfl
@[simp] theorem State.setPx_mgmt (s : State) (p : Nat) (x : ProgX) : (s.setPx p x).mgmt = s.mgmt := rfl
@[simp] theorem State.setPx_bond (s : State) (p : Nat) (x : ProgX) : (s.setPx p x).bond = s.bond := rfl
@[simp] theorem State.setPx_xing (s : State) (p : Nat) (x : ProgX) : (s.setPx p x).xing = s.xing := rfl
@[simp] theorem State.setPx_lnk (s : State) (p : Nat) (x : ProgX) : (s.setPx p x).lnk = s.lnk := rfl
@[simp] theorem State.setPx_route (s : State) (p : Nat) (x : ProgX) : (s.setPx p x).route = s.route := rfl
@[simp] theorem State.setPx_dlv (s : State) (p : Nat) (x : ProgX) : (s.setPx p x).dlv = s.dlv := rfl
@[simp] theorem State.setPx_time (s : State) (p : Nat) (x : ProgX) : (s.setPx p x).time = s.time := rfl
@[simp] theorem State.setPx_pace (s : State) (p : Nat) (x : ProgX) : (s.setPx p x).pace = s.pace := rfl
@[simp] theorem State.setPx_pour (s : State) (p : Nat) (x : ProgX) : (s.setPx p x).pour = s.pour := rfl
@[simp] theorem State.setPx_blend (s : State) (p : Nat) (x : ProgX) : (s.setPx p x).blend = s.blend := rfl
@[simp] theorem State.setPx_track (s : State) (p : Nat) (x : ProgX) : (s.setPx p x).track = s.track := rfl
@[simp] theorem State.setPx_ecc (s : State) (p : Nat) (x : ProgX) : (s.setPx p x).ecc = s.ecc := rfl
@[simp] theorem State.setPx_test (s : State) (p : Nat) (x : ProgX) : (s.setPx p x).test = s.test := rfl

/-! ## State.pmod -/

@[simp] theorem State.pmod_pace (s : State) (f : PaceSt → PaceSt) : (s.pmod f).pace = f s.pace := rfl
@[simp] theorem State.pmod_pending (s : State) (f : PaceSt → PaceSt) : (s.pmod f).pending = s.pending := rfl
@[simp] theorem State.pmod_tiles (s : State) (f : PaceSt → PaceSt) : (s.pmod f).tiles = s.tiles := rfl
@[simp] theorem State.pmod_links (s : State) (f : PaceSt → PaceSt) : (s.pmod f).links = s.links := rfl
@[simp] theorem State.pmod_draws (s : State) (f : PaceSt → PaceSt) : (s.pmod f).draws = s.draws := rfl
@[simp] theorem State.pmod_bReset (s : State) (f : PaceSt → PaceSt) : (s.pmod f).bReset = s.bReset := rfl
@[simp] theorem State.pmod_tReset (s : State) (f : PaceSt → PaceSt) : (s.pmod f).tReset = s.tReset := rfl
@[simp] theorem State.pmod_kclk (s : State) (f : PaceSt → PaceSt) : (s.pmod f).kclk = s.kclk := rfl
@[simp] theorem State.pmod_tclk (s : State) (f : PaceSt → PaceSt) : (s.pmod f).tclk = s.tclk := rfl
@[simp] theorem State.pmod_hold (s : State) (f : PaceSt → PaceSt) : (s.pmod f).hold = s.hold := rfl
@[simp] theorem State.pmod_tHold (s : State) (f : PaceSt → PaceSt) : (s.pmod f).tHold = s.tHold := rfl
@[simp] theorem State.pmod_portsUp (s : State) (f : PaceSt → PaceSt) : (s.pmod f).portsUp = s.portsUp := rfl
@[simp] theorem State.pmod_regs (s : State) (f : PaceSt → PaceSt) : (s.pmod f).regs = s.regs := rfl
@[simp] theorem State.pmod_caddy (s : State) (f : PaceSt → PaceSt) : (s.pmod f).caddy = s.caddy := rfl
@[simp] theorem State.pmod_hdr (s : State) (f : PaceSt → PaceSt) : (s.pmod f).hdr = s.hdr := rfl
@[simp] theorem State.pmod_caddyShut (s : State) (f : PaceSt → PaceSt) : (s.pmod f).caddyShut = s.caddyShut := rfl
@[simp] theorem State.pmod_latches (s : State) (f : PaceSt → PaceSt) : (s.pmod f).latches = s.latches := rfl
@[simp] theorem State.pmod_pins (s : State) (f : PaceSt → PaceSt) : (s.pmod f).pins = s.pins := rfl
@[simp] theorem State.pmod_boot (s : State) (f : PaceSt → PaceSt) : (s.pmod f).boot = s.boot := rfl
@[simp] theorem State.pmod_mgmt (s : State) (f : PaceSt → PaceSt) : (s.pmod f).mgmt = s.mgmt := rfl
@[simp] theorem State.pmod_bond (s : State) (f : PaceSt → PaceSt) : (s.pmod f).bond = s.bond := rfl
@[simp] theorem State.pmod_xing (s : State) (f : PaceSt → PaceSt) : (s.pmod f).xing = s.xing := rfl
@[simp] theorem State.pmod_lnk (s : State) (f : PaceSt → PaceSt) : (s.pmod f).lnk = s.lnk := rfl
@[simp] theorem State.pmod_route (s : State) (f : PaceSt → PaceSt) : (s.pmod f).route = s.route := rfl
@[simp] theorem State.pmod_dlv (s : State) (f : PaceSt → PaceSt) : (s.pmod f).dlv = s.dlv := rfl
@[simp] theorem State.pmod_time (s : State) (f : PaceSt → PaceSt) : (s.pmod f).time = s.time := rfl
@[simp] theorem State.pmod_pour (s : State) (f : PaceSt → PaceSt) : (s.pmod f).pour = s.pour := rfl
@[simp] theorem State.pmod_blend (s : State) (f : PaceSt → PaceSt) : (s.pmod f).blend = s.blend := rfl
@[simp] theorem State.pmod_prog (s : State) (f : PaceSt → PaceSt) : (s.pmod f).prog = s.prog := rfl
@[simp] theorem State.pmod_track (s : State) (f : PaceSt → PaceSt) : (s.pmod f).track = s.track := rfl
@[simp] theorem State.pmod_ecc (s : State) (f : PaceSt → PaceSt) : (s.pmod f).ecc = s.ecc := rfl
@[simp] theorem State.pmod_test (s : State) (f : PaceSt → PaceSt) : (s.pmod f).test = s.test := rfl

/-! ## State.omod -/

@[simp] theorem State.omod_pour (s : State) (f : PourSt → PourSt) : (s.omod f).pour = f s.pour := rfl
@[simp] theorem State.omod_pending (s : State) (f : PourSt → PourSt) : (s.omod f).pending = s.pending := rfl
@[simp] theorem State.omod_tiles (s : State) (f : PourSt → PourSt) : (s.omod f).tiles = s.tiles := rfl
@[simp] theorem State.omod_links (s : State) (f : PourSt → PourSt) : (s.omod f).links = s.links := rfl
@[simp] theorem State.omod_draws (s : State) (f : PourSt → PourSt) : (s.omod f).draws = s.draws := rfl
@[simp] theorem State.omod_bReset (s : State) (f : PourSt → PourSt) : (s.omod f).bReset = s.bReset := rfl
@[simp] theorem State.omod_tReset (s : State) (f : PourSt → PourSt) : (s.omod f).tReset = s.tReset := rfl
@[simp] theorem State.omod_kclk (s : State) (f : PourSt → PourSt) : (s.omod f).kclk = s.kclk := rfl
@[simp] theorem State.omod_tclk (s : State) (f : PourSt → PourSt) : (s.omod f).tclk = s.tclk := rfl
@[simp] theorem State.omod_hold (s : State) (f : PourSt → PourSt) : (s.omod f).hold = s.hold := rfl
@[simp] theorem State.omod_tHold (s : State) (f : PourSt → PourSt) : (s.omod f).tHold = s.tHold := rfl
@[simp] theorem State.omod_portsUp (s : State) (f : PourSt → PourSt) : (s.omod f).portsUp = s.portsUp := rfl
@[simp] theorem State.omod_regs (s : State) (f : PourSt → PourSt) : (s.omod f).regs = s.regs := rfl
@[simp] theorem State.omod_caddy (s : State) (f : PourSt → PourSt) : (s.omod f).caddy = s.caddy := rfl
@[simp] theorem State.omod_hdr (s : State) (f : PourSt → PourSt) : (s.omod f).hdr = s.hdr := rfl
@[simp] theorem State.omod_caddyShut (s : State) (f : PourSt → PourSt) : (s.omod f).caddyShut = s.caddyShut := rfl
@[simp] theorem State.omod_latches (s : State) (f : PourSt → PourSt) : (s.omod f).latches = s.latches := rfl
@[simp] theorem State.omod_pins (s : State) (f : PourSt → PourSt) : (s.omod f).pins = s.pins := rfl
@[simp] theorem State.omod_boot (s : State) (f : PourSt → PourSt) : (s.omod f).boot = s.boot := rfl
@[simp] theorem State.omod_mgmt (s : State) (f : PourSt → PourSt) : (s.omod f).mgmt = s.mgmt := rfl
@[simp] theorem State.omod_bond (s : State) (f : PourSt → PourSt) : (s.omod f).bond = s.bond := rfl
@[simp] theorem State.omod_xing (s : State) (f : PourSt → PourSt) : (s.omod f).xing = s.xing := rfl
@[simp] theorem State.omod_lnk (s : State) (f : PourSt → PourSt) : (s.omod f).lnk = s.lnk := rfl
@[simp] theorem State.omod_route (s : State) (f : PourSt → PourSt) : (s.omod f).route = s.route := rfl
@[simp] theorem State.omod_dlv (s : State) (f : PourSt → PourSt) : (s.omod f).dlv = s.dlv := rfl
@[simp] theorem State.omod_time (s : State) (f : PourSt → PourSt) : (s.omod f).time = s.time := rfl
@[simp] theorem State.omod_pace (s : State) (f : PourSt → PourSt) : (s.omod f).pace = s.pace := rfl
@[simp] theorem State.omod_blend (s : State) (f : PourSt → PourSt) : (s.omod f).blend = s.blend := rfl
@[simp] theorem State.omod_prog (s : State) (f : PourSt → PourSt) : (s.omod f).prog = s.prog := rfl
@[simp] theorem State.omod_track (s : State) (f : PourSt → PourSt) : (s.omod f).track = s.track := rfl
@[simp] theorem State.omod_ecc (s : State) (f : PourSt → PourSt) : (s.omod f).ecc = s.ecc := rfl
@[simp] theorem State.omod_test (s : State) (f : PourSt → PourSt) : (s.omod f).test = s.test := rfl

/-! ## State.tmod -/

@[simp] theorem State.tmod_time (s : State) (f : TimeSt → TimeSt) : (s.tmod f).time = f s.time := rfl
@[simp] theorem State.tmod_pending (s : State) (f : TimeSt → TimeSt) : (s.tmod f).pending = s.pending := rfl
@[simp] theorem State.tmod_tiles (s : State) (f : TimeSt → TimeSt) : (s.tmod f).tiles = s.tiles := rfl
@[simp] theorem State.tmod_links (s : State) (f : TimeSt → TimeSt) : (s.tmod f).links = s.links := rfl
@[simp] theorem State.tmod_draws (s : State) (f : TimeSt → TimeSt) : (s.tmod f).draws = s.draws := rfl
@[simp] theorem State.tmod_bReset (s : State) (f : TimeSt → TimeSt) : (s.tmod f).bReset = s.bReset := rfl
@[simp] theorem State.tmod_tReset (s : State) (f : TimeSt → TimeSt) : (s.tmod f).tReset = s.tReset := rfl
@[simp] theorem State.tmod_kclk (s : State) (f : TimeSt → TimeSt) : (s.tmod f).kclk = s.kclk := rfl
@[simp] theorem State.tmod_tclk (s : State) (f : TimeSt → TimeSt) : (s.tmod f).tclk = s.tclk := rfl
@[simp] theorem State.tmod_hold (s : State) (f : TimeSt → TimeSt) : (s.tmod f).hold = s.hold := rfl
@[simp] theorem State.tmod_tHold (s : State) (f : TimeSt → TimeSt) : (s.tmod f).tHold = s.tHold := rfl
@[simp] theorem State.tmod_portsUp (s : State) (f : TimeSt → TimeSt) : (s.tmod f).portsUp = s.portsUp := rfl
@[simp] theorem State.tmod_regs (s : State) (f : TimeSt → TimeSt) : (s.tmod f).regs = s.regs := rfl
@[simp] theorem State.tmod_caddy (s : State) (f : TimeSt → TimeSt) : (s.tmod f).caddy = s.caddy := rfl
@[simp] theorem State.tmod_hdr (s : State) (f : TimeSt → TimeSt) : (s.tmod f).hdr = s.hdr := rfl
@[simp] theorem State.tmod_caddyShut (s : State) (f : TimeSt → TimeSt) : (s.tmod f).caddyShut = s.caddyShut := rfl
@[simp] theorem State.tmod_latches (s : State) (f : TimeSt → TimeSt) : (s.tmod f).latches = s.latches := rfl
@[simp] theorem State.tmod_pins (s : State) (f : TimeSt → TimeSt) : (s.tmod f).pins = s.pins := rfl
@[simp] theorem State.tmod_boot (s : State) (f : TimeSt → TimeSt) : (s.tmod f).boot = s.boot := rfl
@[simp] theorem State.tmod_mgmt (s : State) (f : TimeSt → TimeSt) : (s.tmod f).mgmt = s.mgmt := rfl
@[simp] theorem State.tmod_bond (s : State) (f : TimeSt → TimeSt) : (s.tmod f).bond = s.bond := rfl
@[simp] theorem State.tmod_xing (s : State) (f : TimeSt → TimeSt) : (s.tmod f).xing = s.xing := rfl
@[simp] theorem State.tmod_lnk (s : State) (f : TimeSt → TimeSt) : (s.tmod f).lnk = s.lnk := rfl
@[simp] theorem State.tmod_route (s : State) (f : TimeSt → TimeSt) : (s.tmod f).route = s.route := rfl
@[simp] theorem State.tmod_dlv (s : State) (f : TimeSt → TimeSt) : (s.tmod f).dlv = s.dlv := rfl
@[simp] theorem State.tmod_pace (s : State) (f : TimeSt → TimeSt) : (s.tmod f).pace = s.pace := rfl
@[simp] theorem State.tmod_pour (s : State) (f : TimeSt → TimeSt) : (s.tmod f).pour = s.pour := rfl
@[simp] theorem State.tmod_blend (s : State) (f : TimeSt → TimeSt) : (s.tmod f).blend = s.blend := rfl
@[simp] theorem State.tmod_prog (s : State) (f : TimeSt → TimeSt) : (s.tmod f).prog = s.prog := rfl
@[simp] theorem State.tmod_track (s : State) (f : TimeSt → TimeSt) : (s.tmod f).track = s.track := rfl
@[simp] theorem State.tmod_ecc (s : State) (f : TimeSt → TimeSt) : (s.tmod f).ecc = s.ecc := rfl
@[simp] theorem State.tmod_test (s : State) (f : TimeSt → TimeSt) : (s.tmod f).test = s.test := rfl

/-! ## State.bmod -/

@[simp] theorem State.bmod_blend (s : State) (f : BlendSt → BlendSt) : (s.bmod f).blend = f s.blend := rfl
@[simp] theorem State.bmod_pending (s : State) (f : BlendSt → BlendSt) : (s.bmod f).pending = s.pending := rfl
@[simp] theorem State.bmod_tiles (s : State) (f : BlendSt → BlendSt) : (s.bmod f).tiles = s.tiles := rfl
@[simp] theorem State.bmod_links (s : State) (f : BlendSt → BlendSt) : (s.bmod f).links = s.links := rfl
@[simp] theorem State.bmod_draws (s : State) (f : BlendSt → BlendSt) : (s.bmod f).draws = s.draws := rfl
@[simp] theorem State.bmod_bReset (s : State) (f : BlendSt → BlendSt) : (s.bmod f).bReset = s.bReset := rfl
@[simp] theorem State.bmod_tReset (s : State) (f : BlendSt → BlendSt) : (s.bmod f).tReset = s.tReset := rfl
@[simp] theorem State.bmod_kclk (s : State) (f : BlendSt → BlendSt) : (s.bmod f).kclk = s.kclk := rfl
@[simp] theorem State.bmod_tclk (s : State) (f : BlendSt → BlendSt) : (s.bmod f).tclk = s.tclk := rfl
@[simp] theorem State.bmod_hold (s : State) (f : BlendSt → BlendSt) : (s.bmod f).hold = s.hold := rfl
@[simp] theorem State.bmod_tHold (s : State) (f : BlendSt → BlendSt) : (s.bmod f).tHold = s.tHold := rfl
@[simp] theorem State.bmod_portsUp (s : State) (f : BlendSt → BlendSt) : (s.bmod f).portsUp = s.portsUp := rfl
@[simp] theorem State.bmod_regs (s : State) (f : BlendSt → BlendSt) : (s.bmod f).regs = s.regs := rfl
@[simp] theorem State.bmod_caddy (s : State) (f : BlendSt → BlendSt) : (s.bmod f).caddy = s.caddy := rfl
@[simp] theorem State.bmod_hdr (s : State) (f : BlendSt → BlendSt) : (s.bmod f).hdr = s.hdr := rfl
@[simp] theorem State.bmod_caddyShut (s : State) (f : BlendSt → BlendSt) : (s.bmod f).caddyShut = s.caddyShut := rfl
@[simp] theorem State.bmod_latches (s : State) (f : BlendSt → BlendSt) : (s.bmod f).latches = s.latches := rfl
@[simp] theorem State.bmod_pins (s : State) (f : BlendSt → BlendSt) : (s.bmod f).pins = s.pins := rfl
@[simp] theorem State.bmod_boot (s : State) (f : BlendSt → BlendSt) : (s.bmod f).boot = s.boot := rfl
@[simp] theorem State.bmod_mgmt (s : State) (f : BlendSt → BlendSt) : (s.bmod f).mgmt = s.mgmt := rfl
@[simp] theorem State.bmod_bond (s : State) (f : BlendSt → BlendSt) : (s.bmod f).bond = s.bond := rfl
@[simp] theorem State.bmod_xing (s : State) (f : BlendSt → BlendSt) : (s.bmod f).xing = s.xing := rfl
@[simp] theorem State.bmod_lnk (s : State) (f : BlendSt → BlendSt) : (s.bmod f).lnk = s.lnk := rfl
@[simp] theorem State.bmod_route (s : State) (f : BlendSt → BlendSt) : (s.bmod f).route = s.route := rfl
@[simp] theorem State.bmod_dlv (s : State) (f : BlendSt → BlendSt) : (s.bmod f).dlv = s.dlv := rfl
@[simp] theorem State.bmod_time (s : State) (f : BlendSt → BlendSt) : (s.bmod f).time = s.time := rfl
@[simp] theorem State.bmod_pace (s : State) (f : BlendSt → BlendSt) : (s.bmod f).pace = s.pace := rfl
@[simp] theorem State.bmod_pour (s : State) (f : BlendSt → BlendSt) : (s.bmod f).pour = s.pour := rfl
@[simp] theorem State.bmod_prog (s : State) (f : BlendSt → BlendSt) : (s.bmod f).prog = s.prog := rfl
@[simp] theorem State.bmod_track (s : State) (f : BlendSt → BlendSt) : (s.bmod f).track = s.track := rfl
@[simp] theorem State.bmod_ecc (s : State) (f : BlendSt → BlendSt) : (s.bmod f).ecc = s.ecc := rfl
@[simp] theorem State.bmod_test (s : State) (f : BlendSt → BlendSt) : (s.bmod f).test = s.test := rfl

/-! ## State.imod -/

@[simp] theorem State.imod_mgmt (s : State) (f : I3cSt → I3cSt) : (s.imod f).mgmt = { s.mgmt with i3c := f s.mgmt.i3c } := rfl
@[simp] theorem State.imod_pending (s : State) (f : I3cSt → I3cSt) : (s.imod f).pending = s.pending := rfl
@[simp] theorem State.imod_tiles (s : State) (f : I3cSt → I3cSt) : (s.imod f).tiles = s.tiles := rfl
@[simp] theorem State.imod_links (s : State) (f : I3cSt → I3cSt) : (s.imod f).links = s.links := rfl
@[simp] theorem State.imod_draws (s : State) (f : I3cSt → I3cSt) : (s.imod f).draws = s.draws := rfl
@[simp] theorem State.imod_bReset (s : State) (f : I3cSt → I3cSt) : (s.imod f).bReset = s.bReset := rfl
@[simp] theorem State.imod_tReset (s : State) (f : I3cSt → I3cSt) : (s.imod f).tReset = s.tReset := rfl
@[simp] theorem State.imod_kclk (s : State) (f : I3cSt → I3cSt) : (s.imod f).kclk = s.kclk := rfl
@[simp] theorem State.imod_tclk (s : State) (f : I3cSt → I3cSt) : (s.imod f).tclk = s.tclk := rfl
@[simp] theorem State.imod_hold (s : State) (f : I3cSt → I3cSt) : (s.imod f).hold = s.hold := rfl
@[simp] theorem State.imod_tHold (s : State) (f : I3cSt → I3cSt) : (s.imod f).tHold = s.tHold := rfl
@[simp] theorem State.imod_portsUp (s : State) (f : I3cSt → I3cSt) : (s.imod f).portsUp = s.portsUp := rfl
@[simp] theorem State.imod_regs (s : State) (f : I3cSt → I3cSt) : (s.imod f).regs = s.regs := rfl
@[simp] theorem State.imod_caddy (s : State) (f : I3cSt → I3cSt) : (s.imod f).caddy = s.caddy := rfl
@[simp] theorem State.imod_hdr (s : State) (f : I3cSt → I3cSt) : (s.imod f).hdr = s.hdr := rfl
@[simp] theorem State.imod_caddyShut (s : State) (f : I3cSt → I3cSt) : (s.imod f).caddyShut = s.caddyShut := rfl
@[simp] theorem State.imod_latches (s : State) (f : I3cSt → I3cSt) : (s.imod f).latches = s.latches := rfl
@[simp] theorem State.imod_pins (s : State) (f : I3cSt → I3cSt) : (s.imod f).pins = s.pins := rfl
@[simp] theorem State.imod_boot (s : State) (f : I3cSt → I3cSt) : (s.imod f).boot = s.boot := rfl
@[simp] theorem State.imod_bond (s : State) (f : I3cSt → I3cSt) : (s.imod f).bond = s.bond := rfl
@[simp] theorem State.imod_xing (s : State) (f : I3cSt → I3cSt) : (s.imod f).xing = s.xing := rfl
@[simp] theorem State.imod_lnk (s : State) (f : I3cSt → I3cSt) : (s.imod f).lnk = s.lnk := rfl
@[simp] theorem State.imod_route (s : State) (f : I3cSt → I3cSt) : (s.imod f).route = s.route := rfl
@[simp] theorem State.imod_dlv (s : State) (f : I3cSt → I3cSt) : (s.imod f).dlv = s.dlv := rfl
@[simp] theorem State.imod_time (s : State) (f : I3cSt → I3cSt) : (s.imod f).time = s.time := rfl
@[simp] theorem State.imod_pace (s : State) (f : I3cSt → I3cSt) : (s.imod f).pace = s.pace := rfl
@[simp] theorem State.imod_pour (s : State) (f : I3cSt → I3cSt) : (s.imod f).pour = s.pour := rfl
@[simp] theorem State.imod_blend (s : State) (f : I3cSt → I3cSt) : (s.imod f).blend = s.blend := rfl
@[simp] theorem State.imod_prog (s : State) (f : I3cSt → I3cSt) : (s.imod f).prog = s.prog := rfl
@[simp] theorem State.imod_track (s : State) (f : I3cSt → I3cSt) : (s.imod f).track = s.track := rfl
@[simp] theorem State.imod_ecc (s : State) (f : I3cSt → I3cSt) : (s.imod f).ecc = s.ecc := rfl
@[simp] theorem State.imod_test (s : State) (f : I3cSt → I3cSt) : (s.imod f).test = s.test := rfl

/-! ## State.tookT -/

@[simp] theorem State.tookT_pending (s : State) (ty body : Nat) : (s.tookT ty body).pending = s.pending := rfl
@[simp] theorem State.tookT_tiles (s : State) (ty body : Nat) : (s.tookT ty body).tiles = s.tiles := rfl
@[simp] theorem State.tookT_links (s : State) (ty body : Nat) : (s.tookT ty body).links = s.links := rfl
@[simp] theorem State.tookT_draws (s : State) (ty body : Nat) : (s.tookT ty body).draws = s.draws := rfl
@[simp] theorem State.tookT_bReset (s : State) (ty body : Nat) : (s.tookT ty body).bReset = s.bReset := rfl
@[simp] theorem State.tookT_tReset (s : State) (ty body : Nat) : (s.tookT ty body).tReset = s.tReset := rfl
@[simp] theorem State.tookT_kclk (s : State) (ty body : Nat) : (s.tookT ty body).kclk = s.kclk := rfl
@[simp] theorem State.tookT_tclk (s : State) (ty body : Nat) : (s.tookT ty body).tclk = s.tclk := rfl
@[simp] theorem State.tookT_hold (s : State) (ty body : Nat) : (s.tookT ty body).hold = s.hold := rfl
@[simp] theorem State.tookT_tHold (s : State) (ty body : Nat) : (s.tookT ty body).tHold = s.tHold := rfl
@[simp] theorem State.tookT_portsUp (s : State) (ty body : Nat) : (s.tookT ty body).portsUp = s.portsUp := rfl
@[simp] theorem State.tookT_regs (s : State) (ty body : Nat) : (s.tookT ty body).regs = s.regs := rfl
@[simp] theorem State.tookT_caddy (s : State) (ty body : Nat) : (s.tookT ty body).caddy = s.caddy := rfl
@[simp] theorem State.tookT_hdr (s : State) (ty body : Nat) : (s.tookT ty body).hdr = s.hdr := rfl
@[simp] theorem State.tookT_caddyShut (s : State) (ty body : Nat) : (s.tookT ty body).caddyShut = s.caddyShut := rfl
@[simp] theorem State.tookT_latches (s : State) (ty body : Nat) : (s.tookT ty body).latches = s.latches := rfl
@[simp] theorem State.tookT_pins (s : State) (ty body : Nat) : (s.tookT ty body).pins = s.pins := rfl
@[simp] theorem State.tookT_boot (s : State) (ty body : Nat) : (s.tookT ty body).boot = s.boot := rfl
@[simp] theorem State.tookT_mgmt (s : State) (ty body : Nat) : (s.tookT ty body).mgmt = s.mgmt := rfl
@[simp] theorem State.tookT_xing (s : State) (ty body : Nat) : (s.tookT ty body).xing = s.xing := rfl
@[simp] theorem State.tookT_lnk (s : State) (ty body : Nat) : (s.tookT ty body).lnk = s.lnk := rfl
@[simp] theorem State.tookT_route (s : State) (ty body : Nat) : (s.tookT ty body).route = s.route := rfl
@[simp] theorem State.tookT_dlv (s : State) (ty body : Nat) : (s.tookT ty body).dlv = s.dlv := rfl
@[simp] theorem State.tookT_time (s : State) (ty body : Nat) : (s.tookT ty body).time = s.time := rfl
@[simp] theorem State.tookT_pace (s : State) (ty body : Nat) : (s.tookT ty body).pace = s.pace := rfl
@[simp] theorem State.tookT_pour (s : State) (ty body : Nat) : (s.tookT ty body).pour = s.pour := rfl
@[simp] theorem State.tookT_blend (s : State) (ty body : Nat) : (s.tookT ty body).blend = s.blend := rfl
@[simp] theorem State.tookT_prog (s : State) (ty body : Nat) : (s.tookT ty body).prog = s.prog := rfl
@[simp] theorem State.tookT_track (s : State) (ty body : Nat) : (s.tookT ty body).track = s.track := rfl
@[simp] theorem State.tookT_ecc (s : State) (ty body : Nat) : (s.tookT ty body).ecc = s.ecc := rfl
@[simp] theorem State.tookT_test (s : State) (ty body : Nat) : (s.tookT ty body).test = s.test := rfl

/-! ## State.tookB -/

@[simp] theorem State.tookB_pending (s : State) (ty body : Nat) : (s.tookB ty body).pending = s.pending := rfl
@[simp] theorem State.tookB_tiles (s : State) (ty body : Nat) : (s.tookB ty body).tiles = s.tiles := rfl
@[simp] theorem State.tookB_links (s : State) (ty body : Nat) : (s.tookB ty body).links = s.links := rfl
@[simp] theorem State.tookB_draws (s : State) (ty body : Nat) : (s.tookB ty body).draws = s.draws := rfl
@[simp] theorem State.tookB_bReset (s : State) (ty body : Nat) : (s.tookB ty body).bReset = s.bReset := rfl
@[simp] theorem State.tookB_tReset (s : State) (ty body : Nat) : (s.tookB ty body).tReset = s.tReset := rfl
@[simp] theorem State.tookB_kclk (s : State) (ty body : Nat) : (s.tookB ty body).kclk = s.kclk := rfl
@[simp] theorem State.tookB_tclk (s : State) (ty body : Nat) : (s.tookB ty body).tclk = s.tclk := rfl
@[simp] theorem State.tookB_hold (s : State) (ty body : Nat) : (s.tookB ty body).hold = s.hold := rfl
@[simp] theorem State.tookB_tHold (s : State) (ty body : Nat) : (s.tookB ty body).tHold = s.tHold := rfl
@[simp] theorem State.tookB_portsUp (s : State) (ty body : Nat) : (s.tookB ty body).portsUp = s.portsUp := rfl
@[simp] theorem State.tookB_regs (s : State) (ty body : Nat) : (s.tookB ty body).regs = s.regs := rfl
@[simp] theorem State.tookB_caddy (s : State) (ty body : Nat) : (s.tookB ty body).caddy = s.caddy := rfl
@[simp] theorem State.tookB_hdr (s : State) (ty body : Nat) : (s.tookB ty body).hdr = s.hdr := rfl
@[simp] theorem State.tookB_caddyShut (s : State) (ty body : Nat) : (s.tookB ty body).caddyShut = s.caddyShut := rfl
@[simp] theorem State.tookB_latches (s : State) (ty body : Nat) : (s.tookB ty body).latches = s.latches := rfl
@[simp] theorem State.tookB_pins (s : State) (ty body : Nat) : (s.tookB ty body).pins = s.pins := rfl
@[simp] theorem State.tookB_boot (s : State) (ty body : Nat) : (s.tookB ty body).boot = s.boot := rfl
@[simp] theorem State.tookB_mgmt (s : State) (ty body : Nat) : (s.tookB ty body).mgmt = s.mgmt := rfl
@[simp] theorem State.tookB_xing (s : State) (ty body : Nat) : (s.tookB ty body).xing = s.xing := rfl
@[simp] theorem State.tookB_lnk (s : State) (ty body : Nat) : (s.tookB ty body).lnk = s.lnk := rfl
@[simp] theorem State.tookB_route (s : State) (ty body : Nat) : (s.tookB ty body).route = s.route := rfl
@[simp] theorem State.tookB_dlv (s : State) (ty body : Nat) : (s.tookB ty body).dlv = s.dlv := rfl
@[simp] theorem State.tookB_time (s : State) (ty body : Nat) : (s.tookB ty body).time = s.time := rfl
@[simp] theorem State.tookB_pace (s : State) (ty body : Nat) : (s.tookB ty body).pace = s.pace := rfl
@[simp] theorem State.tookB_pour (s : State) (ty body : Nat) : (s.tookB ty body).pour = s.pour := rfl
@[simp] theorem State.tookB_blend (s : State) (ty body : Nat) : (s.tookB ty body).blend = s.blend := rfl
@[simp] theorem State.tookB_prog (s : State) (ty body : Nat) : (s.tookB ty body).prog = s.prog := rfl
@[simp] theorem State.tookB_track (s : State) (ty body : Nat) : (s.tookB ty body).track = s.track := rfl
@[simp] theorem State.tookB_ecc (s : State) (ty body : Nat) : (s.tookB ty body).ecc = s.ecc := rfl
@[simp] theorem State.tookB_test (s : State) (ty body : Nat) : (s.tookB ty body).test = s.test := rfl

/-! ## State.tookMsgT -/

@[simp] theorem State.tookMsgT_pending (s : State) (m : XMsg) : (s.tookMsgT m).pending = s.pending := rfl
@[simp] theorem State.tookMsgT_tiles (s : State) (m : XMsg) : (s.tookMsgT m).tiles = s.tiles := rfl
@[simp] theorem State.tookMsgT_links (s : State) (m : XMsg) : (s.tookMsgT m).links = s.links := rfl
@[simp] theorem State.tookMsgT_draws (s : State) (m : XMsg) : (s.tookMsgT m).draws = s.draws := rfl
@[simp] theorem State.tookMsgT_bReset (s : State) (m : XMsg) : (s.tookMsgT m).bReset = s.bReset := rfl
@[simp] theorem State.tookMsgT_tReset (s : State) (m : XMsg) : (s.tookMsgT m).tReset = s.tReset := rfl
@[simp] theorem State.tookMsgT_kclk (s : State) (m : XMsg) : (s.tookMsgT m).kclk = s.kclk := rfl
@[simp] theorem State.tookMsgT_tclk (s : State) (m : XMsg) : (s.tookMsgT m).tclk = s.tclk := rfl
@[simp] theorem State.tookMsgT_hold (s : State) (m : XMsg) : (s.tookMsgT m).hold = s.hold := rfl
@[simp] theorem State.tookMsgT_tHold (s : State) (m : XMsg) : (s.tookMsgT m).tHold = s.tHold := rfl
@[simp] theorem State.tookMsgT_portsUp (s : State) (m : XMsg) : (s.tookMsgT m).portsUp = s.portsUp := rfl
@[simp] theorem State.tookMsgT_regs (s : State) (m : XMsg) : (s.tookMsgT m).regs = s.regs := rfl
@[simp] theorem State.tookMsgT_caddy (s : State) (m : XMsg) : (s.tookMsgT m).caddy = s.caddy := rfl
@[simp] theorem State.tookMsgT_hdr (s : State) (m : XMsg) : (s.tookMsgT m).hdr = s.hdr := rfl
@[simp] theorem State.tookMsgT_caddyShut (s : State) (m : XMsg) : (s.tookMsgT m).caddyShut = s.caddyShut := rfl
@[simp] theorem State.tookMsgT_latches (s : State) (m : XMsg) : (s.tookMsgT m).latches = s.latches := rfl
@[simp] theorem State.tookMsgT_pins (s : State) (m : XMsg) : (s.tookMsgT m).pins = s.pins := rfl
@[simp] theorem State.tookMsgT_boot (s : State) (m : XMsg) : (s.tookMsgT m).boot = s.boot := rfl
@[simp] theorem State.tookMsgT_mgmt (s : State) (m : XMsg) : (s.tookMsgT m).mgmt = s.mgmt := rfl
@[simp] theorem State.tookMsgT_xing (s : State) (m : XMsg) : (s.tookMsgT m).xing = s.xing := rfl
@[simp] theorem State.tookMsgT_lnk (s : State) (m : XMsg) : (s.tookMsgT m).lnk = s.lnk := rfl
@[simp] theorem State.tookMsgT_route (s : State) (m : XMsg) : (s.tookMsgT m).route = s.route := rfl
@[simp] theorem State.tookMsgT_dlv (s : State) (m : XMsg) : (s.tookMsgT m).dlv = s.dlv := rfl
@[simp] theorem State.tookMsgT_time (s : State) (m : XMsg) : (s.tookMsgT m).time = s.time := rfl
@[simp] theorem State.tookMsgT_pace (s : State) (m : XMsg) : (s.tookMsgT m).pace = s.pace := rfl
@[simp] theorem State.tookMsgT_pour (s : State) (m : XMsg) : (s.tookMsgT m).pour = s.pour := rfl
@[simp] theorem State.tookMsgT_blend (s : State) (m : XMsg) : (s.tookMsgT m).blend = s.blend := rfl
@[simp] theorem State.tookMsgT_prog (s : State) (m : XMsg) : (s.tookMsgT m).prog = s.prog := rfl
@[simp] theorem State.tookMsgT_track (s : State) (m : XMsg) : (s.tookMsgT m).track = s.track := rfl
@[simp] theorem State.tookMsgT_ecc (s : State) (m : XMsg) : (s.tookMsgT m).ecc = s.ecc := rfl
@[simp] theorem State.tookMsgT_test (s : State) (m : XMsg) : (s.tookMsgT m).test = s.test := rfl

/-! ## State.tookMsgB -/

@[simp] theorem State.tookMsgB_pending (s : State) (m : XMsg) : (s.tookMsgB m).pending = s.pending := rfl
@[simp] theorem State.tookMsgB_tiles (s : State) (m : XMsg) : (s.tookMsgB m).tiles = s.tiles := rfl
@[simp] theorem State.tookMsgB_links (s : State) (m : XMsg) : (s.tookMsgB m).links = s.links := rfl
@[simp] theorem State.tookMsgB_draws (s : State) (m : XMsg) : (s.tookMsgB m).draws = s.draws := rfl
@[simp] theorem State.tookMsgB_bReset (s : State) (m : XMsg) : (s.tookMsgB m).bReset = s.bReset := rfl
@[simp] theorem State.tookMsgB_tReset (s : State) (m : XMsg) : (s.tookMsgB m).tReset = s.tReset := rfl
@[simp] theorem State.tookMsgB_kclk (s : State) (m : XMsg) : (s.tookMsgB m).kclk = s.kclk := rfl
@[simp] theorem State.tookMsgB_tclk (s : State) (m : XMsg) : (s.tookMsgB m).tclk = s.tclk := rfl
@[simp] theorem State.tookMsgB_hold (s : State) (m : XMsg) : (s.tookMsgB m).hold = s.hold := rfl
@[simp] theorem State.tookMsgB_tHold (s : State) (m : XMsg) : (s.tookMsgB m).tHold = s.tHold := rfl
@[simp] theorem State.tookMsgB_portsUp (s : State) (m : XMsg) : (s.tookMsgB m).portsUp = s.portsUp := rfl
@[simp] theorem State.tookMsgB_regs (s : State) (m : XMsg) : (s.tookMsgB m).regs = s.regs := rfl
@[simp] theorem State.tookMsgB_caddy (s : State) (m : XMsg) : (s.tookMsgB m).caddy = s.caddy := rfl
@[simp] theorem State.tookMsgB_hdr (s : State) (m : XMsg) : (s.tookMsgB m).hdr = s.hdr := rfl
@[simp] theorem State.tookMsgB_caddyShut (s : State) (m : XMsg) : (s.tookMsgB m).caddyShut = s.caddyShut := rfl
@[simp] theorem State.tookMsgB_latches (s : State) (m : XMsg) : (s.tookMsgB m).latches = s.latches := rfl
@[simp] theorem State.tookMsgB_pins (s : State) (m : XMsg) : (s.tookMsgB m).pins = s.pins := rfl
@[simp] theorem State.tookMsgB_boot (s : State) (m : XMsg) : (s.tookMsgB m).boot = s.boot := rfl
@[simp] theorem State.tookMsgB_mgmt (s : State) (m : XMsg) : (s.tookMsgB m).mgmt = s.mgmt := rfl
@[simp] theorem State.tookMsgB_xing (s : State) (m : XMsg) : (s.tookMsgB m).xing = s.xing := rfl
@[simp] theorem State.tookMsgB_lnk (s : State) (m : XMsg) : (s.tookMsgB m).lnk = s.lnk := rfl
@[simp] theorem State.tookMsgB_route (s : State) (m : XMsg) : (s.tookMsgB m).route = s.route := rfl
@[simp] theorem State.tookMsgB_dlv (s : State) (m : XMsg) : (s.tookMsgB m).dlv = s.dlv := rfl
@[simp] theorem State.tookMsgB_time (s : State) (m : XMsg) : (s.tookMsgB m).time = s.time := rfl
@[simp] theorem State.tookMsgB_pace (s : State) (m : XMsg) : (s.tookMsgB m).pace = s.pace := rfl
@[simp] theorem State.tookMsgB_pour (s : State) (m : XMsg) : (s.tookMsgB m).pour = s.pour := rfl
@[simp] theorem State.tookMsgB_blend (s : State) (m : XMsg) : (s.tookMsgB m).blend = s.blend := rfl
@[simp] theorem State.tookMsgB_prog (s : State) (m : XMsg) : (s.tookMsgB m).prog = s.prog := rfl
@[simp] theorem State.tookMsgB_track (s : State) (m : XMsg) : (s.tookMsgB m).track = s.track := rfl
@[simp] theorem State.tookMsgB_ecc (s : State) (m : XMsg) : (s.tookMsgB m).ecc = s.ecc := rfl
@[simp] theorem State.tookMsgB_test (s : State) (m : XMsg) : (s.tookMsgB m).test = s.test := rfl

/-! ## State.setGrp -/

@[simp] theorem State.setGrp_pending (s : State) (g : Nat) (x : Group) : (s.setGrp g x).pending = s.pending := rfl
@[simp] theorem State.setGrp_tiles (s : State) (g : Nat) (x : Group) : (s.setGrp g x).tiles = s.tiles := rfl
@[simp] theorem State.setGrp_links (s : State) (g : Nat) (x : Group) : (s.setGrp g x).links = s.links := rfl
@[simp] theorem State.setGrp_draws (s : State) (g : Nat) (x : Group) : (s.setGrp g x).draws = s.draws := rfl
@[simp] theorem State.setGrp_bReset (s : State) (g : Nat) (x : Group) : (s.setGrp g x).bReset = s.bReset := rfl
@[simp] theorem State.setGrp_tReset (s : State) (g : Nat) (x : Group) : (s.setGrp g x).tReset = s.tReset := rfl
@[simp] theorem State.setGrp_kclk (s : State) (g : Nat) (x : Group) : (s.setGrp g x).kclk = s.kclk := rfl
@[simp] theorem State.setGrp_tclk (s : State) (g : Nat) (x : Group) : (s.setGrp g x).tclk = s.tclk := rfl
@[simp] theorem State.setGrp_hold (s : State) (g : Nat) (x : Group) : (s.setGrp g x).hold = s.hold := rfl
@[simp] theorem State.setGrp_tHold (s : State) (g : Nat) (x : Group) : (s.setGrp g x).tHold = s.tHold := rfl
@[simp] theorem State.setGrp_portsUp (s : State) (g : Nat) (x : Group) : (s.setGrp g x).portsUp = s.portsUp := rfl
@[simp] theorem State.setGrp_regs (s : State) (g : Nat) (x : Group) : (s.setGrp g x).regs = s.regs := rfl
@[simp] theorem State.setGrp_caddy (s : State) (g : Nat) (x : Group) : (s.setGrp g x).caddy = s.caddy := rfl
@[simp] theorem State.setGrp_hdr (s : State) (g : Nat) (x : Group) : (s.setGrp g x).hdr = s.hdr := rfl
@[simp] theorem State.setGrp_caddyShut (s : State) (g : Nat) (x : Group) : (s.setGrp g x).caddyShut = s.caddyShut := rfl
@[simp] theorem State.setGrp_latches (s : State) (g : Nat) (x : Group) : (s.setGrp g x).latches = s.latches := rfl
@[simp] theorem State.setGrp_pins (s : State) (g : Nat) (x : Group) : (s.setGrp g x).pins = s.pins := rfl
@[simp] theorem State.setGrp_boot (s : State) (g : Nat) (x : Group) : (s.setGrp g x).boot = s.boot := rfl
@[simp] theorem State.setGrp_mgmt (s : State) (g : Nat) (x : Group) : (s.setGrp g x).mgmt = s.mgmt := rfl
@[simp] theorem State.setGrp_xing (s : State) (g : Nat) (x : Group) : (s.setGrp g x).xing = s.xing := rfl
@[simp] theorem State.setGrp_lnk (s : State) (g : Nat) (x : Group) : (s.setGrp g x).lnk = s.lnk := rfl
@[simp] theorem State.setGrp_route (s : State) (g : Nat) (x : Group) : (s.setGrp g x).route = s.route := rfl
@[simp] theorem State.setGrp_dlv (s : State) (g : Nat) (x : Group) : (s.setGrp g x).dlv = s.dlv := rfl
@[simp] theorem State.setGrp_time (s : State) (g : Nat) (x : Group) : (s.setGrp g x).time = s.time := rfl
@[simp] theorem State.setGrp_pace (s : State) (g : Nat) (x : Group) : (s.setGrp g x).pace = s.pace := rfl
@[simp] theorem State.setGrp_pour (s : State) (g : Nat) (x : Group) : (s.setGrp g x).pour = s.pour := rfl
@[simp] theorem State.setGrp_blend (s : State) (g : Nat) (x : Group) : (s.setGrp g x).blend = s.blend := rfl
@[simp] theorem State.setGrp_prog (s : State) (g : Nat) (x : Group) : (s.setGrp g x).prog = s.prog := rfl
@[simp] theorem State.setGrp_track (s : State) (g : Nat) (x : Group) : (s.setGrp g x).track = s.track := rfl
@[simp] theorem State.setGrp_ecc (s : State) (g : Nat) (x : Group) : (s.setGrp g x).ecc = s.ecc := rfl
@[simp] theorem State.setGrp_test (s : State) (g : Nat) (x : Group) : (s.setGrp g x).test = s.test := rfl

/-! ## State.noteSet -/

@[simp] theorem State.noteSet_regs (s : State) (e : Ev) : (s.noteSet e).regs = s.regs := rfl
@[simp] theorem State.noteSet_pending (s : State) (e : Ev) : (s.noteSet e).pending = s.pending := rfl
@[simp] theorem State.noteSet_tiles (s : State) (e : Ev) : (s.noteSet e).tiles = s.tiles := rfl
@[simp] theorem State.noteSet_links (s : State) (e : Ev) : (s.noteSet e).links = s.links := rfl
@[simp] theorem State.noteSet_draws (s : State) (e : Ev) : (s.noteSet e).draws = s.draws := rfl
@[simp] theorem State.noteSet_bReset (s : State) (e : Ev) : (s.noteSet e).bReset = s.bReset := rfl
@[simp] theorem State.noteSet_tReset (s : State) (e : Ev) : (s.noteSet e).tReset = s.tReset := rfl
@[simp] theorem State.noteSet_kclk (s : State) (e : Ev) : (s.noteSet e).kclk = s.kclk := rfl
@[simp] theorem State.noteSet_tclk (s : State) (e : Ev) : (s.noteSet e).tclk = s.tclk := rfl
@[simp] theorem State.noteSet_hold (s : State) (e : Ev) : (s.noteSet e).hold = s.hold := rfl
@[simp] theorem State.noteSet_tHold (s : State) (e : Ev) : (s.noteSet e).tHold = s.tHold := rfl
@[simp] theorem State.noteSet_portsUp (s : State) (e : Ev) : (s.noteSet e).portsUp = s.portsUp := rfl
@[simp] theorem State.noteSet_caddy (s : State) (e : Ev) : (s.noteSet e).caddy = s.caddy := rfl
@[simp] theorem State.noteSet_hdr (s : State) (e : Ev) : (s.noteSet e).hdr = s.hdr := rfl
@[simp] theorem State.noteSet_caddyShut (s : State) (e : Ev) : (s.noteSet e).caddyShut = s.caddyShut := rfl
@[simp] theorem State.noteSet_latches (s : State) (e : Ev) : (s.noteSet e).latches = s.latches := rfl
@[simp] theorem State.noteSet_pins (s : State) (e : Ev) : (s.noteSet e).pins = s.pins := rfl
@[simp] theorem State.noteSet_boot (s : State) (e : Ev) : (s.noteSet e).boot = s.boot := rfl
@[simp] theorem State.noteSet_bond (s : State) (e : Ev) : (s.noteSet e).bond = s.bond := rfl
@[simp] theorem State.noteSet_xing (s : State) (e : Ev) : (s.noteSet e).xing = s.xing := rfl
@[simp] theorem State.noteSet_lnk (s : State) (e : Ev) : (s.noteSet e).lnk = s.lnk := rfl
@[simp] theorem State.noteSet_route (s : State) (e : Ev) : (s.noteSet e).route = s.route := rfl
@[simp] theorem State.noteSet_dlv (s : State) (e : Ev) : (s.noteSet e).dlv = s.dlv := rfl
@[simp] theorem State.noteSet_time (s : State) (e : Ev) : (s.noteSet e).time = s.time := rfl
@[simp] theorem State.noteSet_pace (s : State) (e : Ev) : (s.noteSet e).pace = s.pace := rfl
@[simp] theorem State.noteSet_pour (s : State) (e : Ev) : (s.noteSet e).pour = s.pour := rfl
@[simp] theorem State.noteSet_blend (s : State) (e : Ev) : (s.noteSet e).blend = s.blend := rfl
@[simp] theorem State.noteSet_prog (s : State) (e : Ev) : (s.noteSet e).prog = s.prog := rfl
@[simp] theorem State.noteSet_track (s : State) (e : Ev) : (s.noteSet e).track = s.track := rfl
@[simp] theorem State.noteSet_ecc (s : State) (e : Ev) : (s.noteSet e).ecc = s.ecc := rfl
@[simp] theorem State.noteSet_test (s : State) (e : Ev) : (s.noteSet e).test = s.test := rfl

/-! ## State.noteWrite -/

@[simp] theorem State.noteWrite_regs (s : State) (h rank : Nat) : (s.noteWrite h rank).regs = s.regs := rfl
@[simp] theorem State.noteWrite_pending (s : State) (h rank : Nat) : (s.noteWrite h rank).pending = s.pending := rfl
@[simp] theorem State.noteWrite_tiles (s : State) (h rank : Nat) : (s.noteWrite h rank).tiles = s.tiles := rfl
@[simp] theorem State.noteWrite_links (s : State) (h rank : Nat) : (s.noteWrite h rank).links = s.links := rfl
@[simp] theorem State.noteWrite_draws (s : State) (h rank : Nat) : (s.noteWrite h rank).draws = s.draws := rfl
@[simp] theorem State.noteWrite_bReset (s : State) (h rank : Nat) : (s.noteWrite h rank).bReset = s.bReset := rfl
@[simp] theorem State.noteWrite_tReset (s : State) (h rank : Nat) : (s.noteWrite h rank).tReset = s.tReset := rfl
@[simp] theorem State.noteWrite_kclk (s : State) (h rank : Nat) : (s.noteWrite h rank).kclk = s.kclk := rfl
@[simp] theorem State.noteWrite_tclk (s : State) (h rank : Nat) : (s.noteWrite h rank).tclk = s.tclk := rfl
@[simp] theorem State.noteWrite_hold (s : State) (h rank : Nat) : (s.noteWrite h rank).hold = s.hold := rfl
@[simp] theorem State.noteWrite_tHold (s : State) (h rank : Nat) : (s.noteWrite h rank).tHold = s.tHold := rfl
@[simp] theorem State.noteWrite_portsUp (s : State) (h rank : Nat) : (s.noteWrite h rank).portsUp = s.portsUp := rfl
@[simp] theorem State.noteWrite_caddy (s : State) (h rank : Nat) : (s.noteWrite h rank).caddy = s.caddy := rfl
@[simp] theorem State.noteWrite_hdr (s : State) (h rank : Nat) : (s.noteWrite h rank).hdr = s.hdr := rfl
@[simp] theorem State.noteWrite_caddyShut (s : State) (h rank : Nat) : (s.noteWrite h rank).caddyShut = s.caddyShut := rfl
@[simp] theorem State.noteWrite_latches (s : State) (h rank : Nat) : (s.noteWrite h rank).latches = s.latches := rfl
@[simp] theorem State.noteWrite_pins (s : State) (h rank : Nat) : (s.noteWrite h rank).pins = s.pins := rfl
@[simp] theorem State.noteWrite_boot (s : State) (h rank : Nat) : (s.noteWrite h rank).boot = s.boot := rfl
@[simp] theorem State.noteWrite_bond (s : State) (h rank : Nat) : (s.noteWrite h rank).bond = s.bond := rfl
@[simp] theorem State.noteWrite_xing (s : State) (h rank : Nat) : (s.noteWrite h rank).xing = s.xing := rfl
@[simp] theorem State.noteWrite_lnk (s : State) (h rank : Nat) : (s.noteWrite h rank).lnk = s.lnk := rfl
@[simp] theorem State.noteWrite_route (s : State) (h rank : Nat) : (s.noteWrite h rank).route = s.route := rfl
@[simp] theorem State.noteWrite_dlv (s : State) (h rank : Nat) : (s.noteWrite h rank).dlv = s.dlv := rfl
@[simp] theorem State.noteWrite_time (s : State) (h rank : Nat) : (s.noteWrite h rank).time = s.time := rfl
@[simp] theorem State.noteWrite_pace (s : State) (h rank : Nat) : (s.noteWrite h rank).pace = s.pace := rfl
@[simp] theorem State.noteWrite_pour (s : State) (h rank : Nat) : (s.noteWrite h rank).pour = s.pour := rfl
@[simp] theorem State.noteWrite_blend (s : State) (h rank : Nat) : (s.noteWrite h rank).blend = s.blend := rfl
@[simp] theorem State.noteWrite_prog (s : State) (h rank : Nat) : (s.noteWrite h rank).prog = s.prog := rfl
@[simp] theorem State.noteWrite_track (s : State) (h rank : Nat) : (s.noteWrite h rank).track = s.track := rfl
@[simp] theorem State.noteWrite_ecc (s : State) (h rank : Nat) : (s.noteWrite h rank).ecc = s.ecc := rfl
@[simp] theorem State.noteWrite_test (s : State) (h rank : Nat) : (s.noteWrite h rank).test = s.test := rfl
@[simp] theorem State.noteWrite_mgmt (s : State) (h rank : Nat) : (s.noteWrite h rank).mgmt = { s.mgmt with written := s.mgmt.written ++ [(h, rank)] } := rfl

end Sys2Proof.Machine
end

