-- ==== Sys2Proof/Laws/Ops.lean ====
section
/-!
SUPPORT. What the shared operations of Machine/Ops.lean do, said once for each: what a register reads after a write of
a field, and which parts of the state an event, a log record, an alarm or a lapse can change.
-/
namespace Sys2Proof.Machine

/-! ## Registers -/

@[simp] theorem State.word_setWord_same (s : State) (k : Nat) (v : Word) : (s.setWord k v).word k = v := by
  simp [State.word]

theorem State.word_setWord_ne (s : State) (v : Word) {k j : Nat} (h : j ≠ k) : (s.setWord k v).word j = s.word j := by
  simp [State.word, Sparse.get_set_ne _ _ h]

/-- A word with a field put into it, as a number. -/
theorem putField_toNat (x : Word) (lo w v : Nat) (h : lo + w ≤ 32) : (putField x lo w v).toNat = setBits x.toNat lo w v := by
  unfold putField
  rw [BitVec.toNat_ofNat]
  exact Nat.mod_eq_of_lt (setBits_lt _ _ _ _ _ x.isLt h)

/-- The register words after a write of a field: only the field's register differs. -/
theorem State.wr_word (s : State) (f : Fld) (v k : Nat) :
    (s.wr f v).word k = if k = f.key then putField (s.word f.key) f.lo f.w v else s.word k := by
  have h : (s.wr f v).word k = (s.setWord f.key (putField (s.word f.key) f.lo f.w v)).word k := by
    unfold State.wr
    simp only []
    split
    · unfold State.wantSnap State.setCword
      split <;> split <;> rfl
    · rfl
  rw [h]
  split
  · next e => subst e; simp
  · next e => exact State.word_setWord_ne s _ e

/-- A field reads back what was written to it. -/
theorem State.rd_wr_same (s : State) (f : Fld) (v : Nat) (h : f.lo + f.w ≤ 32) : (s.wr f v).rd f = v % 2 ^ f.w := by
  unfold State.rd
  rw [State.wr_word, if_pos rfl, putField_toNat _ _ _ _ h, bits_setBits_same]

/-- A write leaves the fields of other registers alone. -/
theorem State.rd_wr_ne (s : State) (f g : Fld) (v : Nat) (h : g.key ≠ f.key) : (s.wr f v).rd g = s.rd g := by
  unfold State.rd
  rw [State.wr_word, if_neg h]

/-- A write leaves the other fields of its register alone. -/
theorem State.rd_wr_apart (s : State) (f g : Fld) (v : Nat) (h : f.lo + f.w ≤ 32) (a : g.lo + g.w ≤ f.lo ∨ f.lo + f.w ≤ g.lo) :
    (s.wr f v).rd g = s.rd g := by
  by_cases e : g.key = f.key
  · unfold State.rd
    rw [State.wr_word, if_pos e, putField_toNat _ _ _ _ h, bits_setBits_apart _ _ _ _ _ _ a, e]
  · exact State.rd_wr_ne s f g v e

/-- A write keeps the canonical form of the register store. -/
theorem State.setWord_wf (s : State) (k : Nat) (v : Word) (h : Sparse.wf regReset s.regs = true) : Sparse.wf regReset (s.setWord k v).regs = true :=
  Sparse.wf_set _ _ _ h

/-! ## What events and records can change -/

theorem State.Quiet.rfl' (s : State) : s.Quiet s := rfl

theorem State.Quiet.trans {s t u : State} (a : s.Quiet t) (b : t.Quiet u) : s.Quiet u := by
  unfold State.Quiet at *
  rw [a] at b
  exact b

theorem State.setWord_quiet (s : State) (k : Nat) (v : Word) : s.Quiet (s.setWord k v) := rfl

theorem State.setCword_quiet (s : State) (k : Nat) (v : Word) : s.Quiet (s.setCword k v) := by
  unfold State.setCword; split <;> rfl

theorem State.wantSnap_quiet (s : State) (k : Nat) : s.Quiet (s.wantSnap k) := by
  unfold State.wantSnap; split <;> rfl

theorem State.wr_quiet (s : State) (f : Fld) (v : Nat) : s.Quiet (s.wr f v) := by
  unfold State.wr
  simp only []
  split
  · exact ((State.setWord_quiet _ _ _).trans (State.setCword_quiet _ _ _)).trans (State.wantSnap_quiet _ _)
  · exact State.setWord_quiet _ _ _

theorem State.count_quiet (s : State) (f : Fld) (k : Nat) : s.Quiet (s.count f k) := by
  unfold State.count
  simp only []
  split
  · exact (State.setWord_quiet _ _ _).trans (State.setCword_quiet _ _ _)
  · exact State.setWord_quiet _ _ _

theorem State.sendT_quiet (s : State) (c : Nat) (m : XMsg) : s.Quiet (s.sendT c m) := rfl

theorem State.enqueue_quiet (s : State) (a b c d e : Nat) : s.Quiet (s.enqueue a b c d e) := by
  unfold State.enqueue
  refine State.Quiet.trans ?_ (State.count_quiet _ _ _)
  rfl

theorem State.logPut_quiet (s : State) (a b c d e : Nat) : s.Quiet (s.logPut a b c d e).1 := by
  unfold State.logPut
  split
  · split
    · exact State.enqueue_quiet _ _ _ _ _ _
    · exact State.count_quiet s TEL_LDROP 1
  · rfl

theorem State.trace_quiet (s : State) (a b : Nat) : s.Quiet (s.trace a b) := by
  unfold State.trace
  split
  · split
    · exact State.enqueue_quiet _ _ _ _ _ _
    · exact State.count_quiet _ _ _
  · rfl

theorem State.alarmNote_quiet (s : State) : s.Quiet s.alarmNote := by
  unfold State.alarmNote
  split
  · split
    · rfl
    · split <;> rfl
  · rfl

theorem State.alarmEntry_quiet (s : State) (e a : Nat) : s.Quiet (s.alarmEntry e a) := by
  unfold State.alarmEntry
  have h : s.Quiet (((s.count (TEL_ACOUNT e)).wr (TEL_AARG e) a).wr (TEL_ALAST e) (s.cycle % 2 ^ 32)) :=
    ((State.count_quiet _ _ _).trans (State.wr_quiet _ _ _)).trans (State.wr_quiet _ _ _)
  simp only []
  split
  · exact h
  · exact ((h.trans (State.wr_quiet _ _ _)).trans (State.wr_quiet _ _ _)).trans (State.alarmNote_quiet _)

theorem State.alarm_quiet (s : State) (src e a : Nat) : s.Quiet (s.alarm src e a) := by
  unfold State.alarm
  have h := (State.alarmEntry_quiet s e a).trans (State.logPut_quiet _ src 3 (e % 256) (e / 256) a)
  simp only []
  split
  · exact (h.trans (State.alarmEntry_quiet _ _ _)).trans (State.logPut_quiet _ _ _ _ _ _)
  · exact h

theorem State.log_quiet (s : State) (src k b a : Nat) : s.Quiet (s.log src k b a) := by
  unfold State.log
  have h := State.logPut_quiet s src k b 0 a
  simp only []
  split
  · exact h.trans (State.alarm_quiet _ _ _ _)
  · exact h

theorem State.onSource_quiet (s : State) (src key : Nat) (b : Bool) : s.Quiet (s.onSource src key b) := by
  unfold State.onSource
  simp only []
  split
  · rfl
  · split
    · split
      · rfl
      · exact State.sendT_quiet _ _ _
    · rfl

theorem State.noteSet_quiet (s : State) (e : Ev) : s.Quiet (s.noteSet e) := rfl

/-- An event changes nothing but what State.Quiet names. -/
theorem State.raise_quiet (s : State) (e : Ev) (a : Option Nat) : s.Quiet (s.raise e a) := by
  unfold State.raise
  have h := (((State.noteSet_quiet s e).trans (State.count_quiet (s.noteSet e) e.cnt 1)).trans (State.setWord_quiet _ e.key (putField (s.word e.key) e.bit 1 1))).trans
    (State.onSource_quiet _ e.src e.key (s.asserted e.key))
  simp only []
  split
  · have h2 := h.trans (State.log_quiet _ e.src 0 e.bit 0)
    split
    · exact h2.trans (State.alarm_quiet _ _ _ _)
    · exact h2
  · exact h

theorem State.raiseIf_quiet (s : State) (b : Bool) (e : Ev) (a : Option Nat) : s.Quiet (s.raiseIf b e a) := by
  unfold State.raiseIf
  split
  · exact State.raise_quiet _ _ _
  · rfl

/-- A lapse changes nothing but what State.Quiet names. -/
theorem State.lapse_quiet (s : State) (l : Lapse) : s.Quiet (s.lapse l) := by
  unfold State.lapse
  have h := State.count_quiet s (DLV_LAPSE_CNT (l.part % 256) ((l.rank - 1) % 4)) 1
  simp only []
  split
  · exact h.trans (State.setWord_quiet _ _ _)
  · split
    · refine State.Quiet.trans ?_ (State.raise_quiet _ _ _)
      refine State.Quiet.trans ?_ (State.wr_quiet _ _ _)
      iterate 8 refine State.Quiet.trans ?_ (State.setWord_quiet _ _ _)
      exact h
    · exact (h.trans (State.count_quiet _ _ _)).trans (State.alarm_quiet _ _ _ _)

/-! ## Words that events and records leave alone -/

/-- The registers of the log and of the alarms (R422, R423). -/
def telKey (k : Nat) : Prop := 0xF0000 ≤ k ∧ k < 0xF3000

theorem State.setCword_word (s : State) (k : Nat) (v : Word) (j : Nat) : (s.setCword k v).word j = s.word j := by
  unfold State.setCword; split <;> rfl

theorem State.count_word (s : State) (f : Fld) (n k : Nat) (h : k ≠ f.key) : (s.count f n).word k = s.word k := by
  unfold State.count
  simp only []
  split
  · rw [State.setCword_word, State.word_setWord_ne _ _ h]
  · exact State.word_setWord_ne _ _ h

theorem State.wr_word_ne (s : State) (f : Fld) (v k : Nat) (h : k ≠ f.key) : (s.wr f v).word k = s.word k := by
  rw [State.wr_word, if_neg h]

theorem State.logPut_word (s : State) (a b c d e k : Nat) (h : ¬ telKey k) : (s.logPut a b c d e).1.word k = s.word k := by
  unfold telKey at h
  unfold State.logPut
  split
  · split
    · unfold State.enqueue
      rw [State.count_word _ _ _ _ (by simp [TEL_LSEQ]; omega)]
      rfl
    · exact State.count_word _ _ _ _ (by simp [TEL_LDROP]; omega)
  · rfl

theorem State.alarmNote_word (s : State) (k : Nat) : s.alarmNote.word k = s.word k := by
  unfold State.alarmNote
  split
  · split
    · rfl
    · split <;> rfl
  · rfl

theorem State.alarmEntry_word (s : State) (e a k : Nat) (he : e < 512) (h : ¬ telKey k) : (s.alarmEntry e a).word k = s.word k := by
  unfold telKey at h
  have h1 : k ≠ (TEL_ACOUNT e).key := by simp [TEL_ACOUNT]; omega
  have h2 : k ≠ (TEL_AARG e).key := by simp [TEL_AARG]; omega
  have h3 : k ≠ (TEL_ALAST e).key := by simp [TEL_ALAST]; omega
  have h4 : k ≠ (TEL_AFIRST e).key := by simp [TEL_AFIRST]; omega
  have h5 : k ≠ (TEL_APEND (e / 32)).key := by simp [TEL_APEND]; omega
  unfold State.alarmEntry
  simp only []
  split
  · rw [State.wr_word_ne _ _ _ _ h3, State.wr_word_ne _ _ _ _ h2, State.count_word _ _ _ _ h1]
  · rw [State.alarmNote_word, State.wr_word_ne _ ⟨(TEL_APEND (e / 32)).key, e % 32, 1, false⟩ _ _ h5, State.wr_word_ne _ _ _ _ h4, State.wr_word_ne _ _ _ _ h3,
      State.wr_word_ne _ _ _ _ h2, State.count_word _ _ _ _ h1]

theorem State.alarm_word (s : State) (src e a k : Nat) (he : e < 512) (h : ¬ telKey k) : (s.alarm src e a).word k = s.word k := by
  unfold State.alarm
  simp only []
  split
  · rw [State.logPut_word _ _ _ _ _ _ _ h, State.alarmEntry_word _ _ _ _ (by omega) h, State.logPut_word _ _ _ _ _ _ _ h,
      State.alarmEntry_word _ _ _ _ he h]
  · rw [State.logPut_word _ _ _ _ _ _ _ h, State.alarmEntry_word _ _ _ _ he h]

theorem State.log_word (s : State) (src b c a k : Nat) (h : ¬ telKey k) : (s.log src b c a).word k = s.word k := by
  unfold State.log
  simp only []
  split
  · rw [State.alarm_word _ _ _ _ _ (by omega) h, State.logPut_word _ _ _ _ _ _ _ h]
  · exact State.logPut_word _ _ _ _ _ _ _ h

theorem State.onSource_word (s : State) (src key : Nat) (b : Bool) (k : Nat) : (s.onSource src key b).word k = s.word k := by
  unfold State.onSource
  simp only []
  split
  · rfl
  · split
    · split <;> rfl
    · rfl

/-- An alarm entry, if one is named, is below 512. -/
def SmallEntry (o : Option (Nat × Nat)) : Prop := ∀ e d, o = some (e, d) → e < 512

theorem SmallEntry.ite {c : Prop} [Decidable c] {a b : Option (Nat × Nat)} (ha : c → SmallEntry a) (hb : SmallEntry b) :
    SmallEntry (if c then a else b) := by
  by_cases h : c
  · rw [if_pos h]; exact ha h
  · rw [if_neg h]; exact hb

theorem SmallEntry.some {e d : Nat} (h : e < 512) : SmallEntry (some (e, d)) := by
  intro e' d' he; cases he; exact h

theorem SmallEntry.none : SmallEntry none := by intro e d h; cases h

/-- Every alarm entry that an event names is below 512. -/
theorem State.alarmOf_lt (s : State) (src bit e d : Nat) (h : s.alarmOf src bit = .some (e, d)) : e < 512 := by
  have g : SmallEntry (s.alarmOf src bit) := by
    unfold State.alarmOf
    repeat' first
      | exact SmallEntry.none
      | exact SmallEntry.some (by omega)
      | refine SmallEntry.ite (fun _ => ?_) ?_
  exact g e d h

/-- The words that an event leaves alone: all but its flag, its counter, and the log and the alarms. -/
theorem State.raise_word (s : State) (e : Ev) (a : Option Nat) (k : Nat) (h : ¬ telKey k) (h1 : k ≠ e.key) (h2 : k ≠ e.cnt.key) :
    (s.raise e a).word k = s.word k := by
  unfold State.raise
  have h0 : ∀ x, ((((s.noteSet e).count e.cnt).setWord e.key x).onSource e.src e.key (s.asserted e.key)).word k = s.word k := by
    intro x
    rw [State.onSource_word, State.word_setWord_ne _ _ h1, State.count_word _ _ _ _ h2]
    rfl
  simp only []
  split
  · split
    · next a' d' heq => rw [State.alarm_word _ _ _ _ _ (State.alarmOf_lt _ _ _ _ _ heq) h, State.log_word _ _ _ _ _ _ h, h0]
    · rw [State.log_word _ _ _ _ _ _ h, h0]
  · exact h0 _

theorem State.raise_rd (s : State) (e : Ev) (a : Option Nat) (f : Fld) (h : ¬ telKey f.key) (h1 : f.key ≠ e.key) (h2 : f.key ≠ e.cnt.key) :
    (s.raise e a).rd f = s.rd f := by
  unfold State.rd
  rw [State.raise_word _ _ _ _ h h1 h2]

end Sys2Proof.Machine
end

