-- ==== Sys2Proof/Laws/Quiet.lean ====
section
/-!
SUPPORT. What the shared operations of registers, events and records leave alone: one lemma for each field, from the
lemma that says once what each of them can change (Laws/Ops.lean).
-/
namespace Sys2Proof.Machine

theorem State.Quiet.field {α : Type} {s t : State} (g : State → α) (h : s.Quiet t)
    (hg : ∀ (u : State) (a b : Sparse Word) (c : BootSt) (d : MgmtSt) (e : Nat) (f : BondSt) (p : Pins),
      g { u with regs := a, caddy := b, boot := c, mgmt := d, draws := e, bond := f, pins := p } = g u) : g t = g s := by
  unfold State.Quiet at h
  rw [h]
  exact hg _ _ _ _ _ _ _ _

/-! ## State.wr -/

@[simp] theorem State.wr_pending (s : State) (f : Fld) (v : Nat) : (s.wr f v).pending = s.pending :=
  (State.wr_quiet s f v).field (·.pending) (fun _ _ _ _ _ _ _ _ => rfl)
@[simp] theorem State.wr_tiles (s : State) (f : Fld) (v : Nat) : (s.wr f v).tiles = s.tiles :=
  (State.wr_quiet s f v).field (·.tiles) (fun _ _ _ _ _ _ _ _ => rfl)
@[simp] theorem State.wr_links (s : State) (f : Fld) (v : Nat) : (s.wr f v).links = s.links :=
  (State.wr_quiet s f v).field (·.links) (fun _ _ _ _ _ _ _ _ => rfl)
@[simp] theorem State.wr_bReset (s : State) (f : Fld) (v : Nat) : (s.wr f v).bReset = s.bReset :=
  (State.wr_quiet s f v).field (·.bReset) (fun _ _ _ _ _ _ _ _ => rfl)
@[simp] theorem State.wr_tReset (s : State) (f : Fld) (v : Nat) : (s.wr f v).tReset = s.tReset :=
  (State.wr_quiet s f v).field (·.tReset) (fun _ _ _ _ _ _ _ _ => rfl)
@[simp] theorem State.wr_kclk (s : State) (f : Fld) (v : Nat) : (s.wr f v).kclk = s.kclk :=
  (State.wr_quiet s f v).field (·.kclk) (fun _ _ _ _ _ _ _ _ => rfl)
@[simp] theorem State.wr_tclk (s : State) (f : Fld) (v : Nat) : (s.wr f v).tclk = s.tclk :=
  (State.wr_quiet s f v).field (·.tclk) (fun _ _ _ _ _ _ _ _ => rfl)
@[simp] theorem State.wr_hold (s : State) (f : Fld) (v : Nat) : (s.wr f v).hold = s.hold :=
  (State.wr_quiet s f v).field (·.hold) (fun _ _ _ _ _ _ _ _ => rfl)
@[simp] theorem State.wr_tHold (s : State) (f : Fld) (v : Nat) : (s.wr f v).tHold = s.tHold :=
  (State.wr_quiet s f v).field (·.tHold) (fun _ _ _ _ _ _ _ _ => rfl)
@[simp] theorem State.wr_portsUp (s : State) (f : Fld) (v : Nat) : (s.wr f v).portsUp = s.portsUp :=
  (State.wr_quiet s f v).field (·.portsUp) (fun _ _ _ _ _ _ _ _ => rfl)
@[simp] theorem State.wr_hdr (s : State) (f : Fld) (v : Nat) : (s.wr f v).hdr = s.hdr :=
  (State.wr_quiet s f v).field (·.hdr) (fun _ _ _ _ _ _ _ _ => rfl)
@[simp] theorem State.wr_caddyShut (s : State) (f : Fld) (v : Nat) : (s.wr f v).caddyShut = s.caddyShut :=
  (State.wr_quiet s f v).field (·.caddyShut) (fun _ _ _ _ _ _ _ _ => rfl)
@[simp] theorem State.wr_latches (s : State) (f : Fld) (v : Nat) : (s.wr f v).latches = s.latches :=
  (State.wr_quiet s f v).field (·.latches) (fun _ _ _ _ _ _ _ _ => rfl)
@[simp] theorem State.wr_xing (s : State) (f : Fld) (v : Nat) : (s.wr f v).xing = s.xing :=
  (State.wr_quiet s f v).field (·.xing) (fun _ _ _ _ _ _ _ _ => rfl)
@[simp] theorem State.wr_lnk (s : State) (f : Fld) (v : Nat) : (s.wr f v).lnk = s.lnk :=
  (State.wr_quiet s f v).field (·.lnk) (fun _ _ _ _ _ _ _ _ => rfl)
@[simp] theorem State.wr_route (s : State) (f : Fld) (v : Nat) : (s.wr f v).route = s.route :=
  (State.wr_quiet s f v).field (·.route) (fun _ _ _ _ _ _ _ _ => rfl)
@[simp] theorem State.wr_dlv (s : State) (f : Fld) (v : Nat) : (s.wr f v).dlv = s.dlv :=
  (State.wr_quiet s f v).field (·.dlv) (fun _ _ _ _ _ _ _ _ => rfl)
@[simp] theorem State.wr_time (s : State) (f : Fld) (v : Nat) : (s.wr f v).time = s.time :=
  (State.wr_quiet s f v).field (·.time) (fun _ _ _ _ _ _ _ _ => rfl)
@[simp] theorem State.wr_pace (s : State) (f : Fld) (v : Nat) : (s.wr f v).pace = s.pace :=
  (State.wr_quiet s f v).field (·.pace) (fun _ _ _ _ _ _ _ _ => rfl)
@[simp] theorem State.wr_pour (s : State) (f : Fld) (v : Nat) : (s.wr f v).pour = s.pour :=
  (State.wr_quiet s f v).field (·.pour) (fun _ _ _ _ _ _ _ _ => rfl)
@[simp] theorem State.wr_blend (s : State) (f : Fld) (v : Nat) : (s.wr f v).blend = s.blend :=
  (State.wr_quiet s f v).field (·.blend) (fun _ _ _ _ _ _ _ _ => rfl)
@[simp] theorem State.wr_prog (s : State) (f : Fld) (v : Nat) : (s.wr f v).prog = s.prog :=
  (State.wr_quiet s f v).field (·.prog) (fun _ _ _ _ _ _ _ _ => rfl)
@[simp] theorem State.wr_track (s : State) (f : Fld) (v : Nat) : (s.wr f v).track = s.track :=
  (State.wr_quiet s f v).field (·.track) (fun _ _ _ _ _ _ _ _ => rfl)
@[simp] theorem State.wr_ecc (s : State) (f : Fld) (v : Nat) : (s.wr f v).ecc = s.ecc :=
  (State.wr_quiet s f v).field (·.ecc) (fun _ _ _ _ _ _ _ _ => rfl)
@[simp] theorem State.wr_test (s : State) (f : Fld) (v : Nat) : (s.wr f v).test = s.test :=
  (State.wr_quiet s f v).field (·.test) (fun _ _ _ _ _ _ _ _ => rfl)

/-! ## State.count -/

@[simp] theorem State.count_pending (s : State) (f : Fld) (k : Nat) : (s.count f k).pending = s.pending :=
  (State.count_quiet s f k).field (·.pending) (fun _ _ _ _ _ _ _ _ => rfl)
@[simp] theorem State.count_tiles (s : State) (f : Fld) (k : Nat) : (s.count f k).tiles = s.tiles :=
  (State.count_quiet s f k).field (·.tiles) (fun _ _ _ _ _ _ _ _ => rfl)
@[simp] theorem State.count_links (s : State) (f : Fld) (k : Nat) : (s.count f k).links = s.links :=
  (State.count_quiet s f k).field (·.links) (fun _ _ _ _ _ _ _ _ => rfl)
@[simp] theorem State.count_bReset (s : State) (f : Fld) (k : Nat) : (s.count f k).bReset = s.bReset :=
  (State.count_quiet s f k).field (·.bReset) (fun _ _ _ _ _ _ _ _ => rfl)
@[simp] theorem State.count_tReset (s : State) (f : Fld) (k : Nat) : (s.count f k).tReset = s.tReset :=
  (State.count_quiet s f k).field (·.tReset) (fun _ _ _ _ _ _ _ _ => rfl)
@[simp] theorem State.count_kclk (s : State) (f : Fld) (k : Nat) : (s.count f k).kclk = s.kclk :=
  (State.count_quiet s f k).field (·.kclk) (fun _ _ _ _ _ _ _ _ => rfl)
@[simp] theorem State.count_tclk (s : State) (f : Fld) (k : Nat) : (s.count f k).tclk = s.tclk :=
  (State.count_quiet s f k).field (·.tclk) (fun _ _ _ _ _ _ _ _ => rfl)
@[simp] theorem State.count_hold (s : State) (f : Fld) (k : Nat) : (s.count f k).hold = s.hold :=
  (State.count_quiet s f k).field (·.hold) (fun _ _ _ _ _ _ _ _ => rfl)
@[simp] theorem State.count_tHold (s : State) (f : Fld) (k : Nat) : (s.count f k).tHold = s.tHold :=
  (State.count_quiet s f k).field (·.tHold) (fun _ _ _ _ _ _ _ _ => rfl)
@[simp] theorem State.count_portsUp (s : State) (f : Fld) (k : Nat) : (s.count f k).portsUp = s.portsUp :=
  (State.count_quiet s f k).field (·.portsUp) (fun _ _ _ _ _ _ _ _ => rfl)
@[simp] theorem State.count_hdr (s : State) (f : Fld) (k : Nat) : (s.count f k).hdr = s.hdr :=
  (State.count_quiet s f k).field (·.hdr) (fun _ _ _ _ _ _ _ _ => rfl)
@[simp] theorem State.count_caddyShut (s : State) (f : Fld) (k : Nat) : (s.count f k).caddyShut = s.caddyShut :=
  (State.count_quiet s f k).field (·.caddyShut) (fun _ _ _ _ _ _ _ _ => rfl)
@[simp] theorem State.count_latches (s : State) (f : Fld) (k : Nat) : (s.count f k).latches = s.latches :=
  (State.count_quiet s f k).field (·.latches) (fun _ _ _ _ _ _ _ _ => rfl)
@[simp] theorem State.count_xing (s : State) (f : Fld) (k : Nat) : (s.count f k).xing = s.xing :=
  (State.count_quiet s f k).field (·.xing) (fun _ _ _ _ _ _ _ _ => rfl)
@[simp] theorem State.count_lnk (s : State) (f : Fld) (k : Nat) : (s.count f k).lnk = s.lnk :=
  (State.count_quiet s f k).field (·.lnk) (fun _ _ _ _ _ _ _ _ => rfl)
@[simp] theorem State.count_route (s : State) (f : Fld) (k : Nat) : (s.count f k).route = s.route :=
  (State.count_quiet s f k).field (·.route) (fun _ _ _ _ _ _ _ _ => rfl)
@[simp] theorem State.count_dlv (s : State) (f : Fld) (k : Nat) : (s.count f k).dlv = s.dlv :=
  (State.count_quiet s f k).field (·.dlv) (fun _ _ _ _ _ _ _ _ => rfl)
@[simp] theorem State.count_time (s : State) (f : Fld) (k : Nat) : (s.count f k).time = s.time :=
  (State.count_quiet s f k).field (·.time) (fun _ _ _ _ _ _ _ _ => rfl)
@[simp] theorem State.count_pace (s : State) (f : Fld) (k : Nat) : (s.count f k).pace = s.pace :=
  (State.count_quiet s f k).field (·.pace) (fun _ _ _ _ _ _ _ _ => rfl)
@[simp] theorem State.count_pour (s : State) (f : Fld) (k : Nat) : (s.count f k).pour = s.pour :=
  (State.count_quiet s f k).field (·.pour) (fun _ _ _ _ _ _ _ _ => rfl)
@[simp] theorem State.count_blend (s : State) (f : Fld) (k : Nat) : (s.count f k).blend = s.blend :=
  (State.count_quiet s f k).field (·.blend) (fun _ _ _ _ _ _ _ _ => rfl)
@[simp] theorem State.count_prog (s : State) (f : Fld) (k : Nat) : (s.count f k).prog = s.prog :=
  (State.count_quiet s f k).field (·.prog) (fun _ _ _ _ _ _ _ _ => rfl)
@[simp] theorem State.count_track (s : State) (f : Fld) (k : Nat) : (s.count f k).track = s.track :=
  (State.count_quiet s f k).field (·.track) (fun _ _ _ _ _ _ _ _ => rfl)
@[simp] theorem State.count_ecc (s : State) (f : Fld) (k : Nat) : (s.count f k).ecc = s.ecc :=
  (State.count_quiet s f k).field (·.ecc) (fun _ _ _ _ _ _ _ _ => rfl)
@[simp] theorem State.count_test (s : State) (f : Fld) (k : Nat) : (s.count f k).test = s.test :=
  (State.count_quiet s f k).field (·.test) (fun _ _ _ _ _ _ _ _ => rfl)

/-! ## State.setCword -/

@[simp] theorem State.setCword_pending (s : State) (k : Nat) (v : Word) : (s.setCword k v).pending = s.pending :=
  (State.setCword_quiet s k v).field (·.pending) (fun _ _ _ _ _ _ _ _ => rfl)
@[simp] theorem State.setCword_tiles (s : State) (k : Nat) (v : Word) : (s.setCword k v).tiles = s.tiles :=
  (State.setCword_quiet s k v).field (·.tiles) (fun _ _ _ _ _ _ _ _ => rfl)
@[simp] theorem State.setCword_links (s : State) (k : Nat) (v : Word) : (s.setCword k v).links = s.links :=
  (State.setCword_quiet s k v).field (·.links) (fun _ _ _ _ _ _ _ _ => rfl)
@[simp] theorem State.setCword_bReset (s : State) (k : Nat) (v : Word) : (s.setCword k v).bReset = s.bReset :=
  (State.setCword_quiet s k v).field (·.bReset) (fun _ _ _ _ _ _ _ _ => rfl)
@[simp] theorem State.setCword_tReset (s : State) (k : Nat) (v : Word) : (s.setCword k v).tReset = s.tReset :=
  (State.setCword_quiet s k v).field (·.tReset) (fun _ _ _ _ _ _ _ _ => rfl)
@[simp] theorem State.setCword_kclk (s : State) (k : Nat) (v : Word) : (s.setCword k v).kclk = s.kclk :=
  (State.setCword_quiet s k v).field (·.kclk) (fun _ _ _ _ _ _ _ _ => rfl)
@[simp] theorem State.setCword_tclk (s : State) (k : Nat) (v : Word) : (s.setCword k v).tclk = s.tclk :=
  (State.setCword_quiet s k v).field (·.tclk) (fun _ _ _ _ _ _ _ _ => rfl)
@[simp] theorem State.setCword_hold (s : State) (k : Nat) (v : Word) : (s.setCword k v).hold = s.hold :=
  (State.setCword_quiet s k v).field (·.hold) (fun _ _ _ _ _ _ _ _ => rfl)
@[simp] theorem State.setCword_tHold (s : State) (k : Nat) (v : Word) : (s.setCword k v).tHold = s.tHold :=
  (State.setCword_quiet s k v).field (·.tHold) (fun _ _ _ _ _ _ _ _ => rfl)
@[simp] theorem State.setCword_portsUp (s : State) (k : Nat) (v : Word) : (s.setCword k v).portsUp = s.portsUp :=
  (State.setCword_quiet s k v).field (·.portsUp) (fun _ _ _ _ _ _ _ _ => rfl)
@[simp] theorem State.setCword_hdr (s : State) (k : Nat) (v : Word) : (s.setCword k v).hdr = s.hdr :=
  (State.setCword_quiet s k v).field (·.hdr) (fun _ _ _ _ _ _ _ _ => rfl)
@[simp] theorem State.setCword_caddyShut (s : State) (k : Nat) (v : Word) : (s.setCword k v).caddyShut = s.caddyShut :=
  (State.setCword_quiet s k v).field (·.caddyShut) (fun _ _ _ _ _ _ _ _ => rfl)
@[simp] theorem State.setCword_latches (s : State) (k : Nat) (v : Word) : (s.setCword k v).latches = s.latches :=
  (State.setCword_quiet s k v).field (·.latches) (fun _ _ _ _ _ _ _ _ => rfl)
@[simp] theorem State.setCword_xing (s : State) (k : Nat) (v : Word) : (s.setCword k v).xing = s.xing :=
  (State.setCword_quiet s k v).field (·.xing) (fun _ _ _ _ _ _ _ _ => rfl)
@[simp] theorem State.setCword_lnk (s : State) (k : Nat) (v : Word) : (s.setCword k v).lnk = s.lnk :=
  (State.setCword_quiet s k v).field (·.lnk) (fun _ _ _ _ _ _ _ _ => rfl)
@[simp] theorem State.setCword_route (s : State) (k : Nat) (v : Word) : (s.setCword k v).route = s.route :=
  (State.setCword_quiet s k v).field (·.route) (fun _ _ _ _ _ _ _ _ => rfl)
@[simp] theorem State.setCword_dlv (s : State) (k : Nat) (v : Word) : (s.setCword k v).dlv = s.dlv :=
  (State.setCword_quiet s k v).field (·.dlv) (fun _ _ _ _ _ _ _ _ => rfl)
@[simp] theorem State.setCword_time (s : State) (k : Nat) (v : Word) : (s.setCword k v).time = s.time :=
  (State.setCword_quiet s k v).field (·.time) (fun _ _ _ _ _ _ _ _ => rfl)
@[simp] theorem State.setCword_pace (s : State) (k : Nat) (v : Word) : (s.setCword k v).pace = s.pace :=
  (State.setCword_quiet s k v).field (·.pace) (fun _ _ _ _ _ _ _ _ => rfl)
@[simp] theorem State.setCword_pour (s : State) (k : Nat) (v : Word) : (s.setCword k v).pour = s.pour :=
  (State.setCword_quiet s k v).field (·.pour) (fun _ _ _ _ _ _ _ _ => rfl)
@[simp] theorem State.setCword_blend (s : State) (k : Nat) (v : Word) : (s.setCword k v).blend = s.blend :=
  (State.setCword_quiet s k v).field (·.blend) (fun _ _ _ _ _ _ _ _ => rfl)
@[simp] theorem State.setCword_prog (s : State) (k : Nat) (v : Word) : (s.setCword k v).prog = s.prog :=
  (State.setCword_quiet s k v).field (·.prog) (fun _ _ _ _ _ _ _ _ => rfl)
@[simp] theorem State.setCword_track (s : State) (k : Nat) (v : Word) : (s.setCword k v).track = s.track :=
  (State.setCword_quiet s k v).field (·.track) (fun _ _ _ _ _ _ _ _ => rfl)
@[simp] theorem State.setCword_ecc (s : State) (k : Nat) (v : Word) : (s.setCword k v).ecc = s.ecc :=
  (State.setCword_quiet s k v).field (·.ecc) (fun _ _ _ _ _ _ _ _ => rfl)
@[simp] theorem State.setCword_test (s : State) (k : Nat) (v : Word) : (s.setCword k v).test = s.test :=
  (State.setCword_quiet s k v).field (·.test) (fun _ _ _ _ _ _ _ _ => rfl)

/-! ## State.wantSnap -/

@[simp] theorem State.wantSnap_pending (s : State) (k : Nat) : (s.wantSnap k).pending = s.pending :=
  (State.wantSnap_quiet s k).field (·.pending) (fun _ _ _ _ _ _ _ _ => rfl)
@[simp] theorem State.wantSnap_tiles (s : State) (k : Nat) : (s.wantSnap k).tiles = s.tiles :=
  (State.wantSnap_quiet s k).field (·.tiles) (fun _ _ _ _ _ _ _ _ => rfl)
@[simp] theorem State.wantSnap_links (s : State) (k : Nat) : (s.wantSnap k).links = s.links :=
  (State.wantSnap_quiet s k).field (·.links) (fun _ _ _ _ _ _ _ _ => rfl)
@[simp] theorem State.wantSnap_bReset (s : State) (k : Nat) : (s.wantSnap k).bReset = s.bReset :=
  (State.wantSnap_quiet s k).field (·.bReset) (fun _ _ _ _ _ _ _ _ => rfl)
@[simp] theorem State.wantSnap_tReset (s : State) (k : Nat) : (s.wantSnap k).tReset = s.tReset :=
  (State.wantSnap_quiet s k).field (·.tReset) (fun _ _ _ _ _ _ _ _ => rfl)
@[simp] theorem State.wantSnap_kclk (s : State) (k : Nat) : (s.wantSnap k).kclk = s.kclk :=
  (State.wantSnap_quiet s k).field (·.kclk) (fun _ _ _ _ _ _ _ _ => rfl)
@[simp] theorem State.wantSnap_tclk (s : State) (k : Nat) : (s.wantSnap k).tclk = s.tclk :=
  (State.wantSnap_quiet s k).field (·.tclk) (fun _ _ _ _ _ _ _ _ => rfl)
@[simp] theorem State.wantSnap_hold (s : State) (k : Nat) : (s.wantSnap k).hold = s.hold :=
  (State.wantSnap_quiet s k).field (·.hold) (fun _ _ _ _ _ _ _ _ => rfl)
@[simp] theorem State.wantSnap_tHold (s : State) (k : Nat) : (s.wantSnap k).tHold = s.tHold :=
  (State.wantSnap_quiet s k).field (·.tHold) (fun _ _ _ _ _ _ _ _ => rfl)
@[simp] theorem State.wantSnap_portsUp (s : State) (k : Nat) : (s.wantSnap k).portsUp = s.portsUp :=
  (State.wantSnap_quiet s k).field (·.portsUp) (fun _ _ _ _ _ _ _ _ => rfl)
@[simp] theorem State.wantSnap_hdr (s : State) (k : Nat) : (s.wantSnap k).hdr = s.hdr :=
  (State.wantSnap_quiet s k).field (·.hdr) (fun _ _ _ _ _ _ _ _ => rfl)
@[simp] theorem State.wantSnap_caddyShut (s : State) (k : Nat) : (s.wantSnap k).caddyShut = s.caddyShut :=
  (State.wantSnap_quiet s k).field (·.caddyShut) (fun _ _ _ _ _ _ _ _ => rfl)
@[simp] theorem State.wantSnap_latches (s : State) (k : Nat) : (s.wantSnap k).latches = s.latches :=
  (State.wantSnap_quiet s k).field (·.latches) (fun _ _ _ _ _ _ _ _ => rfl)
@[simp] theorem State.wantSnap_xing (s : State) (k : Nat) : (s.wantSnap k).xing = s.xing :=
  (State.wantSnap_quiet s k).field (·.xing) (fun _ _ _ _ _ _ _ _ => rfl)
@[simp] theorem State.wantSnap_lnk (s : State) (k : Nat) : (s.wantSnap k).lnk = s.lnk :=
  (State.wantSnap_quiet s k).field (·.lnk) (fun _ _ _ _ _ _ _ _ => rfl)
@[simp] theorem State.wantSnap_route (s : State) (k : Nat) : (s.wantSnap k).route = s.route :=
  (State.wantSnap_quiet s k).field (·.route) (fun _ _ _ _ _ _ _ _ => rfl)
@[simp] theorem State.wantSnap_dlv (s : State) (k : Nat) : (s.wantSnap k).dlv = s.dlv :=
  (State.wantSnap_quiet s k).field (·.dlv) (fun _ _ _ _ _ _ _ _ => rfl)
@[simp] theorem State.wantSnap_time (s : State) (k : Nat) : (s.wantSnap k).time = s.time :=
  (State.wantSnap_quiet s k).field (·.time) (fun _ _ _ _ _ _ _ _ => rfl)
@[simp] theorem State.wantSnap_pace (s : State) (k : Nat) : (s.wantSnap k).pace = s.pace :=
  (State.wantSnap_quiet s k).field (·.pace) (fun _ _ _ _ _ _ _ _ => rfl)
@[simp] theorem State.wantSnap_pour (s : State) (k : Nat) : (s.wantSnap k).pour = s.pour :=
  (State.wantSnap_quiet s k).field (·.pour) (fun _ _ _ _ _ _ _ _ => rfl)
@[simp] theorem State.wantSnap_blend (s : State) (k : Nat) : (s.wantSnap k).blend = s.blend :=
  (State.wantSnap_quiet s k).field (·.blend) (fun _ _ _ _ _ _ _ _ => rfl)
@[simp] theorem State.wantSnap_prog (s : State) (k : Nat) : (s.wantSnap k).prog = s.prog :=
  (State.wantSnap_quiet s k).field (·.prog) (fun _ _ _ _ _ _ _ _ => rfl)
@[simp] theorem State.wantSnap_track (s : State) (k : Nat) : (s.wantSnap k).track = s.track :=
  (State.wantSnap_quiet s k).field (·.track) (fun _ _ _ _ _ _ _ _ => rfl)
@[simp] theorem State.wantSnap_ecc (s : State) (k : Nat) : (s.wantSnap k).ecc = s.ecc :=
  (State.wantSnap_quiet s k).field (·.ecc) (fun _ _ _ _ _ _ _ _ => rfl)
@[simp] theorem State.wantSnap_test (s : State) (k : Nat) : (s.wantSnap k).test = s.test :=
  (State.wantSnap_quiet s k).field (·.test) (fun _ _ _ _ _ _ _ _ => rfl)

/-! ## State.trace -/

@[simp] theorem State.trace_pending (s : State) (a b : Nat) : (s.trace a b).pending = s.pending :=
  (State.trace_quiet s a b).field (·.pending) (fun _ _ _ _ _ _ _ _ => rfl)
@[simp] theorem State.trace_tiles (s : State) (a b : Nat) : (s.trace a b).tiles = s.tiles :=
  (State.trace_quiet s a b).field (·.tiles) (fun _ _ _ _ _ _ _ _ => rfl)
@[simp] theorem State.trace_links (s : State) (a b : Nat) : (s.trace a b).links = s.links :=
  (State.trace_quiet s a b).field (·.links) (fun _ _ _ _ _ _ _ _ => rfl)
@[simp] theorem State.trace_bReset (s : State) (a b : Nat) : (s.trace a b).bReset = s.bReset :=
  (State.trace_quiet s a b).field (·.bReset) (fun _ _ _ _ _ _ _ _ => rfl)
@[simp] theorem State.trace_tReset (s : State) (a b : Nat) : (s.trace a b).tReset = s.tReset :=
  (State.trace_quiet s a b).field (·.tReset) (fun _ _ _ _ _ _ _ _ => rfl)
@[simp] theorem State.trace_kclk (s : State) (a b : Nat) : (s.trace a b).kclk = s.kclk :=
  (State.trace_quiet s a b).field (·.kclk) (fun _ _ _ _ _ _ _ _ => rfl)
@[simp] theorem State.trace_tclk (s : State) (a b : Nat) : (s.trace a b).tclk = s.tclk :=
  (State.trace_quiet s a b).field (·.tclk) (fun _ _ _ _ _ _ _ _ => rfl)
@[simp] theorem State.trace_hold (s : State) (a b : Nat) : (s.trace a b).hold = s.hold :=
  (State.trace_quiet s a b).field (·.hold) (fun _ _ _ _ _ _ _ _ => rfl)
@[simp] theorem State.trace_tHold (s : State) (a b : Nat) : (s.trace a b).tHold = s.tHold :=
  (State.trace_quiet s a b).field (·.tHold) (fun _ _ _ _ _ _ _ _ => rfl)
@[simp] theorem State.trace_portsUp (s : State) (a b : Nat) : (s.trace a b).portsUp = s.portsUp :=
  (State.trace_quiet s a b).field (·.portsUp) (fun _ _ _ _ _ _ _ _ => rfl)
@[simp] theorem State.trace_hdr (s : State) (a b : Nat) : (s.trace a b).hdr = s.hdr :=
  (State.trace_quiet s a b).field (·.hdr) (fun _ _ _ _ _ _ _ _ => rfl)
@[simp] theorem State.trace_caddyShut (s : State) (a b : Nat) : (s.trace a b).caddyShut = s.caddyShut :=
  (State.trace_quiet s a b).field (·.caddyShut) (fun _ _ _ _ _ _ _ _ => rfl)
@[simp] theorem State.trace_latches (s : State) (a b : Nat) : (s.trace a b).latches = s.latches :=
  (State.trace_quiet s a b).field (·.latches) (fun _ _ _ _ _ _ _ _ => rfl)
@[simp] theorem State.trace_xing (s : State) (a b : Nat) : (s.trace a b).xing = s.xing :=
  (State.trace_quiet s a b).field (·.xing) (fun _ _ _ _ _ _ _ _ => rfl)
@[simp] theorem State.trace_lnk (s : State) (a b : Nat) : (s.trace a b).lnk = s.lnk :=
  (State.trace_quiet s a b).field (·.lnk) (fun _ _ _ _ _ _ _ _ => rfl)
@[simp] theorem State.trace_route (s : State) (a b : Nat) : (s.trace a b).route = s.route :=
  (State.trace_quiet s a b).field (·.route) (fun _ _ _ _ _ _ _ _ => rfl)
@[simp] theorem State.trace_dlv (s : State) (a b : Nat) : (s.trace a b).dlv = s.dlv :=
  (State.trace_quiet s a b).field (·.dlv) (fun _ _ _ _ _ _ _ _ => rfl)
@[simp] theorem State.trace_time (s : State) (a b : Nat) : (s.trace a b).time = s.time :=
  (State.trace_quiet s a b).field (·.time) (fun _ _ _ _ _ _ _ _ => rfl)
@[simp] theorem State.trace_pace (s : State) (a b : Nat) : (s.trace a b).pace = s.pace :=
  (State.trace_quiet s a b).field (·.pace) (fun _ _ _ _ _ _ _ _ => rfl)
@[simp] theorem State.trace_pour (s : State) (a b : Nat) : (s.trace a b).pour = s.pour :=
  (State.trace_quiet s a b).field (·.pour) (fun _ _ _ _ _ _ _ _ => rfl)
@[simp] theorem State.trace_blend (s : State) (a b : Nat) : (s.trace a b).blend = s.blend :=
  (State.trace_quiet s a b).field (·.blend) (fun _ _ _ _ _ _ _ _ => rfl)
@[simp] theorem State.trace_prog (s : State) (a b : Nat) : (s.trace a b).prog = s.prog :=
  (State.trace_quiet s a b).field (·.prog) (fun _ _ _ _ _ _ _ _ => rfl)
@[simp] theorem State.trace_track (s : State) (a b : Nat) : (s.trace a b).track = s.track :=
  (State.trace_quiet s a b).field (·.track) (fun _ _ _ _ _ _ _ _ => rfl)
@[simp] theorem State.trace_ecc (s : State) (a b : Nat) : (s.trace a b).ecc = s.ecc :=
  (State.trace_quiet s a b).field (·.ecc) (fun _ _ _ _ _ _ _ _ => rfl)
@[simp] theorem State.trace_test (s : State) (a b : Nat) : (s.trace a b).test = s.test :=
  (State.trace_quiet s a b).field (·.test) (fun _ _ _ _ _ _ _ _ => rfl)

/-! ## State.alarm -/

@[simp] theorem State.alarm_pending (s : State) (a b c : Nat) : (s.alarm a b c).pending = s.pending :=
  (State.alarm_quiet s a b c).field (·.pending) (fun _ _ _ _ _ _ _ _ => rfl)
@[simp] theorem State.alarm_tiles (s : State) (a b c : Nat) : (s.alarm a b c).tiles = s.tiles :=
  (State.alarm_quiet s a b c).field (·.tiles) (fun _ _ _ _ _ _ _ _ => rfl)
@[simp] theorem State.alarm_links (s : State) (a b c : Nat) : (s.alarm a b c).links = s.links :=
  (State.alarm_quiet s a b c).field (·.links) (fun _ _ _ _ _ _ _ _ => rfl)
@[simp] theorem State.alarm_bReset (s : State) (a b c : Nat) : (s.alarm a b c).bReset = s.bReset :=
  (State.alarm_quiet s a b c).field (·.bReset) (fun _ _ _ _ _ _ _ _ => rfl)
@[simp] theorem State.alarm_tReset (s : State) (a b c : Nat) : (s.alarm a b c).tReset = s.tReset :=
  (State.alarm_quiet s a b c).field (·.tReset) (fun _ _ _ _ _ _ _ _ => rfl)
@[simp] theorem State.alarm_kclk (s : State) (a b c : Nat) : (s.alarm a b c).kclk = s.kclk :=
  (State.alarm_quiet s a b c).field (·.kclk) (fun _ _ _ _ _ _ _ _ => rfl)
@[simp] theorem State.alarm_tclk (s : State) (a b c : Nat) : (s.alarm a b c).tclk = s.tclk :=
  (State.alarm_quiet s a b c).field (·.tclk) (fun _ _ _ _ _ _ _ _ => rfl)
@[simp] theorem State.alarm_hold (s : State) (a b c : Nat) : (s.alarm a b c).hold = s.hold :=
  (State.alarm_quiet s a b c).field (·.hold) (fun _ _ _ _ _ _ _ _ => rfl)
@[simp] theorem State.alarm_tHold (s : State) (a b c : Nat) : (s.alarm a b c).tHold = s.tHold :=
  (State.alarm_quiet s a b c).field (·.tHold) (fun _ _ _ _ _ _ _ _ => rfl)
@[simp] theorem State.alarm_portsUp (s : State) (a b c : Nat) : (s.alarm a b c).portsUp = s.portsUp :=
  (State.alarm_quiet s a b c).field (·.portsUp) (fun _ _ _ _ _ _ _ _ => rfl)
@[simp] theorem State.alarm_hdr (s : State) (a b c : Nat) : (s.alarm a b c).hdr = s.hdr :=
  (State.alarm_quiet s a b c).field (·.hdr) (fun _ _ _ _ _ _ _ _ => rfl)
@[simp] theorem State.alarm_caddyShut (s : State) (a b c : Nat) : (s.alarm a b c).caddyShut = s.caddyShut :=
  (State.alarm_quiet s a b c).field (·.caddyShut) (fun _ _ _ _ _ _ _ _ => rfl)
@[simp] theorem State.alarm_latches (s : State) (a b c : Nat) : (s.alarm a b c).latches = s.latches :=
  (State.alarm_quiet s a b c).field (·.latches) (fun _ _ _ _ _ _ _ _ => rfl)
@[simp] theorem State.alarm_xing (s : State) (a b c : Nat) : (s.alarm a b c).xing = s.xing :=
  (State.alarm_quiet s a b c).field (·.xing) (fun _ _ _ _ _ _ _ _ => rfl)
@[simp] theorem State.alarm_lnk (s : State) (a b c : Nat) : (s.alarm a b c).lnk = s.lnk :=
  (State.alarm_quiet s a b c).field (·.lnk) (fun _ _ _ _ _ _ _ _ => rfl)
@[simp] theorem State.alarm_route (s : State) (a b c : Nat) : (s.alarm a b c).route = s.route :=
  (State.alarm_quiet s a b c).field (·.route) (fun _ _ _ _ _ _ _ _ => rfl)
@[simp] theorem State.alarm_dlv (s : State) (a b c : Nat) : (s.alarm a b c).dlv = s.dlv :=
  (State.alarm_quiet s a b c).field (·.dlv) (fun _ _ _ _ _ _ _ _ => rfl)
@[simp] theorem State.alarm_time (s : State) (a b c : Nat) : (s.alarm a b c).time = s.time :=
  (State.alarm_quiet s a b c).field (·.time) (fun _ _ _ _ _ _ _ _ => rfl)
@[simp] theorem State.alarm_pace (s : State) (a b c : Nat) : (s.alarm a b c).pace = s.pace :=
  (State.alarm_quiet s a b c).field (·.pace) (fun _ _ _ _ _ _ _ _ => rfl)
@[simp] theorem State.alarm_pour (s : State) (a b c : Nat) : (s.alarm a b c).pour = s.pour :=
  (State.alarm_quiet s a b c).field (·.pour) (fun _ _ _ _ _ _ _ _ => rfl)
@[simp] theorem State.alarm_blend (s : State) (a b c : Nat) : (s.alarm a b c).blend = s.blend :=
  (State.alarm_quiet s a b c).field (·.blend) (fun _ _ _ _ _ _ _ _ => rfl)
@[simp] theorem State.alarm_prog (s : State) (a b c : Nat) : (s.alarm a b c).prog = s.prog :=
  (State.alarm_quiet s a b c).field (·.prog) (fun _ _ _ _ _ _ _ _ => rfl)
@[simp] theorem State.alarm_track (s : State) (a b c : Nat) : (s.alarm a b c).track = s.track :=
  (State.alarm_quiet s a b c).field (·.track) (fun _ _ _ _ _ _ _ _ => rfl)
@[simp] theorem State.alarm_ecc (s : State) (a b c : Nat) : (s.alarm a b c).ecc = s.ecc :=
  (State.alarm_quiet s a b c).field (·.ecc) (fun _ _ _ _ _ _ _ _ => rfl)
@[simp] theorem State.alarm_test (s : State) (a b c : Nat) : (s.alarm a b c).test = s.test :=
  (State.alarm_quiet s a b c).field (·.test) (fun _ _ _ _ _ _ _ _ => rfl)

/-! ## State.log -/

@[simp] theorem State.log_pending (s : State) (a b c d : Nat) : (s.log a b c d).pending = s.pending :=
  (State.log_quiet s a b c d).field (·.pending) (fun _ _ _ _ _ _ _ _ => rfl)
@[simp] theorem State.log_tiles (s : State) (a b c d : Nat) : (s.log a b c d).tiles = s.tiles :=
  (State.log_quiet s a b c d).field (·.tiles) (fun _ _ _ _ _ _ _ _ => rfl)
@[simp] theorem State.log_links (s : State) (a b c d : Nat) : (s.log a b c d).links = s.links :=
  (State.log_quiet s a b c d).field (·.links) (fun _ _ _ _ _ _ _ _ => rfl)
@[simp] theorem State.log_bReset (s : State) (a b c d : Nat) : (s.log a b c d).bReset = s.bReset :=
  (State.log_quiet s a b c d).field (·.bReset) (fun _ _ _ _ _ _ _ _ => rfl)
@[simp] theorem State.log_tReset (s : State) (a b c d : Nat) : (s.log a b c d).tReset = s.tReset :=
  (State.log_quiet s a b c d).field (·.tReset) (fun _ _ _ _ _ _ _ _ => rfl)
@[simp] theorem State.log_kclk (s : State) (a b c d : Nat) : (s.log a b c d).kclk = s.kclk :=
  (State.log_quiet s a b c d).field (·.kclk) (fun _ _ _ _ _ _ _ _ => rfl)
@[simp] theorem State.log_tclk (s : State) (a b c d : Nat) : (s.log a b c d).tclk = s.tclk :=
  (State.log_quiet s a b c d).field (·.tclk) (fun _ _ _ _ _ _ _ _ => rfl)
@[simp] theorem State.log_hold (s : State) (a b c d : Nat) : (s.log a b c d).hold = s.hold :=
  (State.log_quiet s a b c d).field (·.hold) (fun _ _ _ _ _ _ _ _ => rfl)
@[simp] theorem State.log_tHold (s : State) (a b c d : Nat) : (s.log a b c d).tHold = s.tHold :=
  (State.log_quiet s a b c d).field (·.tHold) (fun _ _ _ _ _ _ _ _ => rfl)
@[simp] theorem State.log_portsUp (s : State) (a b c d : Nat) : (s.log a b c d).portsUp = s.portsUp :=
  (State.log_quiet s a b c d).field (·.portsUp) (fun _ _ _ _ _ _ _ _ => rfl)
@[simp] theorem State.log_hdr (s : State) (a b c d : Nat) : (s.log a b c d).hdr = s.hdr :=
  (State.log_quiet s a b c d).field (·.hdr) (fun _ _ _ _ _ _ _ _ => rfl)
@[simp] theorem State.log_caddyShut (s : State) (a b c d : Nat) : (s.log a b c d).caddyShut = s.caddyShut :=
  (State.log_quiet s a b c d).field (·.caddyShut) (fun _ _ _ _ _ _ _ _ => rfl)
@[simp] theorem State.log_latches (s : State) (a b c d : Nat) : (s.log a b c d).latches = s.latches :=
  (State.log_quiet s a b c d).field (·.latches) (fun _ _ _ _ _ _ _ _ => rfl)
@[simp] theorem State.log_xing (s : State) (a b c d : Nat) : (s.log a b c d).xing = s.xing :=
  (State.log_quiet s a b c d).field (·.xing) (fun _ _ _ _ _ _ _ _ => rfl)
@[simp] theorem State.log_lnk (s : State) (a b c d : Nat) : (s.log a b c d).lnk = s.lnk :=
  (State.log_quiet s a b c d).field (·.lnk) (fun _ _ _ _ _ _ _ _ => rfl)
@[simp] theorem State.log_route (s : State) (a b c d : Nat) : (s.log a b c d).route = s.route :=
  (State.log_quiet s a b c d).field (·.route) (fun _ _ _ _ _ _ _ _ => rfl)
@[simp] theorem State.log_dlv (s : State) (a b c d : Nat) : (s.log a b c d).dlv = s.dlv :=
  (State.log_quiet s a b c d).field (·.dlv) (fun _ _ _ _ _ _ _ _ => rfl)
@[simp] theorem State.log_time (s : State) (a b c d : Nat) : (s.log a b c d).time = s.time :=
  (State.log_quiet s a b c d).field (·.time) (fun _ _ _ _ _ _ _ _ => rfl)
@[simp] theorem State.log_pace (s : State) (a b c d : Nat) : (s.log a b c d).pace = s.pace :=
  (State.log_quiet s a b c d).field (·.pace) (fun _ _ _ _ _ _ _ _ => rfl)
@[simp] theorem State.log_pour (s : State) (a b c d : Nat) : (s.log a b c d).pour = s.pour :=
  (State.log_quiet s a b c d).field (·.pour) (fun _ _ _ _ _ _ _ _ => rfl)
@[simp] theorem State.log_blend (s : State) (a b c d : Nat) : (s.log a b c d).blend = s.blend :=
  (State.log_quiet s a b c d).field (·.blend) (fun _ _ _ _ _ _ _ _ => rfl)
@[simp] theorem State.log_prog (s : State) (a b c d : Nat) : (s.log a b c d).prog = s.prog :=
  (State.log_quiet s a b c d).field (·.prog) (fun _ _ _ _ _ _ _ _ => rfl)
@[simp] theorem State.log_track (s : State) (a b c d : Nat) : (s.log a b c d).track = s.track :=
  (State.log_quiet s a b c d).field (·.track) (fun _ _ _ _ _ _ _ _ => rfl)
@[simp] theorem State.log_ecc (s : State) (a b c d : Nat) : (s.log a b c d).ecc = s.ecc :=
  (State.log_quiet s a b c d).field (·.ecc) (fun _ _ _ _ _ _ _ _ => rfl)
@[simp] theorem State.log_test (s : State) (a b c d : Nat) : (s.log a b c d).test = s.test :=
  (State.log_quiet s a b c d).field (·.test) (fun _ _ _ _ _ _ _ _ => rfl)

/-! ## State.raise -/

@[simp] theorem State.raise_pending (s : State) (e : Ev) (a : Option Nat) : (s.raise e a).pending = s.pending :=
  (State.raise_quiet s e a).field (·.pending) (fun _ _ _ _ _ _ _ _ => rfl)
@[simp] theorem State.raise_tiles (s : State) (e : Ev) (a : Option Nat) : (s.raise e a).tiles = s.tiles :=
  (State.raise_quiet s e a).field (·.tiles) (fun _ _ _ _ _ _ _ _ => rfl)
@[simp] theorem State.raise_links (s : State) (e : Ev) (a : Option Nat) : (s.raise e a).links = s.links :=
  (State.raise_quiet s e a).field (·.links) (fun _ _ _ _ _ _ _ _ => rfl)
@[simp] theorem State.raise_bReset (s : State) (e : Ev) (a : Option Nat) : (s.raise e a).bReset = s.bReset :=
  (State.raise_quiet s e a).field (·.bReset) (fun _ _ _ _ _ _ _ _ => rfl)
@[simp] theorem State.raise_tReset (s : State) (e : Ev) (a : Option Nat) : (s.raise e a).tReset = s.tReset :=
  (State.raise_quiet s e a).field (·.tReset) (fun _ _ _ _ _ _ _ _ => rfl)
@[simp] theorem State.raise_kclk (s : State) (e : Ev) (a : Option Nat) : (s.raise e a).kclk = s.kclk :=
  (State.raise_quiet s e a).field (·.kclk) (fun _ _ _ _ _ _ _ _ => rfl)
@[simp] theorem State.raise_tclk (s : State) (e : Ev) (a : Option Nat) : (s.raise e a).tclk = s.tclk :=
  (State.raise_quiet s e a).field (·.tclk) (fun _ _ _ _ _ _ _ _ => rfl)
@[simp] theorem State.raise_hold (s : State) (e : Ev) (a : Option Nat) : (s.raise e a).hold = s.hold :=
  (State.raise_quiet s e a).field (·.hold) (fun _ _ _ _ _ _ _ _ => rfl)
@[simp] theorem State.raise_tHold (s : State) (e : Ev) (a : Option Nat) : (s.raise e a).tHold = s.tHold :=
  (State.raise_quiet s e a).field (·.tHold) (fun _ _ _ _ _ _ _ _ => rfl)
@[simp] theorem State.raise_portsUp (s : State) (e : Ev) (a : Option Nat) : (s.raise e a).portsUp = s.portsUp :=
  (State.raise_quiet s e a).field (·.portsUp) (fun _ _ _ _ _ _ _ _ => rfl)
@[simp] theorem State.raise_hdr (s : State) (e : Ev) (a : Option Nat) : (s.raise e a).hdr = s.hdr :=
  (State.raise_quiet s e a).field (·.hdr) (fun _ _ _ _ _ _ _ _ => rfl)
@[simp] theorem State.raise_caddyShut (s : State) (e : Ev) (a : Option Nat) : (s.raise e a).caddyShut = s.caddyShut :=
  (State.raise_quiet s e a).field (·.caddyShut) (fun _ _ _ _ _ _ _ _ => rfl)
@[simp] theorem State.raise_latches (s : State) (e : Ev) (a : Option Nat) : (s.raise e a).latches = s.latches :=
  (State.raise_quiet s e a).field (·.latches) (fun _ _ _ _ _ _ _ _ => rfl)
@[simp] theorem State.raise_xing (s : State) (e : Ev) (a : Option Nat) : (s.raise e a).xing = s.xing :=
  (State.raise_quiet s e a).field (·.xing) (fun _ _ _ _ _ _ _ _ => rfl)
@[simp] theorem State.raise_lnk (s : State) (e : Ev) (a : Option Nat) : (s.raise e a).lnk = s.lnk :=
  (State.raise_quiet s e a).field (·.lnk) (fun _ _ _ _ _ _ _ _ => rfl)
@[simp] theorem State.raise_route (s : State) (e : Ev) (a : Option Nat) : (s.raise e a).route = s.route :=
  (State.raise_quiet s e a).field (·.route) (fun _ _ _ _ _ _ _ _ => rfl)
@[simp] theorem State.raise_dlv (s : State) (e : Ev) (a : Option Nat) : (s.raise e a).dlv = s.dlv :=
  (State.raise_quiet s e a).field (·.dlv) (fun _ _ _ _ _ _ _ _ => rfl)
@[simp] theorem State.raise_time (s : State) (e : Ev) (a : Option Nat) : (s.raise e a).time = s.time :=
  (State.raise_quiet s e a).field (·.time) (fun _ _ _ _ _ _ _ _ => rfl)
@[simp] theorem State.raise_pace (s : State) (e : Ev) (a : Option Nat) : (s.raise e a).pace = s.pace :=
  (State.raise_quiet s e a).field (·.pace) (fun _ _ _ _ _ _ _ _ => rfl)
@[simp] theorem State.raise_pour (s : State) (e : Ev) (a : Option Nat) : (s.raise e a).pour = s.pour :=
  (State.raise_quiet s e a).field (·.pour) (fun _ _ _ _ _ _ _ _ => rfl)
@[simp] theorem State.raise_blend (s : State) (e : Ev) (a : Option Nat) : (s.raise e a).blend = s.blend :=
  (State.raise_quiet s e a).field (·.blend) (fun _ _ _ _ _ _ _ _ => rfl)
@[simp] theorem State.raise_prog (s : State) (e : Ev) (a : Option Nat) : (s.raise e a).prog = s.prog :=
  (State.raise_quiet s e a).field (·.prog) (fun _ _ _ _ _ _ _ _ => rfl)
@[simp] theorem State.raise_track (s : State) (e : Ev) (a : Option Nat) : (s.raise e a).track = s.track :=
  (State.raise_quiet s e a).field (·.track) (fun _ _ _ _ _ _ _ _ => rfl)
@[simp] theorem State.raise_ecc (s : State) (e : Ev) (a : Option Nat) : (s.raise e a).ecc = s.ecc :=
  (State.raise_quiet s e a).field (·.ecc) (fun _ _ _ _ _ _ _ _ => rfl)
@[simp] theorem State.raise_test (s : State) (e : Ev) (a : Option Nat) : (s.raise e a).test = s.test :=
  (State.raise_quiet s e a).field (·.test) (fun _ _ _ _ _ _ _ _ => rfl)

/-! ## State.raiseIf -/

@[simp] theorem State.raiseIf_pending (s : State) (b : Bool) (e : Ev) (a : Option Nat) : (s.raiseIf b e a).pending = s.pending :=
  (State.raiseIf_quiet s b e a).field (·.pending) (fun _ _ _ _ _ _ _ _ => rfl)
@[simp] theorem State.raiseIf_tiles (s : State) (b : Bool) (e : Ev) (a : Option Nat) : (s.raiseIf b e a).tiles = s.tiles :=
  (State.raiseIf_quiet s b e a).field (·.tiles) (fun _ _ _ _ _ _ _ _ => rfl)
@[simp] theorem State.raiseIf_links (s : State) (b : Bool) (e : Ev) (a : Option Nat) : (s.raiseIf b e a).links = s.links :=
  (State.raiseIf_quiet s b e a).field (·.links) (fun _ _ _ _ _ _ _ _ => rfl)
@[simp] theorem State.raiseIf_bReset (s : State) (b : Bool) (e : Ev) (a : Option Nat) : (s.raiseIf b e a).bReset = s.bReset :=
  (State.raiseIf_quiet s b e a).field (·.bReset) (fun _ _ _ _ _ _ _ _ => rfl)
@[simp] theorem State.raiseIf_tReset (s : State) (b : Bool) (e : Ev) (a : Option Nat) : (s.raiseIf b e a).tReset = s.tReset :=
  (State.raiseIf_quiet s b e a).field (·.tReset) (fun _ _ _ _ _ _ _ _ => rfl)
@[simp] theorem State.raiseIf_kclk (s : State) (b : Bool) (e : Ev) (a : Option Nat) : (s.raiseIf b e a).kclk = s.kclk :=
  (State.raiseIf_quiet s b e a).field (·.kclk) (fun _ _ _ _ _ _ _ _ => rfl)
@[simp] theorem State.raiseIf_tclk (s : State) (b : Bool) (e : Ev) (a : Option Nat) : (s.raiseIf b e a).tclk = s.tclk :=
  (State.raiseIf_quiet s b e a).field (·.tclk) (fun _ _ _ _ _ _ _ _ => rfl)
@[simp] theorem State.raiseIf_hold (s : State) (b : Bool) (e : Ev) (a : Option Nat) : (s.raiseIf b e a).hold = s.hold :=
  (State.raiseIf_quiet s b e a).field (·.hold) (fun _ _ _ _ _ _ _ _ => rfl)
@[simp] theorem State.raiseIf_tHold (s : State) (b : Bool) (e : Ev) (a : Option Nat) : (s.raiseIf b e a).tHold = s.tHold :=
  (State.raiseIf_quiet s b e a).field (·.tHold) (fun _ _ _ _ _ _ _ _ => rfl)
@[simp] theorem State.raiseIf_portsUp (s : State) (b : Bool) (e : Ev) (a : Option Nat) : (s.raiseIf b e a).portsUp = s.portsUp :=
  (State.raiseIf_quiet s b e a).field (·.portsUp) (fun _ _ _ _ _ _ _ _ => rfl)
@[simp] theorem State.raiseIf_hdr (s : State) (b : Bool) (e : Ev) (a : Option Nat) : (s.raiseIf b e a).hdr = s.hdr :=
  (State.raiseIf_quiet s b e a).field (·.hdr) (fun _ _ _ _ _ _ _ _ => rfl)
@[simp] theorem State.raiseIf_caddyShut (s : State) (b : Bool) (e : Ev) (a : Option Nat) : (s.raiseIf b e a).caddyShut = s.caddyShut :=
  (State.raiseIf_quiet s b e a).field (·.caddyShut) (fun _ _ _ _ _ _ _ _ => rfl)
@[simp] theorem State.raiseIf_latches (s : State) (b : Bool) (e : Ev) (a : Option Nat) : (s.raiseIf b e a).latches = s.latches :=
  (State.raiseIf_quiet s b e a).field (·.latches) (fun _ _ _ _ _ _ _ _ => rfl)
@[simp] theorem State.raiseIf_xing (s : State) (b : Bool) (e : Ev) (a : Option Nat) : (s.raiseIf b e a).xing = s.xing :=
  (State.raiseIf_quiet s b e a).field (·.xing) (fun _ _ _ _ _ _ _ _ => rfl)
@[simp] theorem State.raiseIf_lnk (s : State) (b : Bool) (e : Ev) (a : Option Nat) : (s.raiseIf b e a).lnk = s.lnk :=
  (State.raiseIf_quiet s b e a).field (·.lnk) (fun _ _ _ _ _ _ _ _ => rfl)
@[simp] theorem State.raiseIf_route (s : State) (b : Bool) (e : Ev) (a : Option Nat) : (s.raiseIf b e a).route = s.route :=
  (State.raiseIf_quiet s b e a).field (·.route) (fun _ _ _ _ _ _ _ _ => rfl)
@[simp] theorem State.raiseIf_dlv (s : State) (b : Bool) (e : Ev) (a : Option Nat) : (s.raiseIf b e a).dlv = s.dlv :=
  (State.raiseIf_quiet s b e a).field (·.dlv) (fun _ _ _ _ _ _ _ _ => rfl)
@[simp] theorem State.raiseIf_time (s : State) (b : Bool) (e : Ev) (a : Option Nat) : (s.raiseIf b e a).time = s.time :=
  (State.raiseIf_quiet s b e a).field (·.time) (fun _ _ _ _ _ _ _ _ => rfl)
@[simp] theorem State.raiseIf_pace (s : State) (b : Bool) (e : Ev) (a : Option Nat) : (s.raiseIf b e a).pace = s.pace :=
  (State.raiseIf_quiet s b e a).field (·.pace) (fun _ _ _ _ _ _ _ _ => rfl)
@[simp] theorem State.raiseIf_pour (s : State) (b : Bool) (e : Ev) (a : Option Nat) : (s.raiseIf b e a).pour = s.pour :=
  (State.raiseIf_quiet s b e a).field (·.pour) (fun _ _ _ _ _ _ _ _ => rfl)
@[simp] theorem State.raiseIf_blend (s : State) (b : Bool) (e : Ev) (a : Option Nat) : (s.raiseIf b e a).blend = s.blend :=
  (State.raiseIf_quiet s b e a).field (·.blend) (fun _ _ _ _ _ _ _ _ => rfl)
@[simp] theorem State.raiseIf_prog (s : State) (b : Bool) (e : Ev) (a : Option Nat) : (s.raiseIf b e a).prog = s.prog :=
  (State.raiseIf_quiet s b e a).field (·.prog) (fun _ _ _ _ _ _ _ _ => rfl)
@[simp] theorem State.raiseIf_track (s : State) (b : Bool) (e : Ev) (a : Option Nat) : (s.raiseIf b e a).track = s.track :=
  (State.raiseIf_quiet s b e a).field (·.track) (fun _ _ _ _ _ _ _ _ => rfl)
@[simp] theorem State.raiseIf_ecc (s : State) (b : Bool) (e : Ev) (a : Option Nat) : (s.raiseIf b e a).ecc = s.ecc :=
  (State.raiseIf_quiet s b e a).field (·.ecc) (fun _ _ _ _ _ _ _ _ => rfl)
@[simp] theorem State.raiseIf_test (s : State) (b : Bool) (e : Ev) (a : Option Nat) : (s.raiseIf b e a).test = s.test :=
  (State.raiseIf_quiet s b e a).field (·.test) (fun _ _ _ _ _ _ _ _ => rfl)

/-! ## State.lapse -/

@[simp] theorem State.lapse_pending (s : State) (l : Lapse) : (s.lapse l).pending = s.pending :=
  (State.lapse_quiet s l).field (·.pending) (fun _ _ _ _ _ _ _ _ => rfl)
@[simp] theorem State.lapse_tiles (s : State) (l : Lapse) : (s.lapse l).tiles = s.tiles :=
  (State.lapse_quiet s l).field (·.tiles) (fun _ _ _ _ _ _ _ _ => rfl)
@[simp] theorem State.lapse_links (s : State) (l : Lapse) : (s.lapse l).links = s.links :=
  (State.lapse_quiet s l).field (·.links) (fun _ _ _ _ _ _ _ _ => rfl)
@[simp] theorem State.lapse_bReset (s : State) (l : Lapse) : (s.lapse l).bReset = s.bReset :=
  (State.lapse_quiet s l).field (·.bReset) (fun _ _ _ _ _ _ _ _ => rfl)
@[simp] theorem State.lapse_tReset (s : State) (l : Lapse) : (s.lapse l).tReset = s.tReset :=
  (State.lapse_quiet s l).field (·.tReset) (fun _ _ _ _ _ _ _ _ => rfl)
@[simp] theorem State.lapse_kclk (s : State) (l : Lapse) : (s.lapse l).kclk = s.kclk :=
  (State.lapse_quiet s l).field (·.kclk) (fun _ _ _ _ _ _ _ _ => rfl)
@[simp] theorem State.lapse_tclk (s : State) (l : Lapse) : (s.lapse l).tclk = s.tclk :=
  (State.lapse_quiet s l).field (·.tclk) (fun _ _ _ _ _ _ _ _ => rfl)
@[simp] theorem State.lapse_hold (s : State) (l : Lapse) : (s.lapse l).hold = s.hold :=
  (State.lapse_quiet s l).field (·.hold) (fun _ _ _ _ _ _ _ _ => rfl)
@[simp] theorem State.lapse_tHold (s : State) (l : Lapse) : (s.lapse l).tHold = s.tHold :=
  (State.lapse_quiet s l).field (·.tHold) (fun _ _ _ _ _ _ _ _ => rfl)
@[simp] theorem State.lapse_portsUp (s : State) (l : Lapse) : (s.lapse l).portsUp = s.portsUp :=
  (State.lapse_quiet s l).field (·.portsUp) (fun _ _ _ _ _ _ _ _ => rfl)
@[simp] theorem State.lapse_hdr (s : State) (l : Lapse) : (s.lapse l).hdr = s.hdr :=
  (State.lapse_quiet s l).field (·.hdr) (fun _ _ _ _ _ _ _ _ => rfl)
@[simp] theorem State.lapse_caddyShut (s : State) (l : Lapse) : (s.lapse l).caddyShut = s.caddyShut :=
  (State.lapse_quiet s l).field (·.caddyShut) (fun _ _ _ _ _ _ _ _ => rfl)
@[simp] theorem State.lapse_latches (s : State) (l : Lapse) : (s.lapse l).latches = s.latches :=
  (State.lapse_quiet s l).field (·.latches) (fun _ _ _ _ _ _ _ _ => rfl)
@[simp] theorem State.lapse_xing (s : State) (l : Lapse) : (s.lapse l).xing = s.xing :=
  (State.lapse_quiet s l).field (·.xing) (fun _ _ _ _ _ _ _ _ => rfl)
@[simp] theorem State.lapse_lnk (s : State) (l : Lapse) : (s.lapse l).lnk = s.lnk :=
  (State.lapse_quiet s l).field (·.lnk) (fun _ _ _ _ _ _ _ _ => rfl)
@[simp] theorem State.lapse_route (s : State) (l : Lapse) : (s.lapse l).route = s.route :=
  (State.lapse_quiet s l).field (·.route) (fun _ _ _ _ _ _ _ _ => rfl)
@[simp] theorem State.lapse_dlv (s : State) (l : Lapse) : (s.lapse l).dlv = s.dlv :=
  (State.lapse_quiet s l).field (·.dlv) (fun _ _ _ _ _ _ _ _ => rfl)
@[simp] theorem State.lapse_time (s : State) (l : Lapse) : (s.lapse l).time = s.time :=
  (State.lapse_quiet s l).field (·.time) (fun _ _ _ _ _ _ _ _ => rfl)
@[simp] theorem State.lapse_pace (s : State) (l : Lapse) : (s.lapse l).pace = s.pace :=
  (State.lapse_quiet s l).field (·.pace) (fun _ _ _ _ _ _ _ _ => rfl)
@[simp] theorem State.lapse_pour (s : State) (l : Lapse) : (s.lapse l).pour = s.pour :=
  (State.lapse_quiet s l).field (·.pour) (fun _ _ _ _ _ _ _ _ => rfl)
@[simp] theorem State.lapse_blend (s : State) (l : Lapse) : (s.lapse l).blend = s.blend :=
  (State.lapse_quiet s l).field (·.blend) (fun _ _ _ _ _ _ _ _ => rfl)
@[simp] theorem State.lapse_prog (s : State) (l : Lapse) : (s.lapse l).prog = s.prog :=
  (State.lapse_quiet s l).field (·.prog) (fun _ _ _ _ _ _ _ _ => rfl)
@[simp] theorem State.lapse_track (s : State) (l : Lapse) : (s.lapse l).track = s.track :=
  (State.lapse_quiet s l).field (·.track) (fun _ _ _ _ _ _ _ _ => rfl)
@[simp] theorem State.lapse_ecc (s : State) (l : Lapse) : (s.lapse l).ecc = s.ecc :=
  (State.lapse_quiet s l).field (·.ecc) (fun _ _ _ _ _ _ _ _ => rfl)
@[simp] theorem State.lapse_test (s : State) (l : Lapse) : (s.lapse l).test = s.test :=
  (State.lapse_quiet s l).field (·.test) (fun _ _ _ _ _ _ _ _ => rfl)

end Sys2Proof.Machine
end

