-- ==== Sys2Proof/Laws/Links.lean ====
section
/-!
SUPPORT. The link store, and what a new selection of output links can change (R206).
-/
namespace Sys2Proof.Machine

@[simp] theorem State.lk_setLk_same (s : State) (n : Nat) (l : LinkSt) : (s.setLk n l).lk n = l := by
  simp [State.lk]

theorem State.lk_setLk_ne (s : State) (l : LinkSt) {n m : Nat} (h : m ≠ n) : (s.setLk n l).lk m = s.lk m := by
  simp [State.lk, Sparse.get_set_ne _ _ h]

@[simp] theorem State.lk_lmod_same (s : State) (n : Nat) (f : LinkSt → LinkSt) : (s.lmod n f).lk n = f (s.lk n) := by
  simp [State.lmod]

theorem State.lk_lmod_ne (s : State) (f : LinkSt → LinkSt) {n m : Nat} (h : m ≠ n) : (s.lmod n f).lk m = s.lk m :=
  State.lk_setLk_ne s _ h

@[simp] theorem State.word_setLk (s : State) (n : Nat) (l : LinkSt) (k : Nat) : (s.setLk n l).word k = s.word k := rfl
@[simp] theorem State.rd_setLk (s : State) (n : Nat) (l : LinkSt) (f : Fld) : (s.setLk n l).rd f = s.rd f := rfl
@[simp] theorem State.word_lmod (s : State) (n : Nat) (f : LinkSt → LinkSt) (k : Nat) : (s.lmod n f).word k = s.word k := rfl
@[simp] theorem State.rd_lmod (s : State) (n : Nat) (f : LinkSt → LinkSt) (g : Fld) : (s.lmod n f).rd g = s.rd g := rfl

@[simp] theorem State.lk_wr (s : State) (f : Fld) (v n : Nat) : (s.wr f v).lk n = s.lk n := by simp [State.lk]
@[simp] theorem State.lk_count (s : State) (f : Fld) (k n : Nat) : (s.count f k).lk n = s.lk n := by simp [State.lk]
@[simp] theorem State.lk_raise (s : State) (e : Ev) (a : Option Nat) (n : Nat) : (s.raise e a).lk n = s.lk n := by simp [State.lk]
@[simp] theorem State.lk_raiseIf (s : State) (b : Bool) (e : Ev) (a : Option Nat) (n : Nat) : (s.raiseIf b e a).lk n = s.lk n := by simp [State.lk]
@[simp] theorem State.lk_lapse (s : State) (l : Lapse) (n : Nat) : (s.lapse l).lk n = s.lk n := by simp [State.lk]

/-! ## A new selection (R206) -/

/-- Two states that differ at most in what State.Quiet names and in the route stage. -/
def State.QuietRoute (s t : State) : Prop :=
  t = { s with regs := t.regs, caddy := t.caddy, boot := t.boot, mgmt := t.mgmt, draws := t.draws, bond := t.bond, pins := t.pins, route := t.route }

theorem State.Quiet.toRoute {s t : State} (h : s.Quiet t) : s.QuietRoute t := by
  unfold State.Quiet at h
  unfold State.QuietRoute
  rw [h]

theorem State.QuietRoute.trans {s t u : State} (a : s.QuietRoute t) (b : t.QuietRoute u) : s.QuietRoute u := by
  unfold State.QuietRoute at *
  rw [a] at b
  exact b

theorem State.QuietRoute.field {α : Type} {s t : State} (g : State → α) (h : s.QuietRoute t)
    (hg : ∀ (u : State) (a b : Sparse Word) (c : BootSt) (d : MgmtSt) (e : Nat) (f : BondSt) (p : Pins) (r : RouteSt),
      g { u with regs := a, caddy := b, boot := c, mgmt := d, draws := e, bond := f, pins := p, route := r } = g u) : g t = g s := by
  unfold State.QuietRoute at h
  rw [h]
  exact hg _ _ _ _ _ _ _ _ _

/-- The registers that a new selection can change: HOLDS, the lapse ring and its event, the log and the alarms. -/
def pickKey (k : Nat) : Prop := k = RTE_STAT_HOLDS.key ∨ (0x80000 ≤ k ∧ k < 0x90000) ∨ telKey k

theorem State.lapse_word (s : State) (l : Lapse) (k : Nat) (h : ¬ (0x80000 ≤ k ∧ k < 0x90000)) (h2 : ¬ telKey k) :
    (s.lapse l).word k = s.word k := by
  have c1 : k ≠ (DLV_LAPSE_CNT (l.part % 256) ((l.rank - 1) % 4)).key := by simp [DLV_LAPSE_CNT]; omega
  have c2 : ∀ j i : Nat, i < 8 → k ≠ (DLV_LAPSE_REC (j % 1024) i).key := by intro j i hi; simp [DLV_LAPSE_REC]; omega
  have c3 : k ≠ DLV_LAPSE_PTR_WPTR.key := by simp [DLV_LAPSE_PTR_WPTR]; omega
  have c4 : k ≠ DLV_LAPSE_OVF.key := by simp [DLV_LAPSE_OVF]; omega
  have c5 : k ≠ EV_DLV_LAPSE.key := by simp [EV_DLV_LAPSE]; omega
  have c6 : k ≠ EV_DLV_LAPSE.cnt.key := by simp [EV_DLV_LAPSE, DLV_LAPSE_EVT_CNT]; omega
  unfold State.lapse
  simp only []
  split
  · rw [State.word_setWord_ne _ _ (c2 _ _ (by omega)), State.count_word _ _ _ _ c1]
  · split
    · rw [State.raise_word _ _ _ _ h2 c5 c6, State.wr_word_ne _ _ _ _ c3]
      rw [State.word_setWord_ne _ _ (c2 _ _ (by omega)), State.word_setWord_ne _ _ (c2 _ _ (by omega)), State.word_setWord_ne _ _ (c2 _ _ (by omega)),
        State.word_setWord_ne _ _ (c2 _ _ (by omega)), State.word_setWord_ne _ _ (c2 _ _ (by omega)), State.word_setWord_ne _ _ (c2 _ _ (by omega)),
        State.word_setWord_ne _ _ (c2 _ _ (by omega)), State.word_setWord_ne _ _ (c2 _ _ (by omega)), State.count_word _ _ _ _ c1]
    · rw [State.alarm_word _ _ _ _ _ (by omega) h2, State.count_word _ _ _ _ c4, State.count_word _ _ _ _ c1]

/-- What a new selection leaves alone: everything but State.QuietRoute, and every register but pickKey. -/
def State.SelKeeps (s t : State) : Prop := s.QuietRoute t ∧ ∀ k, ¬ pickKey k → t.word k = s.word k

theorem State.SelKeeps.refl (s : State) : s.SelKeeps s := ⟨rfl, fun _ _ => rfl⟩

theorem State.SelKeeps.trans {s t u : State} (a : s.SelKeeps t) (b : t.SelKeeps u) : s.SelKeeps u :=
  ⟨a.1.trans b.1, fun k h => (b.2 k h).trans (a.2 k h)⟩

theorem State.setHolds_keeps (s : State) (hs q : List Hold) : s.SelKeeps (s.setHolds hs q) := by
  refine ⟨?_, ?_⟩
  · unfold State.setHolds
    exact State.QuietRoute.trans (t := { s with route := { s.route with holds := hs, queued := q } }) rfl (State.wr_quiet _ _ _).toRoute
  · intro k h
    unfold State.setHolds
    rw [State.wr_word_ne _ _ _ _ (fun e => h (.inl e))]
    rfl

theorem State.lapse_keeps (s : State) (l : Lapse) : s.SelKeeps (s.lapse l) :=
  ⟨(State.lapse_quiet s l).toRoute, fun k h => State.lapse_word s l k (fun e => h (Or.inr (Or.inl e))) (fun e => h (Or.inr (Or.inr e)))⟩

theorem foldl_keeps {α : Type} (f : State → α → State) (hf : ∀ (s : State) (a : α), s.SelKeeps (f s a)) (l : List α) : ∀ s : State, s.SelKeeps (l.foldl f s) := by
  induction l with
  | nil => intro s; exact State.SelKeeps.refl s
  | cons a l ih => intro s; exact (hf s a).trans (ih _)

theorem State.shareMoved_keeps (s : State) (hs : List Hold) (ms : List (Nat × Nat)) : s.SelKeeps (s.shareMoved hs ms) := by
  unfold State.shareMoved
  exact foldl_keeps _ (fun s e => State.lapse_keeps s _) _ s

theorem State.shareLapses_keeps (s : State) (h : Hold) (hs : List Hold) : s.SelKeeps (s.shareLapses h hs) := State.shareMoved_keeps s hs _

theorem State.noteChange_keeps (s : State) (u k : Nat) (old : Word) : s.SelKeeps (s.noteChange u k old) := by
  unfold State.noteChange
  simp only []
  split
  · exact State.setHolds_keeps _ _ _
  · refine State.SelKeeps.trans ?_ (State.shareLapses_keeps _ _ _)
    split
    · exact State.SelKeeps.refl s
    · exact State.setHolds_keeps _ _ _

theorem State.settle_keeps (n : Nat) : ∀ s : State, s.SelKeeps (State.settle n s) := by
  induction n with
  | zero => intro s; exact State.SelKeeps.refl s
  | succ n ih =>
    intro s
    unfold State.settle
    simp only []
    split
    · split
      · refine State.SelKeeps.trans ?_ (ih _)
        refine State.SelKeeps.trans ?_ (State.shareLapses_keeps _ _ _)
        split
        · exact State.setHolds_keeps _ _ _
        · exact (State.setHolds_keeps _ _ _).trans (State.setHolds_keeps _ _ _)
      · split
        · exact State.SelKeeps.refl s
        · exact State.setHolds_keeps _ _ _
    · split
      · exact State.SelKeeps.refl s
      · exact State.setHolds_keeps _ _ _

/-- A new selection after an effect leaves alone all that the effect made but the route stage. -/
theorem State.reselect_keeps (s : State) (f : State → State) : (f s).SelKeeps (s.reselect f) := by
  unfold State.reselect
  simp only []
  refine State.SelKeeps.trans ?_ (State.settle_keeps _ _)
  split
  · exact State.SelKeeps.refl _
  · exact State.noteChange_keeps _ _ _ _

@[simp] theorem State.lk_reselect (s : State) (f : State → State) (n : Nat) : (s.reselect f).lk n = (f s).lk n :=
  (State.reselect_keeps s f).1.field (fun u => u.lk n) (fun _ _ _ _ _ _ _ _ _ => rfl)

theorem State.rd_reselect (s : State) (f : State → State) (g : Fld) (h : ¬ pickKey g.key) : (s.reselect f).rd g = (f s).rd g := by
  unfold State.rd
  rw [(State.reselect_keeps s f).2 _ h]

/-- The outcome of a command that reaches its link: the effect, with the queue, the build and the reset inputs kept. -/
theorem onLink_up (n : Nat) (s : State) (f : State → State) (h : n < s.links) (hb : s.bReset = false) : onLink n s f = s.done (f s) := by
  simp [onLink, h, State.onB, hb]

/-- A command's outcome when its effect leaves the queue, the build and the reset inputs alone. -/
theorem State.done_same (s s1 : State)
    (h : s1.pending = s.pending ∧ s1.tiles = s.tiles ∧ s1.links = s.links ∧ s1.bReset = s.bReset ∧ s1.tReset = s.tReset) : s.done s1 = .next s1 := by
  obtain ⟨a, b, c, d, e⟩ := h
  unfold State.done
  rw [← a, ← b, ← c, ← d, ← e]

/-- The outcome of a command that changes the selection. -/
theorem onLinkSel_up (n : Nat) (s : State) (f : State → State) (h : n < s.links) (hb : s.bReset = false) : onLinkSel n s f = s.done (s.reselect f) :=
  onLink_up n s _ h hb

/-! ## States of a link -/

/-- The registers of a link's page are not among those that a new selection changes. -/
theorem not_pick (n k : Nat) (h : n < 64) (a : 0x10000 + 0x400 * n ≤ k) (b : k < 0x10400 + 0x400 * n) : ¬ pickKey k := by
  unfold pickKey telKey; simp [RTE_STAT_HOLDS]; omega

/-- Nor among those of the log and the alarms. -/
theorem not_tel (n k : Nat) (h : n < 64) (b : k < 0x10400 + 0x400 * n) : ¬ telKey k := by
  unfold telKey; omega

@[simp] theorem State.lst_enter (s : State) (n st : Nat) : (s.enter n st).lst n = st % 16 := by
  unfold State.lst State.enter
  rw [State.rd_lmod, State.rd_wr_same _ _ _ (by simp [LNK_STATUS_STATE])]
  simp [LNK_STATUS_STATE]

/-- Entering a state leaves every field but STATE alone. -/
theorem State.rd_enter (s : State) (n st : Nat) (f : Fld) (h : 4 ≤ f.lo ∨ f.key ≠ 0x10000 + 0x400 * n) : (s.enter n st).rd f = s.rd f := by
  unfold State.enter
  rw [State.rd_lmod]
  rcases h with h | h
  · exact State.rd_wr_apart _ _ _ _ (by simp [LNK_STATUS_STATE]) (by right; simp [LNK_STATUS_STATE]; omega)
  · exact State.rd_wr_ne _ _ _ _ h

@[simp] theorem State.lk_enter (s : State) (n st : Nat) : (s.enter n st).lk n = (s.lk n).atEntry s.kclk st := by
  simp [State.enter]

/-- A declaration leaves alone the fields outside KB_LNK_RSTAT, its event and the log. -/
theorem State.rd_declareDown (s : State) (n dc : Nat) (f : Fld) (hk : f.key ≠ (LNK_RSTAT_DSTATE n).key)
    (a : ¬ telKey f.key) (h1 : f.key ≠ (EV_LNKR_LDOWN n).key) (h2 : f.key ≠ (EV_LNKR_LDOWN n).cnt.key) : (s.declareDown n dc).rd f = s.rd f := by
  unfold State.declareDown
  simp only []
  split
  · rfl
  · rw [State.raise_rd _ _ _ _ a h1 h2, State.rd_lmod, State.rd_wr_ne _ _ _ _ hk, State.rd_wr_ne _ _ _ _ (by simpa [LNK_RSTAT_DCAUSE, LNK_RSTAT_DSTATE] using hk)]

/-- A declaration ends the replay run and changes nothing else of its link outside the registers. -/
theorem State.lk_declareDown (s : State) (n dc : Nat) :
    (s.declareDown n dc).lk n = if s.rd (LNK_RSTAT_DSTATE n) = 3 ∨ s.rd (LNK_RSTAT_DSTATE n) = 2 then s.lk n else { s.lk n with run := [] } := by
  unfold State.declareDown
  simp only []
  split <;> simp

@[simp] theorem State.lk_draw (s : State) (w n : Nat) : (s.draw w).2.lk n = s.lk n := rfl

@[simp] theorem State.lk_wrFree (s : State) (f : Fld) (n : Nat) : (s.wrFree f).lk n = s.lk n := by
  unfold State.wrFree; simp

end Sys2Proof.Machine
end

