-- ==== Sys2Proof/Laws/Answers.lean ====
section
/-!
SUPPORT. How an answer of exec is shown from what a command does: one lemma for each shape a meaning takes (anywhere, in one
half, on a link, on a group), and what reading gives through the updates those meanings make.
-/
namespace Sys2Proof.Machine

theorem State.wr_eq_setWord (s : State) (f : Fld) (v : Nat) (h : f.ret = false) : s.wr f v = s.setWord f.key (putField (s.word f.key) f.lo f.w v) := by
  unfold State.wr; simp [h]
@[simp] theorem State.word_mk (x0 : List Instr) (x1 : Nat) (x2 : Nat) (x3 : Nat) (x4 : Bool) (x5 : Bool) (x6 : Nat) (x7 : Nat) (x8 : Bool) (x9 : Bool) (x10 : Bool) (x11 : Sparse Word) (x12 : Sparse Word) (x13 : CaddyHdr) (x14 : Bool) (x15 : Sparse Word) (x16 : Pins) (x17 : BootSt) (x18 : MgmtSt) (x19 : BondSt) (x20 : XingSt) (x21 : Sparse LinkSt) (x22 : RouteSt) (x23 : DlvSt) (x24 : TimeSt) (x25 : PaceSt) (x26 : PourSt) (x27 : BlendSt) (x28 : Sparse ProgX) (x29 : List Nat) (x30 : EccSt) (x31 : TestSt)  (k : Nat) : State.word (State.mk x0 x1 x2 x3 x4 x5 x6 x7 x8 x9 x10 x11 x12 x13 x14 x15 x16 x17 x18 x19 x20 x21 x22 x23 x24 x25 x26 x27 x28 x29 x30 x31) k = Sparse.get regReset x11 k := rfl
@[simp] theorem State.rd_mk (x0 : List Instr) (x1 : Nat) (x2 : Nat) (x3 : Nat) (x4 : Bool) (x5 : Bool) (x6 : Nat) (x7 : Nat) (x8 : Bool) (x9 : Bool) (x10 : Bool) (x11 : Sparse Word) (x12 : Sparse Word) (x13 : CaddyHdr) (x14 : Bool) (x15 : Sparse Word) (x16 : Pins) (x17 : BootSt) (x18 : MgmtSt) (x19 : BondSt) (x20 : XingSt) (x21 : Sparse LinkSt) (x22 : RouteSt) (x23 : DlvSt) (x24 : TimeSt) (x25 : PaceSt) (x26 : PourSt) (x27 : BlendSt) (x28 : Sparse ProgX) (x29 : List Nat) (x30 : EccSt) (x31 : TestSt)  (f : Fld) : State.rd (State.mk x0 x1 x2 x3 x4 x5 x6 x7 x8 x9 x10 x11 x12 x13 x14 x15 x16 x17 x18 x19 x20 x21 x22 x23 x24 x25 x26 x27 x28 x29 x30 x31) f = bits (Sparse.get regReset x11 f.key).toNat f.lo f.w := rfl
@[simp] theorem get_regs (s : State) (k : Nat) : Sparse.get regReset s.regs k = s.word k := rfl
@[simp] theorem rd_fold (s : State) (f : Fld) : bits (s.word f.key).toNat f.lo f.w = s.rd f := rfl
@[simp] theorem State.lk_mk (x0 : List Instr) (x1 : Nat) (x2 : Nat) (x3 : Nat) (x4 : Bool) (x5 : Bool) (x6 : Nat) (x7 : Nat) (x8 : Bool) (x9 : Bool) (x10 : Bool) (x11 : Sparse Word) (x12 : Sparse Word) (x13 : CaddyHdr) (x14 : Bool) (x15 : Sparse Word) (x16 : Pins) (x17 : BootSt) (x18 : MgmtSt) (x19 : BondSt) (x20 : XingSt) (x21 : Sparse LinkSt) (x22 : RouteSt) (x23 : DlvSt) (x24 : TimeSt) (x25 : PaceSt) (x26 : PourSt) (x27 : BlendSt) (x28 : Sparse ProgX) (x29 : List Nat) (x30 : EccSt) (x31 : TestSt)  (k : Nat) : State.lk (State.mk x0 x1 x2 x3 x4 x5 x6 x7 x8 x9 x10 x11 x12 x13 x14 x15 x16 x17 x18 x19 x20 x21 x22 x23 x24 x25 x26 x27 x28 x29 x30 x31) k = Sparse.get (fun _ => LinkSt.reset) x21 k := rfl
@[simp] theorem get_lnk (s : State) (k : Nat) : Sparse.get (fun _ => LinkSt.reset) s.lnk k = s.lk k := rfl
@[simp] theorem State.grp_mk (x0 : List Instr) (x1 : Nat) (x2 : Nat) (x3 : Nat) (x4 : Bool) (x5 : Bool) (x6 : Nat) (x7 : Nat) (x8 : Bool) (x9 : Bool) (x10 : Bool) (x11 : Sparse Word) (x12 : Sparse Word) (x13 : CaddyHdr) (x14 : Bool) (x15 : Sparse Word) (x16 : Pins) (x17 : BootSt) (x18 : MgmtSt) (x19 : BondSt) (x20 : XingSt) (x21 : Sparse LinkSt) (x22 : RouteSt) (x23 : DlvSt) (x24 : TimeSt) (x25 : PaceSt) (x26 : PourSt) (x27 : BlendSt) (x28 : Sparse ProgX) (x29 : List Nat) (x30 : EccSt) (x31 : TestSt)  (k : Nat) : State.grp (State.mk x0 x1 x2 x3 x4 x5 x6 x7 x8 x9 x10 x11 x12 x13 x14 x15 x16 x17 x18 x19 x20 x21 x22 x23 x24 x25 x26 x27 x28 x29 x30 x31) k = Sparse.get (fun _ => Group.reset) x19.groups k := rfl
@[simp] theorem get_grp (s : State) (k : Nat) : Sparse.get (fun _ => Group.reset) s.bond.groups k = s.grp k := rfl
/-- What no command but a reset may change. -/
def State.Kept (s t : State) : Prop := t.pending = s.pending ∧ t.tiles = s.tiles ∧ t.links = s.links ∧ t.bReset = s.bReset ∧ t.tReset = s.tReset
theorem State.Quiet.kept {s t : State} (h : s.Quiet t) : State.Kept s t := by
  unfold State.Quiet at h; rw [h]; exact ⟨rfl, rfl, rfl, rfl, rfl⟩
theorem State.answers_done {c : Instr} {s X : State} {P : State → Prop} (e : exec c s = s.done X) (q : State.Kept s X) (p : P X) : s.Answers c P :=
  ⟨X, e.trans (State.done_same s X q), p⟩
theorem State.answers_done_eq {c : Instr} {s X : State} {P : State → Prop} (e : exec c s = s.done X) (q : State.Kept s X) (p : ∀ t, t = X → P t) : s.Answers c P :=
  State.answers_done e q (p _ rfl)
theorem State.answers_onT {c : Instr} {s : State} {f : State → State} {P : State → Prop} (e : exec c s = s.done (s.onT f)) (h : s.tReset = false)
    (q : State.Kept s (f s)) (p : ∀ t, t = f s → P t) : s.Answers c P := State.answers_done (X := f s) (e.trans (by simp [State.onT, h])) q (p _ rfl)
theorem State.answers_onB {c : Instr} {s : State} {f : State → State} {P : State → Prop} (e : exec c s = s.done (s.onB f)) (h : s.bReset = false)
    (q : State.Kept s (f s)) (p : ∀ t, t = f s → P t) : s.Answers c P := State.answers_done (X := f s) (e.trans (by simp [State.onB, h])) q (p _ rfl)
theorem State.answers_onLink {c : Instr} {s : State} {n : Nat} {f : State → State} {P : State → Prop} (e : exec c s = onLink n s f) (h : s.HasLink n)
    (q : State.Kept s (f s)) (p : ∀ t, t = f s → P t) : s.Answers c P := State.answers_done (X := f s) (e.trans (onLink_up n s f h.2.1 h.1)) q (p _ rfl)
theorem State.answers_onLinkSel {c : Instr} {s : State} {n : Nat} {f : State → State} {P : State → Prop} (e : exec c s = onLinkSel n s f) (h : s.HasLink n)
    (p : ∀ u, u = s.reselect f → P {u with pending := s.pending, tiles := s.tiles, links := s.links, bReset := s.bReset, tReset := s.tReset}) : s.Answers c P :=
  ⟨_, e.trans (onLinkSel_up n s f h.2.1 h.1), p _ rfl⟩
theorem State.answers_onGroup {c : Instr} {s : State} {g : Nat} {f : State → State} {P : State → Prop} (e : exec c s = onGroup g s f) (h : g < s.groups)
    (q : State.Kept s (f s)) (p : ∀ t, t = f s → P t) : s.Answers c P := State.answers_done (X := f s) (e.trans (by simp [onGroup, h])) q (p _ rfl)
theorem State.answers_onGroupB {c : Instr} {s : State} {g : Nat} {f : State → State} {P : State → Prop} (e : exec c s = onGroup g s (fun s => s.onB f)) (h : g < s.groups)
    (hb : s.bReset = false) (q : State.Kept s (f s)) (p : ∀ t, t = f s → P t) : s.Answers c P := State.answers_done (X := f s) (e.trans (by simp [onGroup, h, State.onB, hb])) q (p _ rfl)
theorem State.answers_onGroupT {c : Instr} {s : State} {g : Nat} {f : State → State} {P : State → Prop} (e : exec c s = onGroup g s (fun s => s.onT f)) (h : g < s.groups)
    (hb : s.tReset = false) (q : State.Kept s (f s)) (p : ∀ t, t = f s → P t) : s.Answers c P := State.answers_done (X := f s) (e.trans (by simp [onGroup, h, State.onT, hb])) q (p _ rfl)
@[simp] theorem State.wr_bond (s : State) (f : Fld) (v : Nat) : (s.wr f v).bond = s.bond := by
  unfold State.wr State.setCword State.wantSnap; simp only []; repeat' split
  all_goals rfl
@[simp] theorem State.wr_pins (s : State) (f : Fld) (v : Nat) : (s.wr f v).pins = s.pins := by
  unfold State.wr State.setCword State.wantSnap; simp only []; repeat' split
  all_goals rfl
@[simp] theorem State.wr_mgmt (s : State) (f : Fld) (v : Nat) : (s.wr f v).mgmt = s.mgmt := by
  unfold State.wr State.setCword State.wantSnap; simp only []; repeat' split
  all_goals rfl
@[simp] theorem State.wr_draws (s : State) (f : Fld) (v : Nat) : (s.wr f v).draws = s.draws := by
  unfold State.wr State.setCword State.wantSnap; simp only []; repeat' split
  all_goals rfl
@[simp] theorem State.word_tookT (s : State) (a b k : Nat) : (s.tookT a b).word k = s.word k := rfl
@[simp] theorem State.rd_tookT (s : State) (a b : Nat) (f : Fld) : (s.tookT a b).rd f = s.rd f := rfl
@[simp] theorem State.word_tookB (s : State) (a b k : Nat) : (s.tookB a b).word k = s.word k := rfl
@[simp] theorem State.rd_tookB (s : State) (a b : Nat) (f : Fld) : (s.tookB a b).rd f = s.rd f := rfl
@[simp] theorem State.xTB_tookT (s : State) (a b : Nat) : (s.tookT a b).bond.xTB = s.bond.xTB := rfl
@[simp] theorem State.xBT_tookB (s : State) (a b : Nat) : (s.tookB a b).bond.xBT = s.bond.xBT := rfl
@[simp] theorem State.tRoles_tookT (s : State) (a b : Nat) : (s.tookT a b).bond.tRoles = s.bond.tRoles := rfl
@[simp] theorem State.grp_tookT (s : State) (a b g : Nat) : (s.tookT a b).grp g = s.grp g := rfl
@[simp] theorem State.grp_tookB (s : State) (a b g : Nat) : (s.tookB a b).grp g = s.grp g := rfl
@[simp] theorem State.wr_caddy (s : State) (f : Fld) (v : Nat) (h : f.ret = false) : (s.wr f v).caddy = s.caddy := by
  rw [State.wr_eq_setWord s f v h]; rfl
@[simp] theorem State.wr_boot (s : State) (f : Fld) (v : Nat) (h : f.ret = false) : (s.wr f v).boot = s.boot := by
  rw [State.wr_eq_setWord s f v h]; rfl
theorem State.wr_eq (s : State) (f : Fld) (v : Nat) (h : f.ret = false) : s.wr f v = { s with regs := (s.wr f v).regs } := by
  rw [State.wr_eq_setWord s f v h]; rfl
theorem State.eq_of_fields {s t : State} (h0 : s.pending = t.pending) (h1 : s.tiles = t.tiles) (h2 : s.links = t.links) (h3 : s.draws = t.draws) (h4 : s.bReset = t.bReset) (h5 : s.tReset = t.tReset) (h6 : s.kclk = t.kclk) (h7 : s.tclk = t.tclk) (h8 : s.hold = t.hold) (h9 : s.tHold = t.tHold) (h10 : s.portsUp = t.portsUp) (h11 : s.regs = t.regs) (h12 : s.caddy = t.caddy) (h13 : s.hdr = t.hdr) (h14 : s.caddyShut = t.caddyShut) (h15 : s.latches = t.latches) (h16 : s.pins = t.pins) (h17 : s.boot = t.boot) (h18 : s.mgmt = t.mgmt) (h19 : s.bond = t.bond) (h20 : s.xing = t.xing) (h21 : s.lnk = t.lnk) (h22 : s.route = t.route) (h23 : s.dlv = t.dlv) (h24 : s.time = t.time) (h25 : s.pace = t.pace) (h26 : s.pour = t.pour) (h27 : s.blend = t.blend) (h28 : s.prog = t.prog) (h29 : s.track = t.track) (h30 : s.ecc = t.ecc) (h31 : s.test = t.test) : s = t := by
  cases s; cases t; simp_all
@[simp] theorem grp_setGrp (s : State) (g : Nat) (x : Group) : (s.setGrp g x).grp g = x := by
  show Sparse.get (fun _ => Group.reset) (Sparse.set (fun _ => Group.reset) s.bond.groups g x) g = x; simp
theorem grp_setGrp_ne (s : State) {g h : Nat} (x : Group) (e : h ≠ g) : (s.setGrp g x).grp h = s.grp h := by
  show Sparse.get (fun _ => Group.reset) (Sparse.set (fun _ => Group.reset) s.bond.groups g x) h = _; rw [Sparse.get_set_ne _ _ e]; rfl
@[simp] theorem rd_setGrp (s : State) (g : Nat) (x : Group) (f : Fld) : (s.setGrp g x).rd f = s.rd f := rfl
@[simp] theorem word_setGrp (s : State) (g : Nat) (x : Group) (k : Nat) : (s.setGrp g x).word k = s.word k := rfl
@[simp] theorem grp_wr (s : State) (f : Fld) (v g : Nat) : (s.wr f v).grp g = s.grp g := by unfold State.grp; simp
@[simp] theorem State.raise_rd' (s : State) (e : Ev) (a : Option Nat) (f : Fld) (h : ¬ telKey f.key) (h1 : f.key ≠ e.key) (h2 : f.key ≠ e.cnt.key) : (s.raise e a).rd f = s.rd f :=
  State.raise_rd s e a f h h1 h2
@[simp] theorem State.raise_word' (s : State) (e : Ev) (a : Option Nat) (k : Nat) (h : ¬ telKey k) (h1 : k ≠ e.key) (h2 : k ≠ e.cnt.key) : (s.raise e a).word k = s.word k :=
  State.raise_word s e a k h h1 h2
@[simp] theorem rd_holdAll (s : State) (f : Fld) : s.holdAll.rd f = s.rd f := rfl
@[simp] theorem rd_requestReset (s : State) (a b : Nat) (f : Fld) : (s.requestReset a b).rd f = s.rd f := rfl
@[simp] theorem word_requestReset (s : State) (a b k : Nat) : (s.requestReset a b).word k = s.word k := rfl
@[simp] theorem hold_requestReset (s : State) (a b : Nat) : (s.requestReset a b).hold = s.hold := rfl
@[simp] theorem causes_requestReset (s : State) (a b : Nat) : (s.requestReset a b).boot.causes = s.boot.causes ||| 2 ^ a := rfl

end Sys2Proof.Machine
end

