-- ==== Sys2Proof/WellFormed.lean ====
section
/-!
DEFINITION. What makes a command one that the part can meet: every operand within the width of the field that carries
it, or within the number of things that it names. Links and groups are checked against the largest build here
(R6, R8); a command for one that the build lacks is a fault of its meaning.
-/
namespace Sys2Proof

/-- Bytes. -/
def bytesOk (bs : List Nat) : Bool := bs.all fun b => decide (b < 256)

/-- A routed message (R172, R200): its fields, and at most 288 slots after the first. -/
def msgOk (m : RMsg) : Bool :=
  decide (m.vc < 8) && decide (m.dst < 2 ^ 24) && decide (m.src < 2 ^ 24) && decide (m.flow < 4096) && decide (m.part < 256) &&
    decide (m.hops < 64) && decide (m.mtype < 256) && decide (m.sinc < 2 ^ 16) && decide (m.body.length ≤ 288)

/-- A message of the crossing: 0, 1 or 4 data units (R113). -/
def xmsgOk (m : XMsg) : Bool := m.data.length == 0 || m.data.length == 1 || m.data.length == 4

/-- A request on the client port (R123). -/
def reqOk (r : ClientReq) : Bool :=
  decide (r.op < 16) && decide (r.cid < 4096) && decide (r.part < 256) && decide (r.laddr < 2 ^ 46) && decide (r.arg < 256)

/-- A side-band controller has an 8-bit endpoint ID (R412). -/
def portOk : Port → Bool
  | .side eid => decide (eid < 256)
  | _ => true

/-- An upset names a memory and a place in it (Upset). -/
def upsetsOk (us : List Upset) : Bool := us.all fun u => decide (u.mem < 68) && decide (u.addr < 2 ^ 24)

/-- The symbols of one flit on at most 5 lanes, 10 bits each (R140, R142). -/
def lanesOk (ls : List (List Nat)) : Bool := decide (ls.length ≤ 5) && ls.all fun l => l.all fun x => decide (x < 1024)

/-- A reading of 12 bits in units of 0.125 °C (R370). -/
def tempOk (t : Int) : Bool := decide (-2048 ≤ t) && decide (t < 2048)

/-- A command is well formed. -/
def Instr.wf : Instr → Bool
  | .porstAssert _ _ => true
  | .porstRelease _ _ _ _ => true
  | .vddAonPowerOn => true
  | .supplyResetLevel _ => true
  | .aonResetLevel _ => true
  | .supplyWarning _ => true
  | .sagHoldExpiry _ => true
  | .rstReqPulseEnd => true
  | .rstReqUnhonoured => true
  | .thermalTrip sensor reading => decide (sensor < 12) && tempOk reading
  | .tripClear src => portOk src
  | .epochMarker _ => true
  | .epochMiss => true
  | .correctionSendPoint => true
  | .correctionFreeze => true
  | .ttReqTimer => true
  | .ttRspTimeout seq => decide (seq < 256)
  | .holdmaxExpiry => true
  | .rootStartTimeout => true
  | .periodChangeGo src v => portOk src && decide (v < 2 ^ 32)
  | .timeSendTimer => true
  | .energySample ch data => decide (ch < 16) && decide (data < 2 ^ 32)
  | .energyChannelMissing ch => decide (ch < 16)
  | .imageStepDone _ _ _ _ _ => true
  | .restoreStepDone _ _ _ _ _ newSeg => decide (newSeg < 256)
  | .tapStep => true
  | .rateSwitch => true
  | .alignDone g depth _ => decide (g < 2 ^ 11) && decide (depth < 5)
  | .checkWindowEnd _ => true
  | .tokenSilenceTimeout => true
  | .classKLossTimeout => true
  | .identTimeout => true
  | .capsAckTimeout => true
  | .discoveryEnd _ => true
  | .frameSeal g _ => decide (g < 2 ^ 11)
  | .frameReceive g _ _ => decide (g < 2 ^ 11)
  | .retryWaitTimeout g => decide (g < 2 ^ 11)
  | .groupRecoveryDone g depth _ _ => decide (g < 2 ^ 11) && decide (depth < 5)
  | .repairSpareDrive g => decide (g < 2 ^ 11)
  | .repairReadyCheck g => decide (g < 2 ^ 11)
  | .repairSwitch g => decide (g < 2 ^ 11)
  | .heirResealStart g => decide (g < 2 ^ 11)
  | .wake tile0 set count rev => decide (tile0 < 16) && decide (set < 8) && decide (count < 2 ^ 32) && decide (rev < 256)
  | .wakeAck tile0 set count rev => decide (tile0 < 16) && decide (set < 8) && decide (count < 2 ^ 32) && decide (rev < 256)
  | .taps g _ => decide (g < 2 ^ 11)
  | .rate count => decide (count < 2 ^ 32)
  | .tokenReq => true
  | .tokenRpt inc wtok rtok => decide (inc < 2 ^ 16) && decide (wtok < 2 ^ 32) && decide (rtok < 2 ^ 32)
  | .tokenSet inc wtok rtok => decide (inc < 2 ^ 16) && decide (wtok < 2 ^ 32) && decide (rtok < 2 ^ 32)
  | .roles tile0 word => decide (tile0 < 16) && decide (word < 2 ^ 32)
  | .repair g w k m sw => decide (g < 2 ^ 11) && decide (w < 69) && decide (k < 4) && decide (m < 2 ^ 32) && decide (sw < 2 ^ 32)
  | .repairRdy g _ => decide (g < 2 ^ 11)
  | .repairCancel g => decide (g < 2 ^ 11)
  | .wireRpt g mask => decide (g < 2 ^ 11) && decide (mask < 2 ^ 72)
  | .groupState g st cause => decide (g < 2 ^ 11) && decide (st < 4) && decide (cause < 256)
  | .hold => true
  | .cal start dwell hmin => decide (start < 2 ^ 32) && decide (dwell < 256) && decide (hmin < 256)
  | .calAck start dwell hmin => decide (start < 2 ^ 32) && decide (dwell < 256) && decide (hmin < 256)
  | .heir g h r x n => decide (g < 2 ^ 11) && decide (h < 2 ^ 11) && decide (r < 2 ^ 32) && decide (x < 2 ^ 32) && decide (n < 256)
  | .groupRpt g _ r => decide (g < 2 ^ 11) && decide (r < 2 ^ 32)
  | .ident _ m => xmsgOk m
  | .capsSet m => xmsgOk m
  | .capsAck m => xmsgOk m
  | .regRd _ m => xmsgOk m
  | .regWr _ m => xmsgOk m
  | .regRsp _ m => xmsgOk m
  | .msi m => xmsgOk m
  | .trig m => xmsgOk m
  | .permit m => xmsgOk m
  | .opp m => xmsgOk m
  | .time m => xmsgOk m
  | .therm m => xmsgOk m
  | .thermSendTimer readings => readings.all tempOk
  | .thermTimeout => true
  | .dbgRd m => xmsgOk m
  | .dbgRsp m => xmsgOk m
  | .trigRelease => true
  | .permitRelease => true
  | .oppRelease => true
  | .rdNc m => xmsgOk m
  | .wrLine m => xmsgOk m
  | .wrPart m => xmsgOk m
  | .atomic m => xmsgOk m
  | .rspData m => xmsgOk m
  | .rspAck m => xmsgOk m
  | .rspAtom m => xmsgOk m
  | .rspErr m => xmsgOk m
  | .rdS m => xmsgOk m
  | .rdU m => xmsgOk m
  | .upgrade m => xmsgOk m
  | .wb m => xmsgOk m
  | .evict m => xmsgOk m
  | .gntS m => xmsgOk m
  | .gntE m => xmsgOk m
  | .gntUpg m => xmsgOk m
  | .wbAck m => xmsgOk m
  | .gntErr m => xmsgOk m
  | .snpInv m => xmsgOk m
  | .snpShr m => xmsgOk m
  | .srsp m => xmsgOk m
  | .srspData m => xmsgOk m
  | .homeResponse pair m => decide (pair < 16) && xmsgOk m
  | .homeSnpShr pair m => decide (pair < 16) && xmsgOk m
  | .homeSnpInv pair m => decide (pair < 16) && xmsgOk m
  | .clientRdShared bank req => decide (bank < 32) && reqOk req
  | .clientRdUnique bank req => decide (bank < 32) && reqOk req
  | .clientUpgrade bank req => decide (bank < 32) && reqOk req
  | .clientRdNc bank req => decide (bank < 32) && reqOk req
  | .clientWrLine bank req => decide (bank < 32) && reqOk req
  | .clientWrPart bank req => decide (bank < 32) && reqOk req
  | .clientAtomic bank req => decide (bank < 32) && reqOk req
  | .clientWb bank req => decide (bank < 32) && reqOk req
  | .clientEvict bank req => decide (bank < 32) && reqOk req
  | .clientFlush bank req => decide (bank < 32) && reqOk req
  | .clientSnoopRsp bank sid rsp _ => decide (bank < 32) && decide (sid < 2 ^ 12) && decide (rsp < 16)
  | .rlcFlush src v => portOk src && decide (v < 2 ^ 32)
  | .dirFlush src => portOk src
  | .rflush src => portOk src
  | .tsiTile ch _ _ => decide (ch < 8)
  | .streamFrame _ _ => true
  | .linkEn src n v => portOk src && decide (n < 64) && decide (v < 2 ^ 32)
  | .linkDisable src n v => portOk src && decide (n < 64) && decide (v < 2 ^ 32)
  | .retrainWrite src n v => portOk src && decide (n < 64) && decide (v < 2 ^ 32)
  | .wmaxWrite src n v => portOk src && decide (n < 64) && decide (v < 2 ^ 32)
  | .healthWaitEnd n => decide (n < 64)
  | .oeReadDone n addr v => decide (n < 64) && decide (addr < 2 ^ 16) && decide (v < 2 ^ 16)
  | .oePollTimer n => decide (n < 64)
  | .laneRxlockRise n q => decide (n < 64) && decide (q < 5)
  | .laneRxlockFall n q => decide (n < 64) && decide (q < 5)
  | .trainingBlock n q bytes _ => decide (n < 64) && decide (q < 5) && bytesOk bytes
  | .prbsWindowEnd n q => decide (n < 64) && decide (q < 5)
  | .flitStart n _ => decide (n < 64)
  | .linkStateTimeout n => decide (n < 64)
  | .waitExpiry n => decide (n < 64)
  | .incompatRetryTimer n => decide (n < 64)
  | .flitPeriod n ups => decide (n < 64) && upsetsOk ups
  | .gearboxFlitStart n => decide (n < 64)
  | .flitReceive n lanes => decide (n < 64) && lanesOk lanes
  | .laneRepairTimeout n => decide (n < 64)
  | .mirrorVerifyTimeout n => decide (n < 64)
  | .mirrorChoiceTimer n => decide (n < 64)
  | .widthSwitchPoint n _ => decide (n < 64)
  | .widenTimer n => decide (n < 64)
  | .nbr n _ _ link fna inc vendor part lo hi caps => decide (n < 64) && decide (link < 64) && decide (fna < 2 ^ 24) && decide (inc < 2 ^ 16) && decide (vendor < 2 ^ 16) && decide (part < 2 ^ 16) && decide (lo < 256) && decide (hi < 256) && decide (caps < 2 ^ 32)
  | .retrain n => decide (n < 64)
  | .mirror n log spare _ => decide (n < 64) && decide (log < 16) && decide (spare < 16)
  | .wreq n w mask _ => decide (n < 64) && decide (w < 4) && decide (mask < 32)
  | .widthSw n w map count => decide (n < 64) && decide (w < 4) && decide (map < 2 ^ 12) && decide (count < 256)
  | .linkJoin n mask => decide (n < 64) && decide (mask < 32)
  | .lstate n _ _ _ _ exp nxt base => decide (n < 64) && decide (exp < 2 ^ 12) && decide (nxt < 2 ^ 12) && base.all (fun x => decide (x < 2 ^ 24))
  | .replayTimerExpiry n => decide (n < 64)
  | .ageLimitExpiry n => decide (n < 64)
  | .elDecay n => decide (n < 64)
  | .ackKeepaliveTimer n => decide (n < 64)
  | .creditReturnTimer n => decide (n < 64)
  | .graceExpiry n => decide (n < 64)
  | .crsyncTimer n => decide (n < 64)
  | .crsyncLo n totals => decide (n < 64) && totals.all (fun x => decide (x < 2 ^ 24))
  | .crsyncHi n totals => decide (n < 64) && totals.all (fun x => decide (x < 2 ^ 24))
  | .keyLoad src n _ => portOk src && decide (n < 64)
  | .keyEpoch n _ => decide (n < 64)
  | .hbTimer n => decide (n < 64)
  | .hb n fna inc seq flags => decide (n < 64) && decide (fna < 2 ^ 24) && decide (inc < 2 ^ 16) && decide (seq < 2 ^ 32) && decide (flags < 256)
  | .silenceSuspect n => decide (n < 64)
  | .silenceUnreachable n => decide (n < 64)
  | .ttReq n seq _ => decide (n < 64) && decide (seq < 256)
  | .ttRsp n seq _ _ t2 t3 => decide (n < 64) && decide (seq < 256) && decide (t2 < 2 ^ 48) && decide (t3 < 2 ^ 48)
  | .ttCyc n seq cyc period => decide (n < 64) && decide (seq < 256) && decide (cyc < 2 ^ 48) && decide (period < 2 ^ 21)
  | .ttPchg n period ceff => decide (n < 64) && decide (period < 2 ^ 21) && decide (ceff < 2 ^ 48)
  | .tcorrA n seq _ _ f0 => decide (n < 64) && decide (seq < 256) && decide (f0 < 2 ^ 104)
  | .tcorrB n seq inc period ceff => decide (n < 64) && decide (seq < 256) && decide (inc < 2 ^ 40) && decide (period < 2 ^ 21) && decide (ceff < 2 ^ 48)
  | .routeMessage n vc ups => decide (n < 64) && decide (vc < 8) && upsetsOk ups
  | .norouteTimeout m => msgOk m
  | .tableWrite src ix v => portOk src && decide (ix < 2 ^ 16) && decide (v < 2 ^ 32)
  | .meshWrite src d _ v => portOk src && decide (d < 4) && decide (v < 2 ^ 32)
  | .drainWrite src _ v => portOk src && decide (v < 2 ^ 32)
  | .fcmdFence src => portOk src
  | .fcmdUnfence src => portOk src
  | .fence n fna inc gen => decide (n < 64) && decide (fna < 2 ^ 24) && decide (inc < 2 ^ 16) && decide (gen < 2 ^ 16)
  | .unfence n fna inc gen => decide (n < 64) && decide (fna < 2 ^ 24) && decide (inc < 2 ^ 16) && decide (gen < 2 ^ 16)
  | .nbrAccept src n => portOk src && decide (n < 64)
  | .tileSourceTake src => decide (src < 4104)
  | .wdone _ => true
  | .rdata _ _ => true
  | .rerr _ => true
  | .retentionRetryTimer => true
  | .tdelivDone m => msgOk m
  | .tile m => msgOk m
  | .tack m => msgOk m
  | .tnak m => msgOk m
  | .sync m => msgOk m
  | .syncRsp m => msgOk m
  | .broken m => msgOk m
  | .brack m => msgOk m
  | .close m => msgOk m
  | .closeAck m => msgOk m
  | .mreq m => msgOk m
  | .mrsp m => msgOk m
  | .flowTimerExpiry f => decide (f < 2 ^ 12)
  | .brokenRepeatTimer f => decide (f < 2 ^ 12)
  | .tackTimer src flow => decide (src < 2 ^ 24) && decide (flow < 2 ^ 12)
  | .requestTimerExpiry tag => decide (tag < 2 ^ 16)
  | .responseHoldExpiry src sinc tag => decide (src < 2 ^ 24) && decide (sinc < 2 ^ 16) && decide (tag < 2 ^ 16)
  | .retentionRebuild => true
  | .syncTimeout f => decide (f < 2 ^ 12)
  | .scmdClose src => portOk src
  | .scmdBreak src => portOk src
  | .scmdFree src => portOk src
  | .dcmdFree src => portOk src
  | .pourArm src entry => portOk src && decide (entry < 2 ^ 14)
  | .pourDisarm src entry => portOk src && decide (entry < 2 ^ 14)
  | .pourDisable src v => portOk src && decide (v < 2 ^ 32)
  | .pageIn n ups => decide (n < 2 ^ 14) && upsetsOk ups
  | .trigSendPoint entry ix => decide (entry < 2 ^ 14) && decide (ix < 256)
  | .barrierInstant n => decide (n < 2 ^ 14)
  | .hintTime n => decide (n < 2 ^ 14)
  | .paceTick readings => readings.all tempOk
  | .thermalCeilingUpdate => true
  | .mismWindow => true
  | .oppChangeRequest src opp0 => portOk src && decide (opp0 < 16)
  | .oppInstant => true
  | .descriptorConfigWrite src rd w v => portOk src && decide (rd < 256) && decide (w < 8) && decide (v < 2 ^ 32)
  | .bldArm src rd => portOk src && decide (rd < 256)
  | .bldClear src rd => portOk src && decide (rd < 256)
  | .bldFree src rd => portOk src && decide (rd < 256)
  | .initDone rd => decide (rd < 256)
  | .blendTake ups => upsetsOk ups
  | .blendTwaitExpiry _ => true
  | .emissionDone rd => decide (rd < 256)
  | .shadowMismatch g sig0 _ => decide (g < 64) && decide (sig0 < 16)
  | .katVerdict _ _ => true
  | .progStart src p => portOk src && decide (p < 2 ^ 12)
  | .progStop src p => portOk src && decide (p < 2 ^ 12)
  | .progTableWrite src p _ v => portOk src && decide (p < 2 ^ 12) && decide (v < 2 ^ 32)
  | .prgCommit src w v => portOk src && decide (w < 2 ^ 14) && decide (v < 2 ^ 32)
  | .contextLoad ups => upsetsOk ups
  | .quantumExpiry p => decide (p < 2 ^ 12)
  | .programWake p => decide (p < 2 ^ 12)
  | .deadlineMiss p => decide (p < 2 ^ 12)
  | .nop p => decide (p < 2 ^ 12)
  | .endProg p => decide (p < 2 ^ 12)
  | .jmp p => decide (p < 2 ^ 12)
  | .bnz p => decide (p < 2 ^ 12)
  | .loop p => decide (p < 2 ^ 12)
  | .ldi p => decide (p < 2 ^ 12)
  | .addi p => decide (p < 2 ^ 12)
  | .alu p => decide (p < 2 ^ 12)
  | .gett p => decide (p < 2 ^ 12)
  | .waita p => decide (p < 2 ^ 12)
  | .join p => decide (p < 2 ^ 12)
  | .dln p => decide (p < 2 ^ 12)
  | .nodl p => decide (p < 2 ^ 12)
  | .raln p => decide (p < 2 ^ 12)
  | .rdcfg p => decide (p < 2 ^ 12)
  | .rdcmd p => decide (p < 2 ^ 12)
  | .recv p => decide (p < 2 ^ 12)
  | .rdst p => decide (p < 2 ^ 12)
  | .emit p => decide (p < 2 ^ 12)
  | .cvt p => decide (p < 2 ^ 12)
  | .send p => decide (p < 2 ^ 12)
  | .wtac p => decide (p < 2 ^ 12)
  | .ptrg p => decide (p < 2 ^ 12)
  | .hint p => decide (p < 2 ^ 12)
  | .sig p => decide (p < 2 ^ 12)
  | .caddyScrub found _ => decide (found < 3)
  | .journalPeriodTimer => true
  | .snapshotDone _ _ => true
  | .cdySnap src => portOk src
  | .cdyDefault src => portOk src
  | .seqfloorWrite src v => portOk src && decide (v < 2 ^ 32)
  | .flashReadWord src => portOk src
  | .flashProgramWord src => portOk src
  | .flashErase src => portOk src
  | .flashCmdDone data _ => decide (data < 2 ^ 32)
  | .entdaa da => decide (da < 128)
  | .rstdaa => true
  | .setnewda da => decide (da < 128)
  | .enec _ _ => true
  | .disec _ _ => true
  | .getpid => true
  | .getbcr => true
  | .getdcr => true
  | .getstatus => true
  | .getmwl => true
  | .getmrl => true
  | .setmwl v => decide (v < 2 ^ 32)
  | .setmrl v => decide (v < 2 ^ 32)
  | .hotJoinTimer => true
  | .setEndpointId from_ op eid => decide (from_ < 256) && decide (op < 256) && decide (eid < 256)
  | .getEndpointId from_ => decide (from_ < 256)
  | .getEndpointUuid from_ => decide (from_ < 256)
  | .getMctpVersionSupport from_ => decide (from_ < 256)
  | .getMessageTypeSupport from_ => decide (from_ < 256)
  | .regRead from_ bs => decide (from_ < 256) && bytesOk bs
  | .regWrite from_ bs => decide (from_ < 256) && bytesOk bs
  | .sbFence from_ bs => decide (from_ < 256) && bytesOk bs
  | .sbUnfence from_ bs => decide (from_ < 256) && bytesOk bs
  | .reset from_ bs => decide (from_ < 256) && bytesOk bs
  | .sbResetDelay => true
  | .status from_ bs => decide (from_ < 256) && bytesOk bs
  | .alarmRead from_ bs => decide (from_ < 256) && bytesOk bs
  | .alarmAck from_ bs => decide (from_ < 256) && bytesOk bs
  | .logRead from_ bs => decide (from_ < 256) && bytesOk bs
  | .alarmNoteTimer => true
  | .logBucketRefill => true
  | .ownLock src ix v => portOk src && decide (ix < 9) && decide (v < 2 ^ 32)
  | .registerWrite src key v => portOk src && decide (key < 0x110000) && decide (v < 2 ^ 32)
  | .trackerResidenceTick => true
  | .trackerAgeExpiry e => decide (e < 512)
  | .bankCopyDone mem bank => decide (mem < 3) && decide (bank < 16)
  | .marginalClear src e => portOk src && decide (e < 32)
  | .bondLoopback src _ v => portOk src && decide (v < 2 ^ 32)
  | .bondLoopbackDone _ _ => true
  | .calibrationGo src v => portOk src && decide (v < 2 ^ 32)
  | .calRetryTimeout => true
  | .calSweepStart => true
  | .calSweepEnd _ => true
  | .calVerifyDone _ => true
  | .mbistGo src _ v => portOk src && decide (v < 2 ^ 32)
  | .mbistDone _ _ => true
  | .laneLoopbackGo src n v => portOk src && decide (n < 64) && decide (v < 2 ^ 32)
  | .laneLoopbackDone n _ => decide (n < 64)
  | .tapReset _ _ => true
  | .sconfig _ v => decide (v < 2)
  | .regacc _ key _ data => decide (key < 0x110000) && decide (data < 2 ^ 32)
  | .mbist _ v => decide (v < 2)
  | .extest _ _ => true
  | .samplePreload _ _ _ => true
  | .bondWakeTimeout => true
  | .lstateHandshakeTimeout n => decide (n < 64)
  | .supplyWarningClear _ => true
  | .oppSendPoint => true
  | .registerRead src key => portOk src && decide (key < 0x110000)

end Sys2Proof
end

