-- ==== Sys2Proof/Tests/Slice0.lean ====
section
/-!
SUPPORT. Tests on small states: an ill-formed term for every check of WellFormed.lean, and for every statement states and
operands that meet the hypotheses of its clauses, most with what the clause then says. Expected results come from the
rules that the names of the statements cite.
-/
open Sys2Proof Sys2Proof.Machine

set_option Elab.async false
set_option maxRecDepth 100000
set_option exponentiation.threshold 10000

namespace Sys2Proof.Tests

/-- A command answers a next state of which a check holds. -/
def gives (c : Instr) (s : State) (p : State → Bool) : Bool :=
  match exec c s with
  | .next t => p t
  | _ => false

/-- The state after reset with fields written. -/
def put (s : State) (l : List (Fld × Nat)) : State := l.foldl (fun s e => s.wr e.1 e.2) s

/-- The state after reset. -/
def r0 : State := State.reset

/-- The state after reset of the smallest build, and with fields written. -/
def r4 : State := { r0 with tiles := 4, links := 16 }

/-- The state after reset with one group's state. -/
def grpS (g : Nat) (f : Group → Group) : State := r0.setGrp g (f Group.reset)

/-! ## Well-formed commands -/

def okMsg : RMsg := ⟨0, 0, 0, 0, 0, 0, 0, 0, []⟩
def badMsg : RMsg := { okMsg with vc := 8 }

theorem test_wf_refuses_1 : (([
    .thermalTrip 12 0,
    .thermalTrip 0 2048,
    .tripClear (.side 256),
    .ttRspTimeout 256,
    .periodChangeGo (.side 256) 0,
    .periodChangeGo .bPort (2 ^ 32),
    .energySample 16 0,
    .energySample 0 (2 ^ 32),
    .energyChannelMissing 16,
    .restoreStepDone none none none false false 256,
    .alignDone (2 ^ 11) 0 true,
    .alignDone 0 5 true,
    .frameSeal (2 ^ 11) 0,
    .frameReceive (2 ^ 11) 0 ⟨⟨0, false, false, false, false⟩, 0, [], true⟩,
    .retryWaitTimeout (2 ^ 11),
    .groupRecoveryDone (2 ^ 11) 0 true [],
    .groupRecoveryDone 0 5 true [],
    .repairSpareDrive (2 ^ 11),
    .repairReadyCheck (2 ^ 11),
    .repairSwitch (2 ^ 11),
    .heirResealStart (2 ^ 11),
    .wake 16 0 0 0,
    .wake 0 8 0 0,
    .wake 0 0 (2 ^ 32) 0,
    .wake 0 0 0 256,
    .wakeAck 16 0 0 0,
    .wakeAck 0 8 0 0,
    .wakeAck 0 0 (2 ^ 32) 0,
    .wakeAck 0 0 0 256,
    .taps (2 ^ 11) [],
    .rate (2 ^ 32),
    .tokenRpt (2 ^ 16) 0 0,
    .tokenRpt 0 (2 ^ 32) 0,
    .tokenRpt 0 0 (2 ^ 32),
    .tokenSet (2 ^ 16) 0 0,
    .tokenSet 0 (2 ^ 32) 0,
    .tokenSet 0 0 (2 ^ 32),
    .roles 16 0,
    .roles 0 (2 ^ 32),
    .repair (2 ^ 11) 0 0 0 0,
    .repair 0 69 0 0 0,
    .repair 0 0 4 0 0,
    .repair 0 0 0 (2 ^ 32) 0,
    .repair 0 0 0 0 (2 ^ 32),
    .repairRdy (2 ^ 11) false] : List Instr).all fun c => !c.wf) = true := by decide

theorem test_wf_refuses_2 : (([
    .repairCancel (2 ^ 11),
    .wireRpt (2 ^ 11) 0,
    .wireRpt 0 (2 ^ 72),
    .groupState (2 ^ 11) 0 0,
    .groupState 0 4 0,
    .groupState 0 0 256,
    .cal (2 ^ 32) 0 0,
    .cal 0 256 0,
    .cal 0 0 256,
    .calAck (2 ^ 32) 0 0,
    .calAck 0 256 0,
    .calAck 0 0 256,
    .heir (2 ^ 11) 0 0 0 0,
    .heir 0 (2 ^ 11) 0 0 0,
    .heir 0 0 (2 ^ 32) 0 0,
    .heir 0 0 0 (2 ^ 32) 0,
    .heir 0 0 0 0 256,
    .groupRpt (2 ^ 11) false 0,
    .groupRpt 0 false (2 ^ 32),
    .ident false ⟨0, [0, 0]⟩,
    .capsSet ⟨0, [0, 0]⟩,
    .capsAck ⟨0, [0, 0]⟩,
    .regRd false ⟨0, [0, 0]⟩,
    .regWr false ⟨0, [0, 0]⟩,
    .regRsp false ⟨0, [0, 0]⟩,
    .msi ⟨0, [0, 0]⟩,
    .trig ⟨0, [0, 0]⟩,
    .permit ⟨0, [0, 0]⟩,
    .opp ⟨0, [0, 0]⟩,
    .time ⟨0, [0, 0]⟩,
    .therm ⟨0, [0, 0]⟩,
    .thermSendTimer [2048],
    .dbgRd ⟨0, [0, 0]⟩,
    .dbgRsp ⟨0, [0, 0]⟩,
    .rdNc ⟨0, [0, 0]⟩,
    .wrLine ⟨0, [0, 0]⟩,
    .wrPart ⟨0, [0, 0]⟩,
    .atomic ⟨0, [0, 0]⟩,
    .rspData ⟨0, [0, 0]⟩,
    .rspAck ⟨0, [0, 0]⟩,
    .rspAtom ⟨0, [0, 0]⟩,
    .rspErr ⟨0, [0, 0]⟩,
    .rdS ⟨0, [0, 0]⟩,
    .rdU ⟨0, [0, 0]⟩,
    .upgrade ⟨0, [0, 0]⟩] : List Instr).all fun c => !c.wf) = true := by decide

theorem test_wf_refuses_3 : (([
    .wb ⟨0, [0, 0]⟩,
    .evict ⟨0, [0, 0]⟩,
    .gntS ⟨0, [0, 0]⟩,
    .gntE ⟨0, [0, 0]⟩,
    .gntUpg ⟨0, [0, 0]⟩,
    .wbAck ⟨0, [0, 0]⟩,
    .gntErr ⟨0, [0, 0]⟩,
    .snpInv ⟨0, [0, 0]⟩,
    .snpShr ⟨0, [0, 0]⟩,
    .srsp ⟨0, [0, 0]⟩,
    .srspData ⟨0, [0, 0]⟩,
    .homeResponse 16 ⟨0, []⟩,
    .homeResponse 0 ⟨0, [0, 0]⟩,
    .homeSnpShr 16 ⟨0, []⟩,
    .homeSnpShr 0 ⟨0, [0, 0]⟩,
    .homeSnpInv 16 ⟨0, []⟩,
    .homeSnpInv 0 ⟨0, [0, 0]⟩,
    .clientRdShared 32 ⟨0, 0, 0, 0, 0, 0⟩,
    .clientRdShared 0 ⟨16, 0, 0, 0, 0, 0⟩,
    .clientRdUnique 32 ⟨0, 0, 0, 0, 0, 0⟩,
    .clientRdUnique 0 ⟨16, 0, 0, 0, 0, 0⟩,
    .clientUpgrade 32 ⟨0, 0, 0, 0, 0, 0⟩,
    .clientUpgrade 0 ⟨16, 0, 0, 0, 0, 0⟩,
    .clientRdNc 32 ⟨0, 0, 0, 0, 0, 0⟩,
    .clientRdNc 0 ⟨16, 0, 0, 0, 0, 0⟩,
    .clientWrLine 32 ⟨0, 0, 0, 0, 0, 0⟩,
    .clientWrLine 0 ⟨16, 0, 0, 0, 0, 0⟩,
    .clientWrPart 32 ⟨0, 0, 0, 0, 0, 0⟩,
    .clientWrPart 0 ⟨16, 0, 0, 0, 0, 0⟩,
    .clientAtomic 32 ⟨0, 0, 0, 0, 0, 0⟩,
    .clientAtomic 0 ⟨16, 0, 0, 0, 0, 0⟩,
    .clientWb 32 ⟨0, 0, 0, 0, 0, 0⟩,
    .clientWb 0 ⟨16, 0, 0, 0, 0, 0⟩,
    .clientEvict 32 ⟨0, 0, 0, 0, 0, 0⟩,
    .clientEvict 0 ⟨16, 0, 0, 0, 0, 0⟩,
    .clientFlush 32 ⟨0, 0, 0, 0, 0, 0⟩,
    .clientFlush 0 ⟨16, 0, 0, 0, 0, 0⟩,
    .clientSnoopRsp 32 0 0 0,
    .clientSnoopRsp 0 (2 ^ 12) 0 0,
    .clientSnoopRsp 0 0 16 0,
    .rlcFlush (.side 256) 0,
    .rlcFlush .bPort (2 ^ 32),
    .dirFlush (.side 256),
    .rflush (.side 256),
    .tsiTile 8 0 []] : List Instr).all fun c => !c.wf) = true := by decide

theorem test_wf_refuses_4 : (([
    .linkEn (.side 256) 0 0,
    .linkEn .bPort 64 0,
    .linkEn .bPort 0 (2 ^ 32),
    .linkDisable (.side 256) 0 0,
    .linkDisable .bPort 64 0,
    .linkDisable .bPort 0 (2 ^ 32),
    .retrainWrite (.side 256) 0 0,
    .retrainWrite .bPort 64 0,
    .retrainWrite .bPort 0 (2 ^ 32),
    .wmaxWrite (.side 256) 0 0,
    .wmaxWrite .bPort 64 0,
    .wmaxWrite .bPort 0 (2 ^ 32),
    .healthWaitEnd 64,
    .oeReadDone 64 0 0,
    .oeReadDone 0 (2 ^ 16) 0,
    .oeReadDone 0 0 (2 ^ 16),
    .oePollTimer 64,
    .laneRxlockRise 64 0,
    .laneRxlockRise 0 5,
    .laneRxlockFall 64 0,
    .laneRxlockFall 0 5,
    .trainingBlock 64 0 [] false,
    .trainingBlock 0 5 [] false,
    .trainingBlock 0 0 [256] false,
    .prbsWindowEnd 64 0,
    .prbsWindowEnd 0 5,
    .flitStart 64 true,
    .linkStateTimeout 64,
    .waitExpiry 64,
    .incompatRetryTimer 64,
    .flitPeriod 64 [],
    .flitPeriod 0 [⟨68, 0, false⟩],
    .gearboxFlitStart 64,
    .flitReceive 64 [],
    .flitReceive 0 [[1024]],
    .laneRepairTimeout 64,
    .mirrorVerifyTimeout 64,
    .mirrorChoiceTimer 64,
    .widthSwitchPoint 64 false,
    .widenTimer 64,
    .nbr 64 false false 0 0 0 0 0 0 0 0,
    .nbr 0 false false 64 0 0 0 0 0 0 0,
    .nbr 0 false false 0 (2 ^ 24) 0 0 0 0 0 0,
    .nbr 0 false false 0 0 (2 ^ 16) 0 0 0 0 0,
    .nbr 0 false false 0 0 0 (2 ^ 16) 0 0 0 0] : List Instr).all fun c => !c.wf) = true := by decide

theorem test_wf_refuses_5 : (([
    .nbr 0 false false 0 0 0 0 (2 ^ 16) 0 0 0,
    .nbr 0 false false 0 0 0 0 0 256 0 0,
    .nbr 0 false false 0 0 0 0 0 0 256 0,
    .nbr 0 false false 0 0 0 0 0 0 0 (2 ^ 32),
    .retrain 64,
    .mirror 64 0 0 false,
    .mirror 0 16 0 false,
    .mirror 0 0 16 false,
    .wreq 64 0 0 false,
    .wreq 0 4 0 false,
    .wreq 0 0 32 false,
    .widthSw 64 0 0 0,
    .widthSw 0 4 0 0,
    .widthSw 0 0 (2 ^ 12) 0,
    .widthSw 0 0 0 256,
    .linkJoin 64 0,
    .linkJoin 0 32,
    .lstate 64 false false false false 0 0 [],
    .lstate 0 false false false false (2 ^ 12) 0 [],
    .lstate 0 false false false false 0 (2 ^ 12) [],
    .lstate 0 false false false false 0 0 [2 ^ 24],
    .replayTimerExpiry 64,
    .ageLimitExpiry 64,
    .elDecay 64,
    .ackKeepaliveTimer 64,
    .creditReturnTimer 64,
    .graceExpiry 64,
    .crsyncTimer 64,
    .crsyncLo 64 [],
    .crsyncLo 0 [2 ^ 24],
    .crsyncHi 64 [],
    .crsyncHi 0 [2 ^ 24],
    .keyLoad (.side 256) 0 false,
    .keyLoad .bPort 64 false,
    .keyEpoch 64 false,
    .hbTimer 64,
    .hb 64 0 0 0 0,
    .hb 0 (2 ^ 24) 0 0 0,
    .hb 0 0 (2 ^ 16) 0 0,
    .hb 0 0 0 (2 ^ 32) 0,
    .hb 0 0 0 0 256,
    .silenceSuspect 64,
    .silenceUnreachable 64,
    .ttReq 64 0 false,
    .ttReq 0 256 false] : List Instr).all fun c => !c.wf) = true := by decide

theorem test_wf_refuses_6 : (([
    .ttRsp 64 0 false false 0 0,
    .ttRsp 0 256 false false 0 0,
    .ttRsp 0 0 false false (2 ^ 48) 0,
    .ttRsp 0 0 false false 0 (2 ^ 48),
    .ttCyc 64 0 0 0,
    .ttCyc 0 256 0 0,
    .ttCyc 0 0 (2 ^ 48) 0,
    .ttCyc 0 0 0 (2 ^ 21),
    .ttPchg 64 0 0,
    .ttPchg 0 (2 ^ 21) 0,
    .ttPchg 0 0 (2 ^ 48),
    .tcorrA 64 0 false false 0,
    .tcorrA 0 256 false false 0,
    .tcorrA 0 0 false false (2 ^ 104),
    .tcorrB 64 0 0 0 0,
    .tcorrB 0 256 0 0 0,
    .tcorrB 0 0 (2 ^ 40) 0 0,
    .tcorrB 0 0 0 (2 ^ 21) 0,
    .tcorrB 0 0 0 0 (2 ^ 48),
    .routeMessage 64 0 [],
    .routeMessage 0 8 [],
    .routeMessage 0 0 [⟨68, 0, false⟩],
    .norouteTimeout badMsg,
    .tableWrite (.side 256) 0 0,
    .tableWrite .bPort (2 ^ 16) 0,
    .tableWrite .bPort 0 (2 ^ 32),
    .meshWrite (.side 256) 0 false 0,
    .meshWrite .bPort 4 false 0,
    .meshWrite .bPort 0 false (2 ^ 32),
    .drainWrite (.side 256) false 0,
    .drainWrite .bPort false (2 ^ 32),
    .fcmdFence (.side 256),
    .fcmdUnfence (.side 256),
    .fence 64 0 0 0,
    .fence 0 (2 ^ 24) 0 0,
    .fence 0 0 (2 ^ 16) 0,
    .fence 0 0 0 (2 ^ 16),
    .unfence 64 0 0 0,
    .unfence 0 (2 ^ 24) 0 0,
    .unfence 0 0 (2 ^ 16) 0,
    .unfence 0 0 0 (2 ^ 16),
    .nbrAccept (.side 256) 0,
    .nbrAccept .bPort 64,
    .tileSourceTake 4104,
    .tdelivDone badMsg] : List Instr).all fun c => !c.wf) = true := by decide

theorem test_wf_refuses_7 : (([
    .tile badMsg,
    .tack badMsg,
    .tnak badMsg,
    .sync badMsg,
    .syncRsp badMsg,
    .broken badMsg,
    .brack badMsg,
    .close badMsg,
    .closeAck badMsg,
    .mreq badMsg,
    .mrsp badMsg,
    .flowTimerExpiry (2 ^ 12),
    .brokenRepeatTimer (2 ^ 12),
    .tackTimer (2 ^ 24) 0,
    .tackTimer 0 (2 ^ 12),
    .requestTimerExpiry (2 ^ 16),
    .responseHoldExpiry (2 ^ 24) 0 0,
    .responseHoldExpiry 0 (2 ^ 16) 0,
    .responseHoldExpiry 0 0 (2 ^ 16),
    .syncTimeout (2 ^ 12),
    .scmdClose (.side 256),
    .scmdBreak (.side 256),
    .scmdFree (.side 256),
    .dcmdFree (.side 256),
    .pourArm (.side 256) 0,
    .pourArm .bPort (2 ^ 14),
    .pourDisarm (.side 256) 0,
    .pourDisarm .bPort (2 ^ 14),
    .pourDisable (.side 256) 0,
    .pourDisable .bPort (2 ^ 32),
    .pageIn (2 ^ 14) [],
    .pageIn 0 [⟨68, 0, false⟩],
    .trigSendPoint (2 ^ 14) 0,
    .trigSendPoint 0 256,
    .barrierInstant (2 ^ 14),
    .hintTime (2 ^ 14),
    .paceTick [2048],
    .oppChangeRequest (.side 256) 0,
    .oppChangeRequest .bPort 16,
    .descriptorConfigWrite (.side 256) 0 0 0,
    .descriptorConfigWrite .bPort 256 0 0,
    .descriptorConfigWrite .bPort 0 8 0,
    .descriptorConfigWrite .bPort 0 0 (2 ^ 32),
    .bldArm (.side 256) 0,
    .bldArm .bPort 256] : List Instr).all fun c => !c.wf) = true := by decide

theorem test_wf_refuses_8 : (([
    .bldClear (.side 256) 0,
    .bldClear .bPort 256,
    .bldFree (.side 256) 0,
    .bldFree .bPort 256,
    .initDone 256,
    .blendTake [⟨68, 0, false⟩],
    .emissionDone 256,
    .shadowMismatch 64 0 false,
    .shadowMismatch 0 16 false,
    .progStart (.side 256) 0,
    .progStart .bPort (2 ^ 12),
    .progStop (.side 256) 0,
    .progStop .bPort (2 ^ 12),
    .progTableWrite (.side 256) 0 false 0,
    .progTableWrite .bPort (2 ^ 12) false 0,
    .progTableWrite .bPort 0 false (2 ^ 32),
    .prgCommit (.side 256) 0 0,
    .prgCommit .bPort (2 ^ 14) 0,
    .prgCommit .bPort 0 (2 ^ 32),
    .contextLoad [⟨68, 0, false⟩],
    .quantumExpiry (2 ^ 12),
    .programWake (2 ^ 12),
    .deadlineMiss (2 ^ 12),
    .nop (2 ^ 12),
    .endProg (2 ^ 12),
    .jmp (2 ^ 12),
    .bnz (2 ^ 12),
    .loop (2 ^ 12),
    .ldi (2 ^ 12),
    .addi (2 ^ 12),
    .alu (2 ^ 12),
    .gett (2 ^ 12),
    .waita (2 ^ 12),
    .join (2 ^ 12),
    .dln (2 ^ 12),
    .nodl (2 ^ 12),
    .raln (2 ^ 12),
    .rdcfg (2 ^ 12),
    .rdcmd (2 ^ 12),
    .recv (2 ^ 12),
    .rdst (2 ^ 12),
    .emit (2 ^ 12),
    .cvt (2 ^ 12),
    .send (2 ^ 12),
    .wtac (2 ^ 12)] : List Instr).all fun c => !c.wf) = true := by decide

theorem test_wf_refuses_9 : (([
    .ptrg (2 ^ 12),
    .hint (2 ^ 12),
    .sig (2 ^ 12),
    .caddyScrub 3 [],
    .cdySnap (.side 256),
    .cdyDefault (.side 256),
    .seqfloorWrite (.side 256) 0,
    .seqfloorWrite .bPort (2 ^ 32),
    .flashReadWord (.side 256),
    .flashProgramWord (.side 256),
    .flashErase (.side 256),
    .flashCmdDone (2 ^ 32) false,
    .entdaa 128,
    .setnewda 128,
    .setmwl (2 ^ 32),
    .setmrl (2 ^ 32),
    .setEndpointId 256 0 0,
    .setEndpointId 0 256 0,
    .setEndpointId 0 0 256,
    .getEndpointId 256,
    .getEndpointUuid 256,
    .getMctpVersionSupport 256,
    .getMessageTypeSupport 256,
    .regRead 256 [],
    .regRead 0 [256],
    .regWrite 256 [],
    .regWrite 0 [256],
    .sbFence 256 [],
    .sbFence 0 [256],
    .sbUnfence 256 [],
    .sbUnfence 0 [256],
    .reset 256 [],
    .reset 0 [256],
    .status 256 [],
    .status 0 [256],
    .alarmRead 256 [],
    .alarmRead 0 [256],
    .alarmAck 256 [],
    .alarmAck 0 [256],
    .logRead 256 [],
    .logRead 0 [256],
    .ownLock (.side 256) 0 0,
    .ownLock .bPort 9 0,
    .ownLock .bPort 0 (2 ^ 32),
    .registerWrite (.side 256) 0 0] : List Instr).all fun c => !c.wf) = true := by decide

theorem test_wf_refuses_10 : (([
    .registerWrite .bPort 0x110000 0,
    .registerWrite .bPort 0 (2 ^ 32),
    .trackerAgeExpiry 512,
    .bankCopyDone 3 0,
    .bankCopyDone 0 16,
    .marginalClear (.side 256) 0,
    .marginalClear .bPort 32,
    .bondLoopback (.side 256) false 0,
    .bondLoopback .bPort false (2 ^ 32),
    .calibrationGo (.side 256) 0,
    .calibrationGo .bPort (2 ^ 32),
    .mbistGo (.side 256) false 0,
    .mbistGo .bPort false (2 ^ 32),
    .laneLoopbackGo (.side 256) 0 0,
    .laneLoopbackGo .bPort 64 0,
    .laneLoopbackGo .bPort 0 (2 ^ 32),
    .laneLoopbackDone 64 [],
    .sconfig false 2,
    .regacc false 0x110000 false 0,
    .regacc false 0 false (2 ^ 32),
    .mbist false 2,
    .lstateHandshakeTimeout 64,
    .registerRead (.side 256) 0,
    .registerRead .bPort 0x110000] : List Instr).all fun c => !c.wf) = true := by decide

theorem test_wf_accepts_1 : (([
    .thermalTrip 0 0,
    .tripClear .bPort,
    .ttRspTimeout 0,
    .periodChangeGo .bPort 0,
    .energySample 0 0,
    .energyChannelMissing 0,
    .restoreStepDone none none none false false 0,
    .alignDone 0 0 true,
    .frameSeal 0 0,
    .frameReceive 0 0 ⟨⟨0, false, false, false, false⟩, 0, [], true⟩,
    .retryWaitTimeout 0,
    .groupRecoveryDone 0 0 true [],
    .repairSpareDrive 0,
    .repairReadyCheck 0,
    .repairSwitch 0,
    .heirResealStart 0,
    .wake 0 0 0 0,
    .wakeAck 0 0 0 0,
    .taps 0 [],
    .rate 0,
    .tokenRpt 0 0 0,
    .tokenSet 0 0 0,
    .roles 0 0,
    .repair 0 0 0 0 0,
    .repairRdy 0 false,
    .repairCancel 0,
    .wireRpt 0 0,
    .groupState 0 0 0,
    .cal 0 0 0,
    .calAck 0 0 0,
    .heir 0 0 0 0 0,
    .groupRpt 0 false 0,
    .ident false ⟨0, []⟩,
    .capsSet ⟨0, []⟩,
    .capsAck ⟨0, []⟩,
    .regRd false ⟨0, []⟩,
    .regWr false ⟨0, []⟩,
    .regRsp false ⟨0, []⟩,
    .msi ⟨0, []⟩,
    .trig ⟨0, []⟩,
    .permit ⟨0, []⟩,
    .opp ⟨0, []⟩,
    .time ⟨0, []⟩,
    .therm ⟨0, []⟩,
    .thermSendTimer [],
    .dbgRd ⟨0, []⟩,
    .dbgRsp ⟨0, []⟩,
    .rdNc ⟨0, []⟩,
    .wrLine ⟨0, []⟩,
    .wrPart ⟨0, []⟩,
    .atomic ⟨0, []⟩,
    .rspData ⟨0, []⟩,
    .rspAck ⟨0, []⟩,
    .rspAtom ⟨0, []⟩,
    .rspErr ⟨0, []⟩,
    .rdS ⟨0, []⟩,
    .rdU ⟨0, []⟩,
    .upgrade ⟨0, []⟩,
    .wb ⟨0, []⟩,
    .evict ⟨0, []⟩,
    .gntS ⟨0, []⟩,
    .gntE ⟨0, []⟩,
    .gntUpg ⟨0, []⟩,
    .wbAck ⟨0, []⟩,
    .gntErr ⟨0, []⟩,
    .snpInv ⟨0, []⟩,
    .snpShr ⟨0, []⟩,
    .srsp ⟨0, []⟩,
    .srspData ⟨0, []⟩,
    .homeResponse 0 ⟨0, []⟩,
    .homeSnpShr 0 ⟨0, []⟩,
    .homeSnpInv 0 ⟨0, []⟩,
    .clientRdShared 0 ⟨0, 0, 0, 0, 0, 0⟩,
    .clientRdUnique 0 ⟨0, 0, 0, 0, 0, 0⟩,
    .clientUpgrade 0 ⟨0, 0, 0, 0, 0, 0⟩,
    .clientRdNc 0 ⟨0, 0, 0, 0, 0, 0⟩,
    .clientWrLine 0 ⟨0, 0, 0, 0, 0, 0⟩,
    .clientWrPart 0 ⟨0, 0, 0, 0, 0, 0⟩,
    .clientAtomic 0 ⟨0, 0, 0, 0, 0, 0⟩,
    .clientWb 0 ⟨0, 0, 0, 0, 0, 0⟩,
    .clientEvict 0 ⟨0, 0, 0, 0, 0, 0⟩,
    .clientFlush 0 ⟨0, 0, 0, 0, 0, 0⟩,
    .clientSnoopRsp 0 0 0 0,
    .rlcFlush .bPort 0,
    .dirFlush .bPort,
    .rflush .bPort,
    .tsiTile 0 0 [],
    .linkEn .bPort 0 0,
    .linkDisable .bPort 0 0,
    .retrainWrite .bPort 0 0] : List Instr).all fun c => c.wf) = true := by decide

theorem test_wf_accepts_2 : (([
    .wmaxWrite .bPort 0 0,
    .healthWaitEnd 0,
    .oeReadDone 0 0 0,
    .oePollTimer 0,
    .laneRxlockRise 0 0,
    .laneRxlockFall 0 0,
    .trainingBlock 0 0 [] false,
    .prbsWindowEnd 0 0,
    .flitStart 0 false,
    .linkStateTimeout 0,
    .waitExpiry 0,
    .incompatRetryTimer 0,
    .flitPeriod 0 [],
    .gearboxFlitStart 0,
    .flitReceive 0 [],
    .laneRepairTimeout 0,
    .mirrorVerifyTimeout 0,
    .mirrorChoiceTimer 0,
    .widthSwitchPoint 0 false,
    .widenTimer 0,
    .nbr 0 false false 0 0 0 0 0 0 0 0,
    .retrain 0,
    .mirror 0 0 0 false,
    .wreq 0 0 0 false,
    .widthSw 0 0 0 0,
    .linkJoin 0 0,
    .lstate 0 false false false false 0 0 [],
    .replayTimerExpiry 0,
    .ageLimitExpiry 0,
    .elDecay 0,
    .ackKeepaliveTimer 0,
    .creditReturnTimer 0,
    .graceExpiry 0,
    .crsyncTimer 0,
    .crsyncLo 0 [],
    .crsyncHi 0 [],
    .keyLoad .bPort 0 false,
    .keyEpoch 0 false,
    .hbTimer 0,
    .hb 0 0 0 0 0,
    .silenceSuspect 0,
    .silenceUnreachable 0,
    .ttReq 0 0 false,
    .ttRsp 0 0 false false 0 0,
    .ttCyc 0 0 0 0,
    .ttPchg 0 0 0,
    .tcorrA 0 0 false false 0,
    .tcorrB 0 0 0 0 0,
    .routeMessage 0 0 [],
    .norouteTimeout okMsg,
    .tableWrite .bPort 0 0,
    .meshWrite .bPort 0 false 0,
    .drainWrite .bPort false 0,
    .fcmdFence .bPort,
    .fcmdUnfence .bPort,
    .fence 0 0 0 0,
    .unfence 0 0 0 0,
    .nbrAccept .bPort 0,
    .tileSourceTake 0,
    .tdelivDone okMsg,
    .tile okMsg,
    .tack okMsg,
    .tnak okMsg,
    .sync okMsg,
    .syncRsp okMsg,
    .broken okMsg,
    .brack okMsg,
    .close okMsg,
    .closeAck okMsg,
    .mreq okMsg,
    .mrsp okMsg,
    .flowTimerExpiry 0,
    .brokenRepeatTimer 0,
    .tackTimer 0 0,
    .requestTimerExpiry 0,
    .responseHoldExpiry 0 0 0,
    .syncTimeout 0,
    .scmdClose .bPort,
    .scmdBreak .bPort,
    .scmdFree .bPort,
    .dcmdFree .bPort,
    .pourArm .bPort 0,
    .pourDisarm .bPort 0,
    .pourDisable .bPort 0,
    .pageIn 0 [],
    .trigSendPoint 0 0,
    .barrierInstant 0,
    .hintTime 0,
    .paceTick [],
    .oppChangeRequest .bPort 0] : List Instr).all fun c => c.wf) = true := by decide

theorem test_wf_accepts_3 : (([
    .descriptorConfigWrite .bPort 0 0 0,
    .bldArm .bPort 0,
    .bldClear .bPort 0,
    .bldFree .bPort 0,
    .initDone 0,
    .blendTake [],
    .emissionDone 0,
    .shadowMismatch 0 0 false,
    .progStart .bPort 0,
    .progStop .bPort 0,
    .progTableWrite .bPort 0 false 0,
    .prgCommit .bPort 0 0,
    .contextLoad [],
    .quantumExpiry 0,
    .programWake 0,
    .deadlineMiss 0,
    .nop 0,
    .endProg 0,
    .jmp 0,
    .bnz 0,
    .loop 0,
    .ldi 0,
    .addi 0,
    .alu 0,
    .gett 0,
    .waita 0,
    .join 0,
    .dln 0,
    .nodl 0,
    .raln 0,
    .rdcfg 0,
    .rdcmd 0,
    .recv 0,
    .rdst 0,
    .emit 0,
    .cvt 0,
    .send 0,
    .wtac 0,
    .ptrg 0,
    .hint 0,
    .sig 0,
    .caddyScrub 0 [],
    .cdySnap .bPort,
    .cdyDefault .bPort,
    .seqfloorWrite .bPort 0,
    .flashReadWord .bPort,
    .flashProgramWord .bPort,
    .flashErase .bPort,
    .flashCmdDone 0 false,
    .entdaa 0,
    .setnewda 0,
    .setmwl 0,
    .setmrl 0,
    .setEndpointId 0 0 0,
    .getEndpointId 0,
    .getEndpointUuid 0,
    .getMctpVersionSupport 0,
    .getMessageTypeSupport 0,
    .regRead 0 [],
    .regWrite 0 [],
    .sbFence 0 [],
    .sbUnfence 0 [],
    .reset 0 [],
    .status 0 [],
    .alarmRead 0 [],
    .alarmAck 0 [],
    .logRead 0 [],
    .ownLock .bPort 0 0,
    .registerWrite .bPort 0 0,
    .trackerAgeExpiry 0,
    .bankCopyDone 0 0,
    .marginalClear .bPort 0,
    .bondLoopback .bPort false 0,
    .calibrationGo .bPort 0,
    .mbistGo .bPort false 0,
    .laneLoopbackGo .bPort 0 0,
    .laneLoopbackDone 0 [],
    .sconfig false 0,
    .regacc false 0 false 0,
    .mbist false 0,
    .lstateHandshakeTimeout 0,
    .registerRead .bPort 0] : List Instr).all fun c => c.wf) = true := by decide

theorem test_wf_refuses_message_fields :
    ([⟨8, 0, 0, 0, 0, 0, 0, 0, []⟩, ⟨0, 2 ^ 24, 0, 0, 0, 0, 0, 0, []⟩, ⟨0, 0, 2 ^ 24, 0, 0, 0, 0, 0, []⟩, ⟨0, 0, 0, 4096, 0, 0, 0, 0, []⟩,
      ⟨0, 0, 0, 0, 256, 0, 0, 0, []⟩, ⟨0, 0, 0, 0, 0, 64, 0, 0, []⟩, ⟨0, 0, 0, 0, 0, 0, 256, 0, []⟩, ⟨0, 0, 0, 0, 0, 0, 0, 2 ^ 16, []⟩,
      ⟨0, 0, 0, 0, 0, 0, 0, 0, List.replicate 289 0⟩] : List RMsg).all (fun m => !msgOk m) = true ∧
    msgOk ⟨7, 2 ^ 24 - 1, 2 ^ 24 - 1, 4095, 255, 63, 255, 2 ^ 16 - 1, List.replicate 288 0⟩ = true := by decide

theorem test_wf_refuses_request_fields :
    ([⟨16, 0, 0, 0, 0, 0⟩, ⟨0, 4096, 0, 0, 0, 0⟩, ⟨0, 0, 256, 0, 0, 0⟩, ⟨0, 0, 0, 2 ^ 46, 0, 0⟩, ⟨0, 0, 0, 0, 256, 0⟩] : List ClientReq).all (fun r => !reqOk r) = true ∧
    reqOk ⟨15, 4095, 255, 2 ^ 46 - 1, 255, 0⟩ = true := by decide

theorem test_wf_refuses_other_fields : upsetsOk [⟨67, 2 ^ 24, true⟩] = false ∧ upsetsOk [⟨68, 0, true⟩] = false ∧ lanesOk [[], [], [], [], [], []] = false ∧
    lanesOk [[1024]] = false ∧ lanesOk [[1023], [], [], [], []] = true ∧ tempOk 2048 = false ∧ tempOk (-2049) = false ∧ tempOk (-2048) = true := by decide

/-! ## The queue, the build, the bond field -/

theorem test_step_runs_front : let s := { r0 with pending := [.tapStep, .trigRelease] }
    s.pending = .tapStep :: [.trigRelease] ∧ step s = exec .tapStep { s with pending := [.trigRelease] } := ⟨rfl, rfl⟩

theorem test_step_idles : (∃ t, step r0 = .next t ∧ t.kclk = 1 ∧ t.tclk = 1 ∧ t.pending = []) ∧
    ∃ t, step { r0 with tReset := true } = .next t ∧ t.kclk = 1 ∧ t.tclk = 0 := ⟨⟨_, rfl, by decide +kernel⟩, _, rfl, by decide +kernel⟩

theorem test_queue_drains : let s := { r0 with pending := [.rateSwitch, .tokenSilenceTimeout, .trigRelease] }
    2 ≤ s.pending.length ∧ ∃ t, steps 2 s = .next t ∧ t.pending = [.trigRelease] := ⟨by decide, _, rfl, by decide⟩

theorem test_legal_build : r0.LegalBuild ∧ movesReset .trigRelease = false ∧ (∃ t, step r0 = .next t) ∧ ∃ t, exec .trigRelease r0 = .next t := by
  refine ⟨by unfold State.LegalBuild; decide, by decide, ⟨_, rfl⟩, _, rfl⟩

theorem test_beyond_the_build : let s := { r0 with tiles := 4, links := 16 }
    s.links ≤ 16 ∧ s.groups ≤ 512 ∧ exec (.retrain 16) s = .fault .noSuchLink ∧ exec (.repairSwitch 512) s = .fault .noSuchGroup ∧
    (∃ t, exec (.healthWaitEnd 15) s = .next t) ∧ ∃ t, exec (.repairSwitch 511) s = .next t :=
  ⟨by decide, by decide, rfl, rfl, ⟨_, rfl⟩, _, rfl⟩

/-- Kalvon-T in a training state. -/
def ktS (st : Nat) : State := put r0 [(KT_BND_STATUS_STATE, st)]

theorem test_training_in_kalvon_t : (([
    gives (.wake 1 2 100 1) r0 (fun t => t.tclk == 119 && t.rd KT_BND_STATUS_STATE == 1 && t.bond.driveT &&
          t.bond.xTB == [.ctrlOn 1 2 2 0x0102_01_00000064]),
    gives (.wake 1 2 100 1) (put r0 [(KT_TST_STATUS_TMODE, 1)]) (fun t => t.tclk == 0),
    gives (.rate 900) (ktS 3) (fun t => t.rd KT_BND_STATUS_STATE == 4 && t.bond.rateAt == some 900),
    gives (.rate 900) (ktS 4) (fun t => t.rd KT_XPR_EVT_PROTO == 1 && t.bond.rateAt == none),
    gives (.tokenSet 0x1F 0xAB 0xCD) (ktS 7) (fun t => t.rd KT_BND_HELD_INC == 0x1F && t.rd KT_BND_WTOKEN == 0xAB && t.rd KT_BND_RTOKEN == 0xCD),
    gives (.tokenSet 0x1F 0xAB 0xCD) (ktS 6) (fun t => t.rd KT_XPR_EVT_PROTO == 1 && t.rd KT_BND_HELD_INC == 0),
    gives .tokenReq (put (ktS 6) [(KT_BND_WTOKEN, 7)]) (fun t => t.rd KT_BND_STATUS_STATE == 7 && t.bond.xTB == [.ctrl 6 0x70000]),
    gives .tokenReq (ktS 8) (fun t => t.rd KT_XPR_EVT_PROTO == 1 && t.bond.xTB == []),
    gives (.roles 3 5) (ktS 8) (fun t => t.rd KT_BND_STATUS_STATE == 8 && Sparse.get (fun _ => 0) t.bond.tRoles 3 == 5),
    gives .hold (ktS 1) (fun t => t.tHold && t.rd KT_BND_STATUS_STATE == 9),
    gives .hold (ktS 9) (fun t => !t.tHold && t.rd KT_XPR_EVT_PROTO == 1)] : List Bool).all id) = true := by decide +kernel

/-- Kalvon-T in OPERATE, with one group's state. -/
def ktGrp (g : Nat) (f : Group → Group) : State := put (grpS g f) [(KT_BND_STATUS_STATE, 8)]
def frame0 : Frame := ⟨0, false, false, false, false⟩
def held0 (o : Nat) : HeldFrame := ⟨o, o, frame0, 0, some (o + 11), none⟩

theorem test_groups_in_kalvon_t : (([
    decide (r0.tReset = false),
    decide (2047 < r0.groups),
    gives (.taps 2047 [1, 2, 3]) (ktS 3) (fun t => t.rd (KT_BND_TAP_TARGET 2047 1) == 2 && t.rd (KT_BND_TAP_TARGET 2047 68) == 0),
    gives (.repair 5 6 1 32 96) (ktS 8) (fun t => (t.grp 5).tRepair == some (6, 1, 32, 96)),
    gives (.repairCancel 5) (ktGrp 5 fun x => { x with tRepair := some (6, 1, 32, 96) })
          (fun t => (t.grp 5).tRepair == none && (t.grp 5).tMap == 0x7F7F7E7F),
    gives (.groupState 64 2 1) (ktS 8) (fun t => (t.grp 64).tState == 2 && t.bond.xTB == [.ctrl 0x19 0x010040]),
    gives (.groupState 64 2 1) (ktGrp 64 fun x => { x with held := [held0 9] }) (fun t => t.bond.xTB == [.ctrl 0x19 (BitVec.ofNat 1008 (64 + 9 * 2 ^ 24))]),
    gives (.groupState 5 2 1) (ktS 1) (fun t => (t.grp 5).tState == 2 && t.bond.xTB == []),
    gives (.heir 70 64 10 20 3) (ktGrp 70 fun x => { x with held := [held0 9, held0 10] })
          (fun t => (t.grp 64).heirRx == [⟨70, 20, [⟨70, 10, some frame0⟩]⟩] && (t.grp 70).held.length == 2),
    gives (.heir 7 5 9 20 1) (ktGrp 7 fun x => { x with held := [held0 9, held0 10] }) (fun t => (t.grp 5).heir == [⟨7, 20, [⟨7, 9, some frame0⟩]⟩]),
    gives (.heir 7 5 11 20 1) (ktS 8) (fun t => t.grp 5 == Group.reset)] : List Bool).all id) = true := by decide +kernel

theorem test_training_in_kalvon_b : (([
    !r0.bReset && !r0.on IMG_BOOT_STOP,
    gives .rateSwitch { (put r0 [(BND_STATUS_STATE, 4)]) with bond := { BondSt.reset with rateAt := some 9 } }
          (fun t => t.rd BND_STATUS_STATE == 5 && t.rd KT_BND_STATUS_STATE == 5 && t.bond.rateAt == none),
    gives .rateSwitch r0 (fun t => t == r0),
    gives (.alignDone 7 4 true) (put r0 [(BND_STATUS_STATE, 5)]) (fun t => (t.grp 7).aligned && t.rd (BND_GSTAT_DEPTH 7) == 4 && t.rd BND_STATUS_STATE == 5),
    gives (.alignDone 7 4 false) (put r4 [(BND_STATUS_STATE, 5)]) (fun t => t.rd (BND_GSTAT_STATE 7) == 2 && t.rd (BND_GSTAT_CAUSE 7) == 1),
    gives (.wakeAck 1 2 3 4) (put r0 [(BND_STATUS_STATE, 1)]) (fun t => t.bond.acked == [(1, 2)]),
    gives .bondWakeTimeout (put r0 [(BND_STATUS_STATE, 1)]) (fun t => t.hold && t.rd IMG_BOOT_STOPC == 3 && t.boot.causes == 32 && t.boot.fcode == 4)] : List Bool).all id) = true := by decide +kernel

theorem test_tokens : (let b := fun (n : Nat) => put { r0 with bond := { BondSt.reset with tokens := n } } [(BND_STATUS_STATE, 7)]; ([
    gives (.tokenRpt 1 2 3) (b 2) (fun t => t.bond.tokens == 3 && t.bond.identTries == 1),
    gives (.tokenRpt 0 0 0) (b 1) (fun t => t.bond.tokens == 2 && !t.hold),
    gives (.tokenRpt 0 0 1) (b 1) (fun t => t.hold && t.rd BND_STATUS_STATE == 9 && t.boot.fcode == 1),
    gives .tokenSilenceTimeout (b 1) (fun t => t.hold && t.rd BND_STATUS_STATE == 9 && t.boot.fcode == 1),
    gives .tokenSilenceTimeout r0 (fun t => t == r0),
    gives .classKLossTimeout r0 (fun t => t.tHold && t.rd KT_BND_STATUS_STATE == 9)] : List Bool).all id) = true := by decide +kernel

/-- One tile at the end of CHECK, with groups 0 and 64 alone in service, of class K. -/
def checkS (depth : Nat) : State :=
  put { r0 with tiles := 1, bond := { r0.bond with driveB := true, driveT := true }, regs := (List.range 128).map fun h => let k := (BND_GSTAT_STATE h).key
          (k, if h = 0 ∨ h = 64 then putField (regReset k) (BND_GSTAT_DEPTH h).lo 3 depth else putField (regReset k) 6 2 2) }
    [(BND_STATUS_STATE, 6), (BND_ROLE_TB 0, 3), (BND_ROLE_BT 0, 3)]

theorem test_taps_and_check : (([
    decide ((r0.rd TST_STATUS_CSTATE = 0 ∧ Sparse.wf regReset r0.regs = true ∧ gBT 2047 = true ∧ gBT 63 = false)),
    gives .tapStep (put r0 [(BND_TAP_TARGET 63 68, 33)]) (fun t => t.rd (BND_TAP_TAP 63 68) == 33 && t.rd (BND_TAP_TAP 63 67) == 32),
    gives (.checkWindowEnd []) (put r0 [(BND_STATUS_STATE, 5)]) (fun t => t == put r0 [(BND_STATUS_STATE, 5)]),
    gives (.checkWindowEnd []) (checkS 1) (fun t => t.rd BND_STATUS_STATE == 7 && t.rd KT_BND_STATUS_STATE == 7 && t.rd IMG_BOOT_STEP == 5 && t.bond.tokens == 1 && !t.hold),
    gives (.checkWindowEnd []) (checkS 0) (fun t => t.hold && t.rd IMG_BOOT_STOPC == 3 && t.boot.fcode == 4)] : List Bool).all id) = true := by decide +kernel

def rx0 : RxFrame := ⟨frame0, BitVec.ofNat 12 (frameCrc frame0), [], true⟩

theorem test_frames : (let drives := fun (s : State) => ({ s with bond := { s.bond with driveB := true, driveT := true } } : State); ([
    decide (r0.isSlot 3 8 = false),
    r0.isSlot 3 22,
    gives (.frameSeal 3 22) (drives r0) (fun t => t.bond.wires.length == 1 && (t.grp 3).held.length == 1),
    gives (.frameSeal 67 22) (drives (grpS 67 fun x => { x with held := [held0 3], run := [3], runHead := true }))
          (fun t => t.bond.wires == [(67, 22, { frame0 with retry := true })] && (t.grp 67).run == []),
    gives (.frameSeal 67 22) (drives (grpS 67 fun x => { x with heir := [⟨70, 22, [⟨70, 5, some frame0⟩]⟩] }))
          (fun t => t.bond.wires == [(67, 22, frame0)] && (t.grp 67).heir == []),
    gives (.frameReceive 3 11 rx0) (put r0 [(BND_GSTAT_STATE 3, 2)]) (fun t => t.grp 3 == Group.reset),
    gives (.frameReceive 3 11 { rx0 with strobe := false }) r4 (fun t => t.rd (BND_GSTAT_STATE 3) == 2 && t.rd (BND_GSTAT_CAUSE 3) == 1),
    gives (.frameReceive 67 11 rx0) r0 (fun t => (t.grp 67).tGood == 1),
    r0.unaligned 67 && !r0.unaligned 3,
    gives (.frameReceive 3 11 { rx0 with crc := rx0.crc + 1 }) r0 (fun t => ((t.grp 3).kept.map (·.2.1)) == some { rx0 with crc := rx0.crc + 1 } && (t.grp (gCarrier 3)).nakp)] : List Bool).all id) = true := by decide +kernel

/-- A link control frame of a type, passing its check. -/
def ctlFrame (ty : Nat) : RxFrame :=
  let f : Frame := ⟨BitVec.ofNat 1024 ty, false, false, true, false⟩
  ⟨f, BitVec.ofNat 12 (frameCrc f), [], true⟩

theorem test_control_frames : (([
    gives (.frameReceive 3 11 (ctlFrame 6)) r0 (fun t => (t.grp 3).next == (Group.reset.origOf 11) + 1 && t.bond.ctlB == [(6, 0)]),
    ctlFromT.contains 6,
    gives (.frameReceive 67 11 (ctlFrame 5)) (ktS 7) (fun t => (t.grp 67).next == (Group.reset.origOf 11) + 1 && t.bond.ctlT == [(5, 0)]),
    ctlFromB.contains 5] : List Bool).all id) = true := by decide +kernel

def fix0 : Repair := ⟨6, 1, 32, 96, false, 0, false, false⟩
/-- Kalvon-B in OPERATE, with one group's state. -/
def kbGrp (g : Nat) (f : Group → Group) : State := put (grpS g f) [(BND_STATUS_STATE, 8)]

theorem test_repairs : (([
    gives (.repairSpareDrive 67) (grpS 67 fun x => { x with repair := some fix0 }) (fun t => (t.grp 67).repair == some { fix0 with driven := true }),
    gives (.repairRdy 67 true) (kbGrp 67 fun x => { x with repair := some fix0 }) (fun t => (t.grp 67).repair == some { fix0 with bad := true }),
    gives (.repairReadyCheck 67) (grpS 67 fun x => { x with repair := some { fix0 with ready := true } }) (fun t => (t.grp 67).repair == some { fix0 with ready := true }),
    gives (.repairReadyCheck 67) (grpS 67 fun x => { x with repair := some fix0 }) (fun t => t.spare 67 1 == 0x7E && ((t.grp 67).repair.map fun p => (p.w, p.k, p.s - p.m)) == some (6, 0, 1024)),
    gives (.repairSwitch 67) (r4.setGrp 67 <| (fun x : Group => { x with repair := some { fix0 with ready := true } }) Group.reset) (fun t => t.spare 67 1 == 6 && (t.grp 67).repair == none),
    gives (.repairSwitch 67) r0 (fun t => t == r0)] : List Bool).all id) = true := by decide +kernel

theorem test_recovery : (let rec1 := put r4 [(BND_GSTAT_STATE 3, 1), (BND_GSTAT_DEPTH 3, 4)]; ([
    gives (.retryWaitTimeout 3) (grpS 3 fun x => { x with kept := some (3, rx0, false) }) (fun t => t.rd (BND_GSTAT_STATE 3) == 1 && (t.grp 3).stopped && (t.grp 3).recs == [0]),
    decide (0 < r0.rd BND_CTL_GREC_MAX),
    (rec1.checkWires 3 []).isSome,
    gives (.groupRecoveryDone 3 4 true []) rec1 (fun t => t.rd (BND_GSTAT_STATE 3) == 0 && !(t.grp 3).stopped && (t.grp 3).runHead),
    gives (.groupRecoveryDone 3 4 false []) rec1 (fun t => t.rd (BND_GSTAT_STATE 3) == 2 && t.rd (BND_GSTAT_CAUSE 3) == 1),
    gives (.groupRecoveryDone 3 4 true []) r0 (fun t => t == r0),
    gives (.wireRpt 67 2) (kbGrp 67 id) (fun t => t.track == [0]),
    gives (.heirResealStart 67) { (grpS 67 fun x => { x with heir := [⟨70, 900, []⟩] }) with kclk := 40 } (fun t => (t.grp 67).heir.map (·.x) == [40])] : List Bool).all id) = true := by decide +kernel

theorem test_group_report : (let s := put (grpS 64 fun x => { x with held := [held0 9] }) [(BND_GSTAT_STATE 64, 2), (BND_STATUS_STATE, 8)]; let s := { s with bond := { s.bond with driveB := true } }; ([
    s.heirOf 64 == some 65 && gBT 64,
    gives (.groupRpt 64 false 9) s (fun t => ((t.grp 65).heir.map fun j => (j.g, j.items)) == [(64, [⟨64, 9, some frame0⟩])] && t.bond.xBT.length == 1)] : List Bool).all id) = true := by decide +kernel

/-! ## The crossing -/

def bondS (f : BondSt → BondSt) : State := { r0 with bond := f r0.bond }
def xingS (f : XingSt → XingSt) : State := { r0 with xing := f r0.xing }

theorem test_identity_kalvon_t : (([
    gives (.ident false ⟨0, []⟩) r0 (fun t => t.bond.xTB == [.msg 3 (msgIdentT r0)]),
    gives (.capsSet ⟨0x71, [0x054001FF]⟩) r0 (fun t => t.rd KT_XPR_CAPS == 0x054001FF && t.rd KT_XPR_STATUS_PAIRED == 1 && t.bond.xTB == [.msg 3 ⟨0x72, [0x054001FF]⟩])] : List Bool).all id) = true := by decide +kernel

theorem test_identity_kalvon_b : (let m1 := ({ mkMsg [(0, 8, 0x70), (16, 16, 7), (80, 8, 1), (88, 8, 1), (96, 2, 2)] with data := [0x1FF] } : XMsg); ([
    xf m1 87 80 == 1 && xf m1 97 96 == r0.buildWord % 4 && decide (r0.rd BND_HLPS_FLOOR ≤ min 1 (xf m1 95 88)),
    gives (.ident true m1) (bondS fun b => { b with identTries := 1 }) (fun t => t.rd BND_PEER_ID_VENDOR == 7 && t.bond.capsTries == 1 && t.bond.xBT == [.msg 3 (msgCapsSet 0x1FF)]),
    gives .identTimeout (bondS fun b => { b with identTries := 7 }) (fun t => t.bond.identTries == 8 && t.bond.xBT == [.msg 3 (msgIdentB r0)]),
    gives .identTimeout (bondS fun b => { b with identTries := 8 }) (fun t => t.hold && t.rd IMG_BOOT_STOPC == 5 && t.boot.fcode == 3)] : List Bool).all id) = true := by decide +kernel

theorem test_caps_exchange : (let s := put (bondS fun b => { b with capsTries := 7 }) [(IMG_BOOT_STEP, 5)]; ([
    gives .capsAckTimeout s (fun t => t.bond.capsTries == 8 && t.bond.xBT == [.msg 3 (msgCapsSet s.caps)]),
    gives .capsAckTimeout { s with bond := { s.bond with capsTries := 8 } } (fun t => t.hold && t.rd IMG_BOOT_STOPC == 5),
    gives (.capsAck ⟨0x72, [BitVec.ofNat 128 s.caps]⟩) s (fun t => t.portsUp && t.rd IMG_BOOT_STEP == 7)] : List Bool).all id) = true := by decide +kernel

theorem test_launch_items : (([
    gives (.msi (mkMsg [(8, 12, 143), (20, 1, 1)])) r0 (fun t => t.pins.irq == 2 ^ 143),
    gives (.time (mkMsg [(16, 48, 9), (64, 16, 8), (80, 32, 7), (112, 1, 1)])) r0 (fun t => t.xing.folCycle == 9 && t.xing.folAngle == 8 && t.xing.folKcnt == 7 && t.xing.folStale),
    gives (.trig (mkMsg [(16, 32, 5), (64, 64, 0xABC)])) r0 (fun t => t.xing.trigs == [⟨5, 0xABC⟩] && t.rd KT_LNP_PEND_CNT == 1),
    gives (.trig (mkMsg [(16, 32, 5), (64, 64, 0xABC)])) { r0 with tclk := 6 } (fun t => t.xing.late == [(6, 0xABC)]),
    gives .trigRelease { (xingS fun x => { x with trigs := [⟨5, 0xABC⟩] }) with tclk := 5, portsUp := true } (fun t => t.xing.trigs == []),
    gives .trigRelease { (xingS fun x => { x with late := [(5, 0xABC)] }) with tclk := 5, portsUp := true } (fun t => t.xing.late == [(5, 0xABC)] && !t.pins.lchValid),
    gives .trigRelease { (xingS fun x => { x with late := [(4, 0xABC)], lastTrig := some 5 }) with tclk := 5, portsUp := true } (fun t => t.xing.late == [(4, 0xABC)] && !t.pins.lchValid),
    gives .trigRelease { (xingS fun x => { x with trigs := [⟨5, 0xABC⟩], late := [(4, 7)] }) with tclk := 5, portsUp := true } (fun t => t.xing.late == [(4, 7)] && t.pins.lchTrig == 0xABC && t.xing.lastTrig == some 5),
    gives .trigRelease { (xingS fun x => { x with late := [(4, 0xABC)] }) with tclk := 5, portsUp := true } (fun t => t.xing.late == [] && t.pins.lchTrig == 0xABC + 2 ^ 62),
    gives (.permit ⟨(mkMsg [(64, 1, 1)]).hdr, [BitVec.ofNat 128 (pack [(0, 32, 1), (96, 32, 4)])]⟩) r0 (fun t => t.rd (KT_LNP_PERMIT 0) == 1 && t.rd (KT_LNP_PERMIT 3) == 4),
    gives (.permit ⟨(mkMsg [(16, 32, 9)]).hdr, [3]⟩) r0 (fun t => t.xing.permits.length == 1 && t.rd (KT_LNP_PERMIT 0) == r0.rd (KT_LNP_PERMIT 0)),
    gives .permitRelease { (xingS fun x => { x with permits := [(5, 3)] }) with tclk := 5 } (fun t => t.xing.permits == [] && t.rd (KT_LNP_PERMIT 0) == 3),
    gives (.opp (mkMsg [(16, 32, 9), (64, 4, 3)])) r0 (fun t => t.xing.opps == [(r0.duePac 9, 3)]),
    gives .oppRelease { (xingS fun x => { x with opps := [(5, 3)] }) with tclk := 5 } (fun t => t.xing.opps == [] && t.rd KT_LNP_OPP_OPP == 3 && !t.pins.pacOppChg),
    gives .oppRelease { (xingS fun x => { x with opps := [(5, 3)] }) with tclk := 5, portsUp := true } (fun t => t.pins.pacOppChg),
    gives (.thermSendTimer [-1, 80]) r0 (fun t => t.bond.xTB == [.msg 3 (mkMsg [(0, 8, 0x54), (48, 12, 0xFFF), (60, 12, 80)])]),
    gives (.dbgRd (mkMsg [(0, 8, 0x58)])) r0 (fun t => t.bond.xTB == [.msg 3 ⟨0x59, [0]⟩]),
    gives (.dbgRsp (mkMsg [(0, 8, 0x59)])) r0 (fun t => t.xing.dbg == some (mkMsg [(0, 8, 0x59)]))] : List Bool).all id) = true := by decide +kernel

/-- A state whose client port is ready, with capabilities. -/
def clientS (caps : Nat) (f : XingSt → XingSt) : State := put { r0 with portsUp := true, xing := f r0.xing } [(KT_XPR_CAPS, caps), (KT_XPR_STATUS_PAIRED, 1)]
def req0 : ClientReq := ⟨0, 9, 1, 33, 2, 5⟩

theorem test_client_hypotheses : (let s := clientS 0x1FF id; ([
    !s.tReset && s.portsReady && s.xing.reqs == [] && s.xing.snoops == [] && req0.laddr % 32 == 1,
    s.findLine 33 == none && s.pickWay (setOf 33) == some (16 * setOf 33) && (s.line (16 * setOf 33)).st == 0 && s.rd KT_XPR_CTL_RLC_EN != 0,
    gives (.clientRdShared 1 req0) s (fun t => t.bond.xTB == [.msg 1 (mkReq 0x20 0 0 33 1 0 [])] && t.xing.reqs.length == 1),
    gives (.clientRdUnique 1 req0) s (fun t => t.bond.xTB == [.msg 1 (mkReq 0x21 0 0 33 1 0 [])]),
    gives (.clientUpgrade 1 req0) s (fun t => t.bond.xTB == [.msg 1 (mkReq 0x21 0 0 33 1 0 [])]),
    gives (.clientRdNc 1 req0) s (fun t => t.bond.xTB == [.msg 0 (mkReq 0x10 0 0 33 1 0 [])] && t.xing.reqs == [⟨1, { req0 with op := 3 }, .memory, 0, 0⟩]),
    gives (.clientWrLine 1 req0) s (fun t => t.bond.xTB == [.msg 0 (mkReq 0x11 0 0 33 1 0 [5, 0, 0, 0])]),
    gives (.clientWrPart 1 req0) s (fun t => t.bond.xTB == [.msg 0 (mkReq 0x12 0 0 33 1 2 [5, 0, 0, 0])]),
    gives (.clientAtomic 1 req0) s (fun t => t.bond.xTB == [.msg 0 (mkReq 0x13 0 0 33 1 2 [5])]),
    gives (.clientFlush 1 req0) s (fun t => t.xing.rs == [(1, ⟨3, 9, 0, 0⟩)]),
    gives (.clientAtomic 1 req0) (clientS 0x1FB id) (fun t => t.xing.rs == [(1, ⟨5, 9, 6, 0⟩)]),
    gives (.clientWrLine 1 { req0 with op := 10 }) s (fun t => t.xing.rs == [(1, ⟨5, 9, 7, 0⟩)]),
    gives (.clientWrLine 2 req0) s (fun t => t.xing.rs == [(2, ⟨5, 9, 7, 0⟩)])] : List Bool).all id) = true := by decide +kernel

def line0 : CacheLine := ⟨tagOf 33, 2, true, true, 4⟩

theorem test_client_lines : (let s := clientS 0x1FF fun x => { x with cache := [(16 * setOf 33 + 3, line0)] }; ([
    s.findLine 33 == some (16 * setOf 33 + 3),
    gives (.clientWb 1 req0) s (fun t => t.line (16 * setOf 33 + 3) == { line0 with st := 3, cp := false, cx := false, data := 5 } && t.bond == s.bond),
    gives (.clientEvict 1 req0) s (fun t => t.line (16 * setOf 33 + 3) == { line0 with cp := false, cx := false })] : List Bool).all id) = true := by decide +kernel

/-- An outstanding request of Kalvon-T. -/
def waitS (op : Nat) (p : TPhase) (cache : Sparse CacheLine) : State := clientS 0x1FF fun x => { x with reqs := [⟨1, { req0 with op := op }, p, 0, 19⟩], cache := cache }

theorem test_answers_in_kalvon_t : (let d := [1, 0, 0, 0]; let m := fun (ty : Nat) => ({ mkMsg [(0, 8, ty), (8, 5, 1)] with data := d } : XMsg); ([
    gives (.gntS (m 0x28)) (waitS 0 .grant []) (fun t => t.xing.reqs == [] && t.line 19 == ⟨tagOf 33, 1, true, false, 1⟩ && t.xing.rs == [(1, ⟨0, 9, 0, 1⟩)]),
    gives (.gntE (m 0x29)) (waitS 1 .grant []) (fun t => t.xing.reqs == [] && t.line 19 == ⟨tagOf 33, 2, true, true, 1⟩ && t.xing.rs == [(1, ⟨1, 9, 0, 1⟩)]),
    gives (.gntUpg (m 0x2A)) (waitS 2 .grant [(19, { line0 with st := 1 })]) (fun t => t.xing.reqs == [] && t.line 19 == line0 && t.xing.rs == [(1, ⟨3, 9, 0, 0⟩)]),
    gives (.gntErr { mkMsg [(0, 8, 0x2C), (8, 5, 1), (86, 8, 3)] with data := [] }) (waitS 0 .grant []) (fun t => t.xing.reqs == [] && t.xing.rs == [(1, ⟨5, 9, 3, 0⟩)]),
    gives (.wbAck (m 0x2B)) (waitS 16 .removal [(19, line0)]) (fun t => t.xing.reqs == [] && t.line 19 == CacheLine.empty),
    gives (.rspData (m 0x18)) (waitS 3 .memory []) (fun t => t.xing.reqs == [] && t.xing.rs == [(1, ⟨2, 9, 0, 1⟩)]),
    gives (.rspAck (m 0x19)) (waitS 4 .memory []) (fun t => t.xing.reqs == [] && t.xing.rs == [(1, ⟨3, 9, 0, 0⟩)]),
    gives (.rspAtom (m 0x1A)) (waitS 6 .memory []) (fun t => t.xing.reqs == [] && t.xing.rs == [(1, ⟨4, 9, 0, 1⟩)]),
    gives (.rspErr { mkMsg [(0, 8, 0x1B), (8, 5, 1), (86, 8, 3)] with data := [] }) (waitS 3 .memory []) (fun t => t.xing.reqs == [] && t.xing.rs == [(1, ⟨5, 9, 3, 0⟩)])] : List Bool).all id) = true := by decide +kernel

theorem test_snoops_in_kalvon_t : (let m := fun (ty : Nat) => mkMsg [(0, 8, ty), (8, 5, 1), (16, 10, 7), (32, 46, 33)]; let c := fun (l : CacheLine) => clientS 0x1FF fun x => { x with cache := [(16 * setOf 33 + 3, l)] }; ([
    msgLaddr (m 0x30) == 33,
    gives (.snpInv (m 0x30)) (clientS 0x1FF id) (fun t => t.bond.xTB == [.msg 1 ⟨BitVec.ofNat 128 (pack [(0, 8, 0x38), (8, 5, 1), (16, 10, 7)]), []⟩]),
    gives (.snpInv (m 0x30)) (c ⟨tagOf 33, 3, false, false, 4⟩) (fun t => t.line (16 * setOf 33 + 3) == CacheLine.empty && t.bond.xTB == [.msg 1 ⟨BitVec.ofNat 128 (pack [(0, 8, 0x39), (8, 5, 1), (16, 10, 7)]), [4, 0, 0, 0]⟩]),
    gives (.snpShr (m 0x31)) (c ⟨tagOf 33, 2, true, false, 4⟩) (fun t => t.line (16 * setOf 33 + 3) == ⟨tagOf 33, 1, true, false, 4⟩),
    gives (.clientSnoopRsp 1 4 2 6) (clientS 0x1FF fun x => { x with cache := [(16 * setOf 33 + 3, line0)], snoops := [⟨1, 4, 33, true, .home 7 true⟩] })
        (fun t => t.xing.snoops == [] && t.line (16 * setOf 33 + 3) == CacheLine.empty && t.bond.xTB == [.msg 1 ⟨BitVec.ofNat 128 (pack [(0, 8, 0x39), (8, 5, 1), (16, 10, 7)]), [6, 0, 0, 0]⟩])] : List Bool).all id) = true := by decide +kernel

/-- Kalvon-B with one home window over all addresses, of a caching kind. -/
def homeS (cache : Nat) (f : XingSt → XingSt) : State :=
  put { r0 with xing := f r0.xing } [(BND_HMAP_TGT_CACHE 0, cache), (BND_HMAP_TGT_VALID 0, 1)]

/-- The hypotheses about a home are met whichever pair the image gives the memory traffic of the line. -/
theorem test_home_is_base : HomeIsBase (homeS 1 id) 33 1 0 := by
  refine ⟨by decide +kernel, ⟨0, by decide +kernel, by decide +kernel, by decide +kernel⟩, ?_⟩
  have h : ∀ p, (homeS 1 id).freeRid p = some 0 := fun p => by rfl
  exact h _

theorem test_homes : (let m := fun (ty : Nat) => mkMsg [(0, 8, ty), (8, 5, 1), (16, 10, 7), (32, 46, 33)]; ([
    (homeS 1 id).homeWindow 33 == some 0 && !(homeS 1 id).on (BND_HMAP_TGT_REMOTE 0) && (homeS 1 id).rd (BND_HMAP_TGT_CACHE 0) == 1 && (homeS 1 id).freeRid 0 == some 0,
    (homeS 1 id).acrossOf 33 == none,
    gives (.rdNc (m 0x10)) r0 (fun t => t.bond.xBT == [.msg 0 (mkAns 0x1B 1 7 1 [])]),
    gives (.homeSnpShr 15 (m 0x30)) r0 (fun t => t.xing.memOut.length == 1),
    gives (.homeSnpInv 15 (m 0x31)) r0 (fun t => t.xing.memOut.length == 1),
    gives (.homeResponse 4 (mkMsg [(0, 8, 0x18), (16, 12, 3)])) (xingS fun x => { x with homes := [⟨none, 4, 3, 0, .client 7 0, m 0x10⟩] }) (fun t => t.xing.homes == [] && t.bond.xBT.length == 1),
    gives (.srsp (m 0x38)) (xingS fun x => { x with acrossB := [⟨33, 5, 7, true, some (4, 0), none⟩] }) (fun t => t.xing.acrossB == [] && t.xing.memOut.length == 1)] : List Bool).all id) = true := by decide +kernel

def tile0 : Tile := ⟨BitVec.ofNat 128 (pack [(44, 13, 1)]), [7]⟩

theorem test_streams : (let s := clientS 0x1FF fun x => { x with streams := [(chKey false 7, { StreamCh.reset with credits := 0 })] }; let b := ([⟨true, true, 7, tile0.hdr⟩] : List TsiBeat); ([
    s.portsReady && bitAt (s.rd KT_XPR_CAPS) 3 && tileBeatsOk tile0.hdr b && !tileBeatsOk tile0.hdr [⟨false, true, 7, tile0.hdr⟩],
    gives (.tsiTile 7 tile0.hdr b) s (fun t => (t.ch (chKey false 7)).queue == [tile0] && (s.ch (chKey false 7)).credits == 0),
    gives (.tsiTile 7 tile0.hdr b) (clientS 0x1FF fun x => { x with streams := [(chKey false 7, { StreamCh.reset with credits := 2 })] }) (fun t => (t.ch (chKey false 7)).credits == 1 && t.bond.xTB.length == 1),
    gives (.tsiTile 7 tile0.hdr [⟨false, true, 7, tile0.hdr⟩]) s (fun t => bitAt (t.word EV_KT_CTL_TSIERR.key).toNat EV_KT_CTL_TSIERR.bit && Sparse.get (fun _ => TsiCh.idle) t.xing.tsi 7 == .discard),
    gives (.tsiTile 7 (BitVec.ofNat 128 (pack [(44, 13, 600)])) [⟨true, true, 7, tile0.hdr⟩]) s (fun t => Sparse.get (fun _ => TsiCh.idle) t.xing.tsi 7 == .discard),
    gives (.tsiTile 7 tile0.hdr [⟨false, true, 7, tile0.hdr⟩]) (clientS 0x1FF fun x => { x with tsi := [(7, .discard)] }) (fun t => !bitAt (t.word EV_KT_CTL_TSIERR.key).toNat EV_KT_CTL_TSIERR.bit),
    gives (.tsiTile 7 (BitVec.ofNat 128 (pack [(44, 13, 600)])) [⟨true, false, 7, tile0.hdr⟩]) (clientS 0x1FF fun x => { x with tsi := [(7, .tile tile0.hdr [9])] })
        (fun t => Sparse.get (fun _ => TsiCh.idle) t.xing.tsi 7 == .tile (BitVec.ofNat 128 (pack [(44, 13, 600)])) [7] && bitAt (t.word EV_KT_CTL_TSIERR.key).toNat EV_KT_CTL_TSIERR.bit),
    gives (.streamFrame true (BitVec.ofNat 1024 (pack [(32, 8, 2)]))) r0 (fun t => (t.ch (chKey true 1)).credits == (r0.ch (chKey true 1)).credits + 1),
    gives (.streamFrame true (BitVec.ofNat 1024 (streamFrame 7 0 (tileBytes tile0) 1 0))) r0 (fun t => t.xing.fromT == [(7, tile0)] && (t.ch (chKey false 7)).rxSeq == 1)] : List Bool).all id) = true := by decide +kernel

/-! ## Lanes and links -/

/-- Link 2 in a state of R151, with fields and state of its own. -/
def linkS (st : Nat) (f : LinkSt → LinkSt) (l : List (Fld × Nat)) : State :=
  put { r0 with lnk := [(2, f LinkSt.reset)] } ((LNK_STATUS_STATE 2, st) :: l)

theorem test_link_timers : (([
    !r0.bReset && decide (2 < r0.links) && (linkS 5 id []).lup 2,
    gives (.healthWaitEnd 2) (linkS 1 id []) (fun t => !(t.lk 2).first),
    gives (.incompatRetryTimer 2) (linkS 7 (fun l => { l with flits := 9 }) []) (fun t => (t.lk 2).flits == 0),
    gives (.oePollTimer 2) (linkS 5 id []) (fun t => (t.lk 2).oeReq.isSome),
    gives (.ackKeepaliveTimer 2) (linkS 5 id []) (fun t => (t.lk 2).ackDue),
    gives (.creditReturnTimer 2) (linkS 5 (fun l => { l with owed := [0, 1] }) []) (fun t => (t.lk 2).fillerDue),
    gives (.gearboxFlitStart 2) (linkS 5 (fun l => { l with gear := [5] }) []) (fun t => (t.lk 2).gear == [5]),
    gives (.gearboxFlitStart 2) (linkS 5 (fun l => { l with txOn := true, gear := [5] }) []) (fun t => (t.lk 2).air == 5 && (t.lk 2).gear == [] && (t.lk 2).code.length == 272),
    gives (.gearboxFlitStart 2) (linkS 5 (fun l => { l with txOn := true }) []) (fun t => (t.lk 2).air == idleFlit && t.lst 2 == 5),
    gives (.gearboxFlitStart 2) (linkS 5 (fun l => { l with txOn := true, retrainWait := true }) []) (fun t => t.lst 2 == 3 && (t.lk 2).retrain)] : List Bool).all id) = true := by decide +kernel

theorem test_link_failures : (([
    gives (.linkStateTimeout 2) (linkS 2 id []) (fun t => t.lst 2 == 8 && (t.lk 2).fails == 1 && t.rd (LNK_STATUS_CAUSE 2) == 1),
    gives (.linkStateTimeout 2) (linkS 4 id []) (fun t => t.lst 2 == 8 && t.rd (LNK_STATUS_CAUSE 2) == 4),
    gives (.lstateHandshakeTimeout 2) (linkS 5 id []) (fun t => t.lst 2 == 8 && t.rd (LNK_STATUS_CAUSE 2) == 4),
    gives (.ageLimitExpiry 2) (linkS 5 (fun l => { l with ackAbs := 3, txAbs := 4 }) [(LNK_RSTAT_DSTATE 2, 1)]) (fun t => t.lst 2 == 8 && t.rd (LNK_RSTAT_DSTATE 2) == 2 && t.rd (LNK_RSTAT_DCAUSE 2) == 1),
    decide ((linkS 5 (fun l => { l with ackAbs := 3, txAbs := 4 }) [(LNK_RSTAT_DSTATE 2, 1)]).rd (LNK_RSTAT_DSTATE 2) < 2)] : List Bool).all id) = true := by decide +kernel

def laneUp : LaneRx := { LaneRx.reset with locked := true, heard := true }
def lanes5 (x : LaneRx) : List LaneRx := [LaneRx.reset, x, LaneRx.reset, LaneRx.reset, LaneRx.reset]

theorem test_link_trains : (([
    gives (.waitExpiry 2) (linkS 8 id [(LNK_EXP_USED 2, 1)]) (fun t => t.lst 2 == 1),
    gives (.waitExpiry 2) (linkS 8 (fun l => { l with txen := 3 }) [(LNK_EXP_USED 2, 0)]) (fun t => t.lst 2 == 0 && (t.lk 2).txen == 0),
    gives (.laneRxlockRise 2 4) (linkS 2 id []) (fun t => (t.lk 2).rxlock == 16 && t.lst 2 == 3),
    gives (.laneRxlockFall 2 1) (linkS 3 (fun l => { l with rxlock := 3, lanes := lanes5 laneUp }) []) (fun t => (t.lk 2).rxlock == 1 && t.lst 2 == 3 && (t.lk 2).lanes == lanes5 { laneUp with locked := false, syncs := 0 }),
    gives (.trainingBlock 2 1 (List.replicate 85 0) false) (linkS 3 (fun l => { l with rxlock := 2, lanes := lanes5 laneUp }) []) (fun t => ((t.lk 2).lanes.getD 1 LaneRx.reset).misses == 1 && t.lst 2 == 3),
    gives (.prbsWindowEnd 2 1) (linkS 3 (fun l => { l with rxlock := 2, lanes := lanes5 laneUp }) []) (fun t => ((t.lk 2).lanes.getD 1 LaneRx.reset).done && ((t.lk 2).lanes.getD 1 LaneRx.reset).pass),
    gives (.oeReadDone 2 0x9000 400) (linkS 5 (fun l => { l with oeReq := some (0, 0, 0x9000) }) []) (fun t => t.rd (LNK_OE_TEMP_TEMP 2) == 400),
    !(linkS 5 id []).oeOut 2 0x9000 400,
    gives (.laneRepairTimeout 2) (linkS 5 (fun l => { l with repair := true }) []) (fun t => t.lst 2 == 5 && (t.lk 2).retrainTx == 3 && !(t.lk 2).repair),
    gives (.laneRepairTimeout 2) (linkS 5 id []) (fun t => t.lst 2 == 5)] : List Bool).all id) = true := by decide +kernel

/-- The lanes of link 2 that have heard the partner's logical lanes in order. -/
def heard4 : List LaneRx := (List.range 5).map fun q => { laneUp with logical := if q < 4 then q else 15, phys := q, done := true, pass := true }

theorem test_flit_start : (let s := linkS 3 (fun l => { l with rxlock := 31, lanes := heard4, switching := true }) [(LNK_CTL_WMAX 2, 0)]; let v := fun (f : LinkSt → LinkSt) => { s with lnk := [(2, f (s.lk 2))] }; ([
    s.lst 2 == 3 && (s.lk 2).switching && !(s.lk 2).txOn,
    (let u := v fun l => { l with peerSw := true, peerTxw := codeOf 4 }; u.lst 2 == 3 && (u.lk 2).peerSw && !(u.lk 2).rxOn && widthOf (u.lk 2).peerTxw == 4),
    packMap ((s.heardMap 2).take 4) == packMap [0, 1, 2, 3]] : List Bool).all id) = true := by decide +kernel

theorem test_spares_and_width : (let map4 := packMap [0, 1, 2, 3]; let s := linkS 5 id [(LNK_STATUS_RXW 2, codeOf 4), (LNK_STATUS_TXW 2, codeOf 4), (LNK_MAP_RXMAP 2, map4), (LNK_MAP_TXMAP 2, map4), (LNK_CAPS 2, 15)]; let withF := fun (s : State) (f : LinkSt → LinkSt) => { s with lnk := [(2, f (s.lk 2))] }; ([
    gives (.mirrorVerifyTimeout 2) (withF s fun l => { l with faults := [⟨1, 1, 4, 0⟩] }) (fun t => (t.lk 2).wreq.isSome),
    gives (.mirrorChoiceTimer 2) (withF s fun l => { l with mism := 9, msData := 9 }) (fun t => (t.lk 2).mism == 0 && (t.lk 2).msData == 0),
    gives (.widthSwitchPoint 2 true) (withF s fun l => { l with txSw := some ⟨codeOf 2, packMap [0, 1], 0⟩ }) (fun t => t.rd (LNK_STATUS_TXW 2) == codeOf 2 && t.rd (LNK_MAP_TXMAP 2) == packMap [0, 1] && (t.lk 2).txSw == none),
    gives (.widthSwitchPoint 2 false) (withF s fun l => { l with rxSw := some ⟨codeOf 2, packMap [0, 1], 0⟩ }) (fun t => t.rd (LNK_STATUS_RXW 2) == codeOf 2 && (t.lk 2).rxSw == none),
    gives (.retrain 2) s (fun t => t.lst 2 == 3 && (t.lk 2).retrain),
    gives (.mirror 2 3 4 true) s (fun t => (t.lk 2).txMir == [(4, 3, true)]),
    gives (.wreq 2 (codeOf 4) 0 true) s (fun t => t.lst 2 == 5 && (t.lk 2).retrainTx == 3),
    gives (.wreq 2 (codeOf 4) 12 false) s (fun t => (t.lk 2).joinTx == 12 && (t.lk 2).txen == 12),
    gives (.wreq 2 (codeOf 2) 3 true) s (fun t => (t.lk 2).txSw == some ⟨codeOf 2, packMap [0, 1], 24⟩),
    gives (.widthSw 2 1 0x123 16) s (fun t => (t.lk 2).rxSw == some ⟨1, 0x123, 15⟩),
    gives (.linkJoin 2 4) s (fun t => (t.lk 2).joinRx == 4),
    gives (.nbr 2 true false 3 4 5 6 7 0x10 0x11 0) s (fun t => (t.lk 2).gotNbr && (t.lk 2).peer == (4, 3, 5, 6, 7, false)),
    gives (.nbr 2 true false 3 4 5 6 7 1 0xF 0) (linkS 4 (fun l => { l with sentSeen := true }) []) (fun t => t.lst 2 == 7 && t.rd (LNK_STATUS_CAUSE 2) == 6)] : List Bool).all id) = true := by decide +kernel

theorem test_widen : (let s := linkS 5 id [(LNK_STATUS_RXW 2, codeOf 2), (LNK_MAP_RXMAP 2, packMap [0, 1]), (LNK_CAPS 2, 15)]; ([
    gives (.widenTimer 2) s (fun t => (t.lk 2).wreq.isSome),
    gives (.widenTimer 2) (put s [(LNK_CAPS 2, 7)]) (fun t => (t.lk 2).wreq == none)] : List Bool).all id) = true := by decide +kernel

def txFlit (i : Nat) : TxFlit := ⟨i, 0, [], [], []⟩

theorem test_sessions : (let s := linkS 5 (fun l => { l with ackAbs := 1, txAbs := 2, buf := [txFlit 0, txFlit 1], hsDone := true, hsDecided := true, session := some (4, 3, 5) }) [(LNK_RSTAT_DSTATE 2, 0)]; ([
    s.replayTimerOn 2 && decide (s.rd (LNK_RSTAT_RC 2) + 1 < s.rmax 2),
    gives (.replayTimerExpiry 2) s (fun t => t.rd (LNK_RSTAT_RC 2) == 1 && (t.lk 2).run == [1]),
    gives (.replayTimerExpiry 2) (put s [(LNK_RSTAT_RC 2, s.rmax 2 - 1)]) (fun t => t.lst 2 == 5 && (t.lk 2).retrainTx == 3 && t.rd (LNK_RSTAT_EL 2) == 1),
    gives (.replayTimerExpiry 2) (put s [(LNK_RSTAT_RC 2, s.rmax 2 - 1), (LNK_RSTAT_EL 2, 1)]) (fun t => t.lst 2 == 8 && t.rd (LNK_RSTAT_DSTATE 2) == 2),
    gives (.elDecay 2) (put s [(LNK_RSTAT_EL 2, 1)]) (fun t => t.rd (LNK_RSTAT_EL 2) == 0),
    gives (.graceExpiry 2) (put s [(LNK_RSTAT_DSTATE 2, 2)]) (fun t => t.rd (LNK_RSTAT_DSTATE 2) == 3 && (t.lk 2).session == none && (t.lk 2).buf == [])] : List Bool).all id) = true := by decide +kernel

theorem test_resync_and_handshake : (let s := linkS 5 (fun l => { l with hsDone := true, session := some (4, 3, 5) }) [(LNK_RCTL_CMODE 2, 1), (LNK_CAPS 2, 0xFF)]; ([
    ((linkS 5 id []).lk 2).taken.length == 8 && s.resync 2 && s.lup 2,
    gives (.crsyncTimer 2) s (fun t => (t.lk 2).byp.length == 2),
    gives (.crsyncLo 2 [3, 0, 0, 2]) s (fun t => t.rd (LNK_VC_CRED 2 0) == s.rd (LNK_VC_CRED 2 0) + 3 && (t.lk 2).taken.getD 3 0 == 2),
    gives (.crsyncHi 2 [0, 0, 0, 2]) s (fun t => (t.lk 2).taken.getD 7 0 == 2),
    gives (.lstate 2 false true false true 0 0 [5, 6]) (linkS 5 id []) (fun t => (t.lk 2).hsSeen && (t.lk 2).hsDecided && t.rd (LNK_VC_CRED 2 1) == 6 && t.rd (LNK_VC_CRED 2 7) == 0 && t.rd (LNK_RSTAT_DSTATE 2) == 0),
    gives (.hbTimer 2) s (fun t => (t.lk 2).hbTx == 1 && (t.lk 2).byp.length == 1),
    gives (.hb 2 4 5 9 3) s (fun t => t.rd (LNK_LIVE_STATE 2) == 1 && t.rd (LNK_LIVE_FLAGS 2) == 3 && t.rd (LNK_HBSEQ 2) == 9),
    gives (.silenceSuspect 2) (put s [(LNK_LIVE_STATE 2, 1)]) (fun t => t.rd (LNK_LIVE_STATE 2) == 2),
    gives (.silenceUnreachable 2) (put s [(LNK_LIVE_STATE 2, 2)]) (fun t => t.rd (LNK_LIVE_STATE 2) == 3)] : List Bool).all id) = true := by decide +kernel

/-- Twelve symbol errors in one lane cannot be corrected. -/
theorem test_uncorrectable : (rsDecode (gather [(List.range 272).map fun i => if i < 12 then i + 1 else 0] (packMap [0]) 1)).isNone = true := by decide +kernel

/-- The lanes of a codeword of one lane, by its first symbols and its last; the others are 0. -/
def oneLane (head tail : List Nat) : List (List Nat) := [head ++ List.replicate (272 - head.length - tail.length) 0 ++ tail]
def rxLinkS : State := linkS 5 (fun l => { l with rxOn := true, hsDone := true, hsDecided := true, unc := 3 }) [(LNK_STATUS_RXW 2, codeOf 1), (LNK_MAP_RXMAP 2, packMap [0]), (LNK_SEQ_RXEXP 2, 4095)]
/-- A DATA flit in the clear with the SEQ expected, and an IDLE flit: type, CRC-64 and RS parity. -/
def dataWord : List (List Nat) := oneLane [1009, 63] [128, 650, 917, 785, 249, 189, 36, 968, 605, 445, 971, 224, 213, 544, 917, 407, 832, 107, 506, 512, 690, 420, 275]
def idleWord : List (List Nat) := oneLane [3] [768, 819, 340, 6, 51, 625, 211, 631, 272, 921, 954, 297, 19, 922, 466, 135, 180, 105, 605, 522, 876, 43, 143]

theorem test_receive_data : gives (.flitReceive 2 dataWord) rxLinkS (fun t => (t.lk 2).unc == 0 && t.rd (LNK_SEQ_RXEXP 2) == 0 && t.rd (LNK_RXDATA 2) == 1) = true := by decide +kernel

theorem test_receive_idle : gives (.flitReceive 2 idleWord) rxLinkS (fun t => (t.lk 2).unc == 0 && t.regs == rxLinkS.regs) = true := by decide +kernel

/-- All symbols 0 is a codeword, and no flit whose CRC-64 holds. -/
theorem test_receive_bad : gives (.flitReceive 2 (oneLane [] [])) rxLinkS (fun t => t.rd (LNK_CRC_ERR 2) == 1 && t.rd (LNK_SEQ_RXEXP 2) == 4095) = true := by decide +kernel

theorem test_flits : (([
    ((linkS 5 (fun l => { l with rxOn := true }) [(LNK_STATUS_RXW 2, codeOf 1), (LNK_MAP_RXMAP 2, packMap [0])]).rd (LNK_MAP_RXMAP 2) == packMap [0] && widthOf (codeOf 1) == 1),
    gives (.flitPeriod 2 []) (linkS 4 (fun l => { l with flits := 1 }) []) (fun t => (t.lk 2).gear == [idleFlit] && (t.lk 2).flits == 2)] : List Bool).all id) = true := by decide +kernel

theorem test_keys_and_tracker : (([
    gives (.keyEpoch 2 false) { (linkS 5 (fun l => { l with txPend := some ⟨7, 8, 0, 0⟩ }) []) with kclk := 5 } (fun t => (t.lk 2).txPend == none && (t.lk 2).txKey == some ⟨7, 8, 0⟩ && t.rd (LNK_SEC_TXKEY 2) == 1),
    (linkS 5 id []).reached (instant 0 0),
    gives .trackerResidenceTick { r0 with track := [511] } (fun t => t.track == [511] && t.rd (TEL_TBIN_RES 511 0) == 1),
    gives (.trackerAgeExpiry 511) (put { r0 with track := [511] } [(TEL_TCNT_AGE 511, 255), (TEL_TRID_VALID 511, 1)]) (fun t => t.track == [] && t.rd (TEL_TRID_VALID 511) == 0 && t.rd TEL_TRK_USED == 0)] : List Bool).all id) = true := by decide +kernel

/-! ## Supplies, boot, time, Pace -/

/-- A slot that passes on the smallest build, and one that the flash cannot read. -/
def slotA : SlotRead := ⟨false, 0x49505041, 1, 256, 0x10000, 0, 0, 1, 368, 1, [⟨0x8000, 272, 0, []⟩], true⟩
def slotB : SlotRead := ⟨true, 0, 0, 0, 0, 0, 0, 0, 0, 0, [], false⟩
def bootS : State := put { r0 with tiles := 4, links := 16 } ([(BND_ROLE_TB 0, 0xE4), (BND_ROLE_BT 0, 0xE4), (BND_KTILE_MASK, 1), (TIM_PIMG_P, 78125), (TIM_EPOCH_EPER, 1000)] ++
  (List.range 16).map fun d => (PAC_DOM_USED d, 1))

theorem test_resets : (([
    gives (.porstAssert true true) { r0 with hold := true, kclk := 9 } (fun t => t.bReset && t.tReset && t.kclk == 0 && !t.hold && t.boot.causes == 2),
    gives (.porstRelease true true true false) { r0 with bReset := true, tReset := true, boot := { r0.boot with causes := 6, fcode := 4 } } (fun t => !t.bReset && t.boot.causes == 0 && t.word 0x1100 == 0x04000007 && t.rd TST_STATUS_TMODE == 1 && t.caddyShut),
    gives .vddAonPowerOn { r0 with hdr := { r0.hdr with inc := 5 } } (fun t => t.bReset && t.hdr == CaddyHdr.blank && t.boot.aonPor),
    gives (.supplyResetLevel .kt) r0 (fun t => bitAt t.boot.causes 2 && t.hold && !t.pins.rstReqN && t.boot.reqPending),
    gives (.supplyResetLevel .kb) { r0 with bReset := true } (fun t => bitAt t.boot.causes 3 && t.pins.rstReqN),
    gives (.aonResetLevel true) r0 (fun t => t.boot.causes == 1 && t.hold && t.caddyShut && t.boot.aonPor),
    gives (.supplyWarning .kb) r0 (fun t => t.rd PAC_SAG_KB == 1 && t.pace.sagKb && !t.pace.sagKt),
    gives (.supplyWarningClear .kb) { r0 with boot := { r0.boot with warn := 2 } } (fun t => t.boot.warn == 0 && t.rd PAC_SAG_KB == 0),
    gives (.sagHoldExpiry .kb) { r0 with pace := { r0.pace with sagKb := true } } (fun t => !t.pace.sagKb),
    gives .rstReqPulseEnd { r0 with pins := { r0.pins with rstReqN := false } } (fun t => t.pins.rstReqN),
    gives .rstReqUnhonoured { r0 with boot := { r0.boot with reqPending := true, causes := 8 }, kclk := 7 } (fun t => t.kclk == 0 && !t.boot.reqPending && bitAt (t.word 0x1100).toNat 6),
    gives (.thermalTrip 7 920) r0 (fun t => !t.pins.tripN && t.rd PAC_STATUS_TRIP == 1 && t.rd (PAC_TEMP_VALID 7) == 1),
    gives (.thermalTrip 11 920) r0 (fun t => !t.pins.tripN && t.rd PAC_STATUS_TRIP == 1 && t.rd (PAC_TEMP_VALID 11) == 0),
    gives (.thermalTrip 11 920) { r0 with pace := { r0.pace with tSeen := true } } (fun t => t.rd (PAC_TEMP_VALID 11) == 1),
    gives (.porstAssert true false) r0 (fun t => t.bReset && !t.tReset),
    gives (.porstAssert false true) r0 (fun t => !t.bReset && t.tReset),
    gives (.porstAssert false false) r0 (fun t => t == r0),
    gives (.thermalTrip 11 919) r0 (fun t => t == r0)] : List Bool).all id) = true := by decide +kernel

theorem test_boot : (let s2 := put r0 [(IMG_BOOT_STEP, 3)]; ([
    gives (.imageStepDone none false none ⟨true, 0, 0, 0, 0, 0, 0, 0, 0, 0, [], false⟩ ⟨true, 0, 0, 0, 0, 0, 0, 0, 0, 0, [], false⟩) r0 (fun t => t.rd IMG_BOOT_STOPC == 1 && t.hold && t.rd IMG_BOOT_STEP == 2),
    r0.rd IMG_BOOT_STEP == 1 && !r0.on TST_STATUS_TMODE,
    decide (s2.rd IMG_BOOT_STEP = 3) && s2.boot.aonPor && !{ s2 with boot := { s2.boot with aonPor := false }, hdr := { s2.hdr with good := true } }.boot.aonPor,
    (let s1 := ((bootS.wr IMG_FLASH_DENS 0).wr IMG_FLASH_SLOW 0).wr IMG_BOOT_STEP 2; bootS.imageFloor false none == 0 && s1.slotCode 0 slotA == 2 && s1.slotCode 0 slotB == 8 &&
      decide (slotB.seq ≤ slotA.seq) && (((s1.setSlot false 2).setSlot true 8).trySlot slotA).1 == 1),
    gives (.discoveryEnd true) { (put r0 [(IMG_BOOT_STEP, 8)]) with kclk := 6250 } (fun t => t.rd IMG_BOOT_STEP == 9 && t.rd IMG_BOOT_READY == 1 && t.rd IMG_TREADY == 4)] : List Bool).all id) = true := by decide +kernel

theorem test_caddy : (([
    gives (.caddyScrub 0 []) { r0 with boot := { r0.boot with scrub := 8191 } } (fun t => t.boot.scrub == 0),
    gives (.caddyScrub 1 []) r0 (fun t => t.rd CDY_EVT_SCRUB == 1),
    gives .journalPeriodTimer (put r0 [(CDY_STATUS_SRC, 0)]) (fun t => t.rd CDY_JSTAT_BUSY == 1),
    gives .journalPeriodTimer (put r0 [(CDY_STATUS_SRC, 3)]) (fun t => t.rd CDY_JSTAT_BUSY == 0),
    gives (.snapshotDone 9 true) (put r0 [(CDY_JSTAT_BUSY, 1)]) (fun t => t.rd CDY_JSTAT_BUSY == 0 && t.rd CDY_JSTAT_SEG == 1 && t.rd CDY_JSTAT_SSEQ == 1 && t.boot.snapGap),
    gives (.snapshotDone 9 false) (put r0 [(CDY_JSTAT_BUSY, 1)]) (fun t => t.boot.snapWanted),
    gives (.flashCmdDone 77 true) { (put r0 [(IMG_FSTAT_BUSY, 1)]) with boot := { r0.boot with windowOp := 1 } } (fun t => t.rd IMG_FSTAT_BUSY == 0 && t.rd IMG_FSTAT_RES == 0 && t.rd IMG_FDATA == 77),
    gives (.flashCmdDone 77 false) (put r0 [(IMG_FSTAT_BUSY, 1)]) (fun t => t.rd IMG_FSTAT_RES == 2)] : List Bool).all id) = true := by decide +kernel

/-- A state in which time runs, in a role, with state of its own. -/
def timeS (role st : Nat) (f : TimeSt → TimeSt) : State :=
  put { r0 with time := f r0.time } [(TIM_CTL_ROLE, role), (TIM_STATUS_STATE, st), (IMG_BOOT_STEP, 4), (TIM_PCUR_P, 64000)]
def corr0 : Corr := ⟨5, false, false, 2 ^ 60, 2 ^ 39, 64000, 0⟩

theorem test_markers : (let tk := fun (f : TimeSt → TimeSt) (role : Nat) => ({ (timeS role 2 fun x => f { x with taken := true }) with kclk := (timeS role 2 id).epochK } : State); ([
    decide ((tk id 0).kclk = (tk id 0).nextMarker) && (tk id 0).tst == 2,
    gives (.epochMarker false) r0 (fun t => t == r0),
    gives (.epochMarker true) (timeS 0 0 id) (fun t => t.rd TIM_EVT_EPOCHERR == 1 && !t.time.taken),
    gives (.epochMarker false) { (timeS 0 0 id) with kclk := 9 } (fun t => t.time.taken && t.time.marker == 9 && t.tst == 0),
    gives (.epochMarker false) (timeS 1 0 id) (fun t => t.tst == 1),
    gives (.epochMarker false) (put (timeS 2 0 id) [(TIM_SET_LO, 11)]) (fun t => t.tst == 2 && t.cycle == 11),
    gives (.epochMarker false) (tk (fun x => { x with held := some corr0 }) 0) (fun t => t.fnow == 2 ^ 60 && t.incr == 2 ^ 39 && t.tst == 2 && t.time.held == none),
    gives (.epochMarker false) (tk id 0) (fun t => t.tst == 3 && t.time.missed == 0),
    decide ((tk id 0).continuation < 2 ^ 104),
    gives .epochMiss (tk (fun x => { x with missed := 2 }) 0) (fun t => t.time.missed == 3 && t.rd TIM_EVT_EPOCHMISS == 1 && t.tst == 3),
    gives .epochMiss (timeS 0 0 id) (fun t => t == timeS 0 0 id)] : List Bool).all id) = true := by decide +kernel

theorem test_corrections : (([
    gives .correctionFreeze r0 (fun t => t.time.frozen),
    gives .correctionSendPoint (timeS 2 2 fun x => { x with taken := true, lastSeq := some 255 }) (fun t => t.time.lastSeq == some 0 && t.time.held.isSome),
    gives .correctionSendPoint (timeS 1 1 fun x => { x with taken := true, samples := [1, 2, 3, 4] }) (fun t => t.time.samples == []),
    gives .holdmaxExpiry (timeS 0 3 id) (fun t => t.time.holdStale && t.rd TIM_STATUS_STALE == 1),
    gives .rootStartTimeout (timeS 2 1 id) (fun t => t.time.startSet),
    gives (.tcorrA 2 5 false true 9) (timeS 0 2 id) (fun t => t.time.half == [(2, ⟨5, false, true, 9, 0, 0, 0⟩)]),
    gives (.tcorrB 2 5 (2 ^ 39) 64000 3) (timeS 0 2 fun x => { x with taken := true, half := [(2, ⟨5, false, true, 9, 0, 0, 0⟩)], lastSeq := some 4 }) (fun t => t.time.held == some ⟨5, false, true, 9, 2 ^ 39, 64000, 3⟩ && t.time.lastSeq == some 5)] : List Bool).all id) = true := by decide +kernel

def ex0 : Exchange := ⟨7, false, some 2560000, 1, false, none⟩

theorem test_time_transfer : (let lead := put { (timeS 1 1 id) with lnk := [(2, LinkSt.reset)] } [(TIM_CTL_PARENT, 2), (LNK_STATUS_STATE 2, 5), (LNK_CAPS 2, 4), (LNK_RSTAT_DSTATE 2, 0)]; let wt := fun (f : TimeSt → TimeSt) => ({ lead with time := f lead.time } : State); ([
    lead.measures && lead.rd TIM_CTL_PARENT == 2 && lead.rttMin == none,
    lead.parentOk && gives .ttReqTimer lead (fun t => t.time.tt.length == 1),
    gives .ttReqTimer (timeS 0 2 id) (fun t => t == timeS 0 2 id),
    gives (.ttRspTimeout 7) (wt fun x => { x with tt := [ex0] }) (fun t => t.time.tt == [] && t.rd TIM_EVT_TTREJ == 1),
    gives .timeSendTimer r0 (fun t => t.bond.xBT.length == 1),
    gives (.ttReq 2 9 true) lead (fun t => (t.lk 2).byp.length == 2),
    gives (.ttRsp 2 7 true false 0 0) (wt fun x => { x with tt := [ex0] }) (fun t => t.time.tt == [] && t.rd TIM_EVT_TTREJ == 1),
    gives (.ttRsp 2 7 false false 0 0) (wt fun x => { x with tt := [ex0] }) (fun t => t.time.tt == [] && t.time.sampled && t.time.samples.length == 1),
    gives (.ttCyc 2 7 0 64000) (wt fun x => { x with tt := [{ ex0 with full := true, got := some (1, 2, 3) }] }) (fun t => t.time.tt == [] && t.time.sampled),
    gives (.ttPchg 2 64100 9) lead (fun t => t.time.pchg == some (64100, 9))] : List Bool).all id) = true := by decide +kernel

theorem test_pace : (let pc := fun (f : PaceSt → PaceSt) => ({ r0 with pace := f r0.pace } : State); ([
    gives (.energySample 15 1000) r0 (fun t => (t.ech 15).seen && (t.ech 15).last == 1000 && (t.ech 15).rate == 0),
    gives (.energySample 15 1001) { (pc fun x => { x with ech := [(15, ⟨1000, 0, true, 0⟩)] }) with kclk := 100 } (fun t => (t.ech 15).rate == 32000),
    gives (.energyChannelMissing 3) (put r0 [(PAC_ECH_USED, 8)]) (fun t => bitAt (t.rd PAC_EMISS_MISS) 3 && t.rd PAC_EVT_CHMISS == 1),
    gives (.therm (mkMsg [(48, 12, 0xFFF), (84, 12, 5)])) r0 (fun t => t.pace.tSeen && t.rd (PAC_TEMP_TEMP 8) == 0xFFF && t.rd (PAC_TEMP_TEMP 11) == 5 && t.rd (PAC_TEMP_VALID 11) == 1),
    gives .thermTimeout (put (pc fun x => { x with tSeen := true }) [(PAC_TEMP_VALID 8, 1)]) (fun t => t.pace.tSilent && t.rd (PAC_TEMP_VALID 8) == 0 && t.rd PAC_EVT_TSENS == 1),
    gives .thermalCeilingUpdate (put r0 [(PAC_TEMP_VALID 0, 1), (PAC_TEMP_TEMP 0, 900)]) (fun t => t.pace.ctherm == 255 - r0.rd PAC_THCTL_TSTEP),
    decide (r0.warnT ≤ 900),
    gives .thermalCeilingUpdate (put (pc fun x => { x with ctherm := 7 }) [(PAC_TEMP_VALID 0, 1), (PAC_TEMP_TEMP 0, 100)]) (fun t => t.pace.ctherm == 7 + r0.rd PAC_THCTL_TSTEP),
    gives .mismWindow (pc fun x => { x with winTicks := 1, winEst := 4, winMeas := 5 }) (fun t => t.pace.dis == 1 && t.pace.winTicks == 0),
    gives .mismWindow (pc fun x => { x with winTicks := 1, winEst := 4, winMeas := 5, dis := 100 }) (fun t => t.pace.dis == 101 && t.rd PAC_STATUS_MISM == 1),
    gives .mismWindow (pc fun x => { x with winBad := true, dis := 3 }) (fun t => t.pace.dis == 0),
    gives .oppInstant (pc fun x => { x with opp := some (0, 3, true) }) (fun t => t.rd PAC_STATUS_OPP == 3 && t.pace.opp == none && t.rd PAC_EVT_OPPCHG == 1),
    r0.dueKeys == [] && gives .oppInstant (pc fun x => { x with opp := some (0, 3, false) }) (fun t => t.pace.opp == some (0, 3, false)),
    gives .oppSendPoint (put (pc fun x => { x with opp := some (50, 3, false) }) [(TIM_INC_HI_INC, 128)]) (fun t => t.pace.opp == some (50, 3, true) && t.bond.xBT.length == 1),
    gives .oppSendPoint (put (pc fun x => { x with opp := some (0, 3, false) }) [(TIM_INC_LO, 2 ^ 31)]) (fun t => t.pace.opp == some (0, 3, false) && t.bond.xBT == [])] : List Bool).all id) = true := by decide +kernel

theorem test_pace_tick : (let s := put { r0 with pace := { r0.pace with next := 7 :: List.replicate 15 0 } } [(PAC_DSTAT_TGT 1, 200), (PAC_DOM_USED 1, 1)]; ([
    decide (s.kclk % 3125 = 0),
    gives (.paceTick []) { s with kclk := 3 } (fun t => t == { s with kclk := 3 })] : List Bool).all id) = true := by decide +kernel

/-! ## Routing, delivery, retention -/

def msgTo (dst ty : Nat) (body : List Unit128) : RMsg := { okMsg with dst := dst, mtype := ty, body := body }
/-- A device with address 5 whose partition 0 may reach every address. -/
def routeS (f : State → State) : State := f (put r0 [(RTE_SELF_FNA, 5), (RTE_RULE_A_VALID 0, 1)])

theorem test_originated : (let hold := put (routeS id) [(RTE_STAT_HOLDALL, 1)]; ([
    (routeS id).allowed 0 5 && (routeS id).allowed 0 9 && !(routeS id).allowed 3 9,
    ((routeS id).originate { msgTo 9 1 [] with part := 3 }).2 == .denied && ((routeS id).originate { msgTo 9 1 [] with part := 3 }).1.rd (RTE_PDENY 3) == 1,
    ((put (routeS id) [(RTE_STAT_SELF, 1)]).originate (msgTo 9 1 [])).1.route.own.length == 1,
    ((routeS id).originate (msgTo 5 1 [])).2 == .ok && ((routeS id).originate (msgTo 5 1 [])).1.route.local_.length == 1,
    (hold.originate (msgTo 5 1 [])).1.route.own.length == 1 && (hold.originate (msgTo 5 1 [])).1.route.local_ == [],
    (hold.originate { msgTo 5 1 [] with vc := 6 }).1.route.local_.length == 1,
    ((routeS id).originate (msgTo 0x100009 1 [])).2 == .noRoute && ((routeS id).originate (msgTo 0x100009 1 [])).1.rd RTE_EVT_NOROUTE == 1,
    ((routeS id).originate (msgTo 9 1 [])).2 == .ok && ((routeS id).originate (msgTo 9 1 [])).1.route.pool.length == 1] : List Bool).all id) = true := by decide +kernel

/-- A link with one whole message in its receive buffer. -/
def rxS (m : RMsg) (l : List (Fld × Nat)) : State := put (routeS fun s => { s with lnk := [(2, { LinkSt.reset with rxq := [m] })] }) l

theorem test_route_messages : (let m := { msgTo 9 1 [] with src := 7, hops := 3 }; ([
    gives (.routeMessage 2 0 []) (rxS m [(RTE_STAT_HOLDALL, 1)]) (fun t => (t.lk 2).rxq == [m] && t.route.pool == []),
    gives (.routeMessage 2 0 []) (rxS { m with dst := 5 } []) (fun t => (t.lk 2).rxq == [] && t.route.local_ == [(some 2, { m with dst := 5 })]),
    gives (.routeMessage 2 0 []) (rxS { m with hops := 0 } []) (fun t => t.rd RTE_EVT_HOPX == 1 && t.route.pool == []),
    gives (.routeMessage 2 0 []) (rxS m []) (fun t => t.route.pool == [⟨some 2, { m with hops := 2 }⟩]),
    gives (.routeMessage 2 0 []) (rxS m [(RTE_FENCE_A_VALID 0, 1), (RTE_FENCE_A_FNA 0, 7)]) (fun t => t.rd RTE_EVT_FENCED == 1 && (t.lk 2).rxq == [])] : List Bool).all id) = true := by decide +kernel

theorem test_fences : (let one := put r0 [(RTE_FENCE_A_VALID 0, 1), (RTE_FENCE_A_FNA 0, 7), (RTE_FENCE_B_INC 0, 3), (RTE_FENCE_B_GEN 0, 4)]; ([
    one.fenceOf 7 == some 0 && r0.fenceOf 7 == none && findUp (fun e => !r0.on (RTE_FENCE_A_VALID e)) 512 0 == some 0,
    gives (.fence 2 7 9 4) r4 (fun t => t.rd (RTE_FENCE_A_FNA 0) == 7 && t.rd (RTE_FENCE_B_INC 0) == 9 && t.rd RTE_EVT_FENCEUP == 1),
    gives (.fence 2 7 9 5) { one with tiles := 4, links := 16 } (fun t => t.rd (RTE_FENCE_B_INC 0) == 9 && t.rd (RTE_FENCE_B_GEN 0) == 5),
    gives (.fence 2 7 9 4) one (fun t => t.rd (RTE_FENCE_B_INC 0) == 3),
    gives (.unfence 2 7 3 5) { one with tiles := 4, links := 16 } (fun t => t.rd (RTE_FENCE_A_VALID 0) == 0),
    gives (.unfence 2 7 3 5) r0 (fun t => t.rd (RTE_FENCE_A_VALID 0) == 0),
    gives (.unfence 2 7 3 32772) one (fun t => t.rd (RTE_FENCE_A_VALID 0) == 1)] : List Bool).all id) = true := by decide +kernel

theorem test_noroute : (let m := { msgTo 9 2 [] with src := 7 }; let p := fun (s : State) (m : RMsg) => { s with route := { s.route with pool := [⟨some 2, m⟩] } }; let u := put (routeS id) [(LNK_STATUS_STATE 2, 5), (LNK_RSTAT_DSTATE 2, 0), (RTE_MESH_LO 0, 4), (RTE_MESH_LO 1, 4), (RTE_MESH_LO 2, 4), (RTE_MESH_LO 3, 4)]; ([
    gives (.norouteTimeout m) (p u m) (fun t => u.select m != .wait && u.select m != .none_ && t == p u m),
    gives (.norouteTimeout { m with dst := 0x100009 }) (p (routeS id) { m with dst := 0x100009 }) (fun t => (routeS id).select { m with dst := 0x100009 } == .none_ && t.route.pool == []),
    gives (.norouteTimeout m) (p (routeS id) m) (fun t => (routeS id).select m == .wait && t.route.pool == [])] : List Bool).all id) = true := by decide +kernel

/-- A message of a type at this device's functions. -/
def dm (ty seq cause : Nat) : RMsg := { msgTo 5 ty [BitVec.ofNat 128 (pack [(0, 32, seq), (32, 8, cause)])] with src := 7, flow := 6 }
def localS (m : RMsg) (l : List (Fld × Nat)) : State := put (routeS fun s => { s with route := { s.route with local_ := [(some 2, m)] } }) l
/-- A tile of one byte with its check. -/
def tileM (seq use usearg : Nat) : RMsg :=
  let t : SrcTile := { dst := 5, flow := 6, part := 0, len := 1, use := use, usearg := usearg, user := 0, data := [9], tseq := seq, tchk := 0 }
  { tileMsg { t with tchk := tileCheck 7 t } with src := 7 }

theorem test_tiles : (let bad := { tileM 1 0 2 with body := (tileM 1 0 2).body.take 2 }; ([
    (tileM 1 0 2).mtype == 1 && dmSeq (tileM 4 0 2) == 4 && tileGood (tileM 1 0 2) && !tileGood bad && (spellTileMsg (tileM 1 0 2)).usearg == 2,
    gives (.tile (tileM 2 0 2)) (localS (tileM 2 0 2) []) (fun t => t.route.local_ == [] && t.rd DLV_EVT_CHKFAIL == 0),
    gives (.tile bad) (localS bad []) (fun t => t.rd DLV_EVT_CHKFAIL == 1),
    gives (.tile (tileM 1 1 0)) (localS (tileM 1 1 0) []) (fun t => t.dlv.tdeliv == [tileM 1 1 0]),
    gives (.tile (tileM 1 0 2)) (localS (tileM 1 0 2) []) (fun t => (localS (tileM 1 0 2) []).streamFree 2 && t.rd (DLV_DLOG_A_SRC 0) == 7 && t.rd (DLV_DLOG_B_LAST 0) == 1),
    gives (.tile (tileM 1 2 0)) (localS (tileM 1 2 0) []) (fun t => t.blend.offered == [.net (tileM 1 2 0)])] : List Bool).all id) = true := by decide +kernel

/-- A state whose log is full: every entry is of source 1. -/
def fullLog : Sparse Word := (List.range 4096).map fun e => (0x10100004 + 0x20 * e, 1)

theorem fullLog_get (l : Sparse Word) (k : Nat) (h : ∀ x ∈ l, x.2 = 1) (hk : ∃ x ∈ l, x.1 = k) : Sparse.get regReset l k = 1 := by
  induction l with
  | nil => simp at hk
  | cons x l ih =>
    obtain ⟨j, v⟩ := x
    by_cases hj : j = k
    · simpa [Sparse.get, hj] using h _ (List.mem_cons_self)
    · obtain ⟨y, hy, hyk⟩ := hk
      have : y ∈ l := by rcases List.mem_cons.1 hy with rfl | hy; exact absurd hyk hj; exact hy
      simpa [Sparse.get, hj] using ih (fun x hx => h x (List.mem_cons_of_mem _ hx)) ⟨y, this, hyk⟩

theorem fullLog_entry (e : Nat) (he : e < 4096) : Sparse.get regReset fullLog (DLV_DLOG_A_SRC e).key = 1 :=
  fullLog_get _ _ (by simp [fullLog]) ⟨(0x10100004 + 0x20 * e, 1), List.mem_map.2 ⟨e, List.mem_range.2 he, rfl⟩, by simp [DLV_DLOG_A_SRC, dlogKey]; omega⟩

/-- With a full log no entry is free, and a flow of another source has none. -/
theorem test_log_full : let s := { localS (tileM 1 0 2) [] with regs := fullLog }; s.freeEntry = none ∧ s.entryOf 7 6 = none := by
  have mem : ∀ (s : State), s.regs = fullLog → ∀ e, e ∈ s.logEntries ↔ e < 4096 := by
    intro s h e
    simp only [State.logEntries, h, fullLog, List.mem_eraseDups, List.mem_filterMap, List.mem_map, List.mem_range]
    constructor
    · rintro ⟨x, ⟨i, hi, rfl⟩, hx⟩
      split at hx
      · simp only [Option.some.injEq] at hx; omega
      · cases hx
    · intro he
      refine ⟨_, ⟨e, he, rfl⟩, ?_⟩
      rw [if_pos ⟨by omega, by omega, Or.inl (by omega), show (1 : Word) ≠ 0 by decide⟩]
      congr 1; omega
  have none_ : ∀ (p : Nat → Bool) (n i : Nat), (∀ j, i ≤ j → j < i + n → p j = false) → findUp p n i = none := by
    intro p n
    induction n with
    | zero => intro i _; rfl
    | succ n ih => intro i h; simp only [findUp, h i (by omega) (by omega)]; exact ih (i + 1) fun j a b => h j (by omega) (by omega)
  refine ⟨none_ _ _ _ fun j _ hj => ?_, ?_⟩
  · simpa using (mem _ rfl j).2 (by omega)
  · refine List.find?_eq_none.2 fun e he => ?_
    have := fullLog_entry e ((mem _ rfl e).1 he)
    have w : State.word { localS (tileM 1 0 2) [] with regs := fullLog } (DLV_DLOG_A_SRC e).key = 1 := this
    simp [State.rd, w, bits, show (DLV_DLOG_A_SRC e).lo = 0 from rfl, show (DLV_DLOG_A_SRC e).w = 20 from rfl]

/-- The destination's log holds the flow up to tile 3. -/
def logS (m : RMsg) (l : List (Fld × Nat)) : State := localS m ([(DLV_DLOG_A_SRC 0, 7), (DLV_DLOG_A_FLOW 0, 6), (DLV_DLOG_B_LAST 0, 3)] ++ l)

theorem test_log_entries : (([
    (logS (dm 4 0 0) []).entryOf 7 6 == some 0 && (localS (dm 4 0 0) []).entryOf 7 6 == none,
    gives (.tile (tileM 3 0 2)) (logS (tileM 3 0 2) []) (fun t => t.rd DLV_EVT_DUP == 1 && t.rd (DLV_DLOG_B_LAST 0) == 3),
    gives (.tdelivDone (tileM 4 1 0)) { (logS (dm 4 0 0) []) with dlv := { r0.dlv with tdeliv := [tileM 4 1 0] } } (fun t => t.dlv.tdeliv == [] && t.rd (DLV_DLOG_B_LAST 0) == 4 && (t.df 0).sinceTack == 1),
    gives (.sync (dm 4 0 0)) (localS (dm 4 0 0) []) (fun t => t.route.local_ == []),
    gives (.broken (dm 6 0 0)) (localS (dm 6 0 0) []) (fun t => t.route.local_ == []),
    gives (.close (dm 8 0 0)) (localS (dm 8 0 0) []) (fun t => t.route.local_ == []),
    gives (.sync (dm 4 0 0)) (logS (dm 4 0 0) []) (fun t => t.route.local_ == [] && (t.df 0).part == some 0),
    gives (.broken (dm 6 0 0)) (logS (dm 6 0 0) []) (fun t => t.rd (DLV_DLOG_B_BROKEN 0) == 1),
    gives (.close (dm 8 0 0)) (logS (dm 8 0 0) []) (fun t => t.rd (DLV_DLOG_A_SRC 0) == 0 && t.rd (DLV_DLOG_B_LAST 0) == 0),
    gives (.tackTimer 7 6) ((logS (dm 4 0 0) []).setDf 0 { DstFlow.reset with part := some 0, sinceTack := 2 }) (fun t => (t.df 0).sinceTack == 0)] : List Bool).all id) = true := by decide +kernel

/-- Flow 6 is open to device 7 with tiles up to 4 sent and up to 2 acknowledged. -/
def flowS (m : RMsg) (st : Nat) (x : SrcFlow) : State := (localS m [(DLV_SFLOW_STATE 6, st), (DLV_SFLOW_DST 6, 7), (DLV_SNEXT 6, 5), (DLV_SACKED 6, 2)]).setSf 6 x

theorem test_source_flows : (let q := SrcFlow.reset; ([
    (flowS (dm 2 4 0) 1 q).flowFor (dm 2 4 0) == some 6 && (localS (dm 2 4 0) []).flowFor (dm 2 4 0) == none,
    gives (.tack (dm 2 4 0)) (flowS (dm 2 4 0) 1 q) (fun t => t.rd (DLV_SACKED 6) == 4),
    gives (.tack (dm 2 1 0)) (flowS (dm 2 1 0) 1 q) (fun t => t.rd (DLV_SACKED 6) == 2),
    gives (.tack (dm 2 9 0)) (flowS (dm 2 9 0) 1 q) (fun t => t.rd (DLV_SACKED 6) == 9),
    gives (.tnak (dm 3 3 3)) (flowS (dm 3 3 3) 1 q) (fun t => t.fst 6 == 1),
    gives (.tnak (dm 3 3 4)) (flowS (dm 3 3 4) 1 q) (fun t => t.fst 6 == 3),
    gives (.syncRsp (dm 5 3 0)) (flowS (dm 5 3 0) 1 { q with syncing := true }) (fun t => !(t.sf 6).syncing && t.rd (DLV_SACKED 6) == 3),
    gives (.brack { dm 7 3 0 with body := [BitVec.ofNat 128 (3 + 2 ^ 40)] }) (flowS { dm 7 3 0 with body := [BitVec.ofNat 128 (3 + 2 ^ 40)] } 3 { q with awaitBrack := true }) (fun t => !(t.sf 6).awaitBrack && t.fst 6 == 3 && t.rd (DLV_SCMD_EXACT 6) == 1),
    gives (.broken { dm 6 4 0 with body := [BitVec.ofNat 128 (4 + 2 ^ 40)] }) (flowS { dm 6 4 0 with body := [BitVec.ofNat 128 (4 + 2 ^ 40)] } 1 q) (fun t => t.fst 6 == 3 && t.rd (DLV_SBOUND 6) == 4 && t.rd DLV_EVT_BROKEN == 1),
    gives (.closeAck (dm 9 0 0)) (flowS (dm 9 0 0) 2 { q with closeSent := true }) (fun t => t.fst 6 == 0),
    gives (.closeAck (dm 9 0 0)) (flowS (dm 9 0 0) 3 q) (fun t => t.fst 6 == 0),
    gives (.closeAck (dm 9 0 0)) (flowS (dm 9 0 0) 1 q) (fun t => t.fst 6 == 1),
    gives (.closeAck (dm 9 0 0)) (localS (dm 9 0 0) []) (fun t => t.route.local_ == [])] : List Bool).all id) = true := by decide +kernel

theorem test_flow_timers : (let q := SrcFlow.reset; let s := fun (x : SrcFlow) => flowS (dm 2 4 0) 1 x; ([
    gives (.flowTimerExpiry 6) (s q) (fun t => (t.sf 6).expiries == 1 && t.fst 6 == 1),
    decide (1 < (s q).emax),
    gives (.flowTimerExpiry 6) (let v := s { q with expiries := (s q).emax - 1 }; { v with dlv := { v.dlv with synced := true } }) (fun t => t.fst 6 == 3 && t.rd (DLV_SBOUND 6) == 3),
    gives (.flowTimerExpiry 6) (s { q with expiries := (s q).emax - 1 }) (fun t => t.fst 6 == 3 && t.rd (DLV_SBOUND 6) == 1),
    gives (.flowTimerExpiry 4095) r0 (fun t => t == r0),
    gives (.brokenRepeatTimer 6) (flowS (dm 2 4 0) 3 { q with awaitBrack := true }) (fun t => (t.sf 6).brokenTries == 1),
    gives (.syncTimeout 6) (s { q with syncing := true }) (fun t => t.fst 6 == 3 && t.rd DLV_EVT_BROKEN == 1)] : List Bool).all id) = true := by decide +kernel

/-- The tile source is ready, with two blocks, and a tile of flow 6 waits on channel 3. -/
def retS (t : Tile) (f : DlvSt → DlvSt) : State := put { (routeS id) with xing := { r0.xing with fromT := [(3, t)] }, dlv := f r0.dlv } [(DLV_STATUS_RET, 2), (DLV_RSIZE_BLOCKS, 2)]
def tile6 : Tile := ⟨BitVec.ofNat 128 (pack [(0, 24, 7), (24, 12, 6), (44, 13, 1)]), [7]⟩

theorem test_retention : (let s := retS tile6 id; let rq := fun (u : RetUse) (w : Bool) => retS tile6 fun x => { x with ret := [⟨4, u, w, 0, 64, []⟩], blocks := [(1, ⟨.writing, 6, 1, none, none⟩)] }; ([
    !s.held && !s.refusesTile (spellIngress tile6) && s.freeBlockNo == some 0 && !s.windowFull 6,
    gives (.tileSourceTake 3) s (fun t => t.xing.fromT == [] && t.rd (DLV_SNEXT 6) == 2 && t.fst 6 == 1 && (t.block 0).isSome),
    gives (.tileSourceTake 3) (put s [(DLV_RSIZE_BLOCKS, 0)]) (fun t => t.xing.fromT == [] && t.fst 6 == 1 && t.dlv.taken.length == 1),
    gives (.tileSourceTake 3) (retS ⟨0, []⟩ id) (fun t => t.xing.fromT == [] && t.rd DLV_EVT_REFUSE == 1),
    gives (.tileSourceTake 3) (put s [(DLV_STATUS_RET, 3)]) (fun t => t.xing.fromT.length == 1),
    gives (.wdone 4) (rq (.free 1) true) (fun t => t.dlv.ret == [] && t.block 1 == none),
    gives (.wdone 4) (rq (.tile 1) true) (fun t => (t.block 1).map (·.st) == some .accepted),
    gives (.rerr 4) (rq (.tile 1) true) (fun t => t.rd DLV_STATUS_RET == 3 && t.rd DLV_EVT_RETERR == 1 && t.dlv.redo.length == 1 && t.dlv.ret == []),
    gives (.rdata 4 []) (rq .header false) (fun t => t.rd DLV_EVT_RETLOST == 1 && t.dlv.lost && t.dlv.blocks == []),
    (let h := rq .header false; gives (.rdata 4 ((bytesOf 4 0x52544B31 ++ bytesOf 2 9).map (BitVec.ofNat 8))) { h with hdr := { h.hdr with anchor := true, finc := 9, rbase := h.retBase, rsize := h.retSize / 2 ^ 20 } }
      (fun t => t.rd DLV_RINC_FINC == 9 && !t.dlv.lost && t.dlv.ret.map (·.use) == [.descriptor 0])),
    (let l := rq (.logRead 8 5) false; gives (.rdata 4 ((bytesOf 4 5 ++ [1, 2]).map (BitVec.ofNat 8))) { l with mgmt := { l.mgmt with wait := some ⟨8, 9⟩ } }
      (fun t => t.mgmt.wait == none && t.mgmt.out == [{ eid := 8, cmd := 9, code := some 0, body := bytesOf 4 5 ++ [1, 2] }])),
    gives .retentionRetryTimer (retS tile6 fun x => { x with redo := [⟨4, .tile 1, true, 0, 64, []⟩], blocks := [(1, ⟨.writing, 6, 1, none, none⟩)] }) (fun t => t.dlv.redo == [] && t.dlv.ret.length == 1),
    gives .retentionRebuild (put r0 [(IMG_BOOT_READY, 1)]) (fun t => t.rd DLV_STATUS_RET == 1 && t.dlv.ret.length == 1)] : List Bool).all id) = true := by decide +kernel

def mq (ty : Nat) (retry : Bool) : RMsg := { msgTo 5 0x10 [BitVec.ofNat 128 (pack [(0, 16, 3), (16, 1, b2n retry)]), BitVec.ofNat 128 (pack [(0, 8, ty), (32, 46, 33)]), 0, 0, 0, 0] with src := 7 }
def mr (ty : Nat) : RMsg := { msgTo 5 0x11 [3, BitVec.ofNat 128 (pack [(0, 8, ty)])] with src := 7 }
def homeQ (tries : Nat) : HomeReq := ⟨some 7, 0, 3, tries, .client 9 0, mkMsg [(0, 8, 0x11), (32, 46, 33)]⟩

theorem test_remote_requests : (([
    gives (.mreq (mq 0x30 false)) (localS (mq 0x30 false) []) (fun t => t.route.local_ == []),
    gives (.mreq (mq 0x11 false)) (localS (mq 0x11 false) []) (fun t => t.dlv.cache.length == 1 && t.rd DLV_RSPC_USED == 1),
    gives (.mrsp (mr 0x19)) (localS (mr 0x19) []) (fun t => t.route.local_ == []),
    gives (.mrsp (mr 0x19)) { (localS (mr 0x19) []) with xing := { r0.xing with homes := [homeQ 0] } } (fun t => t.xing.homes == [] && t.bond.xBT == [.msg 0 (mkAns 0x19 1 9 0 [])]),
    gives (.requestTimerExpiry 3) { (routeS id) with xing := { r0.xing with homes := [homeQ 0] } } (fun t => t.xing.homes == [homeQ 1] && t.route.pool.length == 1),
    gives (.requestTimerExpiry 4) { r0 with xing := { r0.xing with homes := [homeQ 15] } } (fun t => t.xing.homes.length == 1),
    gives (.requestTimerExpiry 3) { r0 with xing := { r0.xing with homes := [homeQ 15] } } (fun t => t.xing.homes == [] && t.rd DLV_EVT_REQFAIL == 1),
    decide (0 < r0.rd DLV_RCTL_RRMAX) && decide (r0.rd DLV_RCTL_RRMAX ≤ 15),
    gives (.responseHoldExpiry 7 1 3) (put { r0 with dlv := { r0.dlv with cache := [⟨7, 1, 3, 0, some ⟨0, []⟩⟩] } } [(DLV_RSPC_USED, 1)]) (fun t => t.dlv.cache == [] && t.rd DLV_RSPC_USED == 0)] : List Bool).all id) = true := by decide +kernel

/-! ## Pour and Blend -/

/-- An entry with one trigger, a barrier and a hint, armed for the instant 0. -/
def sched0 : Sched := ⟨0, 0, 0, 0, 0, 0, 0x1F, 0, 0, 0, 0, 255, 1, 5, 0⟩
def armed0 : PArmed := ⟨16383, sched0, 0, false, [], none⟩
def slot0 : PSlot := ⟨0, sched0, [⟨0, 0, false, none, none⟩], false, false⟩
/-- Time runs, and Pour holds one armed entry. -/
def pourS (a : PArmed) (l : List (Fld × Nat)) : State := put { r0 with kclk := 1000, pour := { r0.pour with armed := [a] } } ([(TIM_STATUS_STATE, 2), (TIM_INC_LO, 2 ^ 31), (POR_CTL_EN, 1)] ++ l)

theorem test_pour : (let s := pourS armed0 []; let t0 := pourS { armed0 with slot := some slot0 } []; let t1 := pourS { armed0 with base := 1, slot := some { slot0 with trigs := [⟨0, 1, false, none, none⟩] } } [(TIM_INC_LO, 0), (TIM_INC_HI_INC, 2)]; ([
    s.windowOpen armed0 && sched0.trig && sched0.bar && sched0.hint && decide (sched0.groups = 1) && s.reached 0 && s.hintDue sched0 0,
    s.kOf 0 == some 1000 && s.wordErr 1 0 == 0,
    gives (.pageIn 16383 []) s (fun t => t.dlv.ret.length == 1 && (t.armedAt 16383).map (·.paging) == some true),
    gives (.pageIn 16382 []) s (fun t => t == s),
    gives (.pageIn 16383 []) { s with pour := { s.pour with armed := [{ armed0 with entry := 4 }, armed0] } } (fun t => t.dlv.ret == [] && (t.armedAt 16383).map (·.paging) == some false),
    gives (.pageIn 16383 []) { s with pour := { s.pour with armed := armed0 :: List.replicate 1024 { armed0 with entry := 4, slot := some slot0 } } } (fun t => t.rd POR_EVT_SLOTFULL == 1 && t.pour.waiting == [16383]),
    gives (.trigSendPoint 16383 0) s (fun t => t.rd POR_EVT_MISSED == 1 && (t.armedAt 16383).map (·.gone) == some [0]),
    gives (.trigSendPoint 16383 1) s (fun t => t == s),
    gives (.trigSendPoint 16383 0) { t1 with hold := true } (fun t => t.rd POR_EVT_HELD == 1),
    ((placeAll (t1.kclk + t1.lead) 16383 0 t1.pour.sent t1.toPlace).map fun x => (x.1, x.2.1)) == some (t1.kclk + t1.lead, false),
    gives (.trigSendPoint 16383 0) t1 (fun t => t.rd POR_TRIG_CNT == 1 && t.bond.xBT.length == 1),
    gives (.barrierInstant 16383) t0 (fun t => t.rd (POR_BAR 255) == 0 && t.rd POR_EVT_BAR == 1),
    gives (.barrierInstant 16383) (pourS { armed0 with slot := some { slot0 with barDone := true } } []) (fun t => t.rd POR_EVT_BAR == 0),
    gives (.hintTime 16383) t0 (fun t => t.rd POR_HINT_CNT == 1 && ((t.armedAt 16383).bind (·.slot)).map (·.hintDone) == some true)] : List Bool).all id) = true := by decide +kernel

/-- Descriptor 255 of INT8 sums (narrow), one position, one tile expected. -/
def rdS (st : Nat) (f : BlendSt → BlendSt) (l : List (Fld × Nat)) : State :=
  put { r0 with blend := f r0.blend } ([(BLD_RD_CFG_IFMT 255, 8), (BLD_RD_CFG_OFMT 255, 8), (BLD_RD_CFG_ACC 255, 1), (BLD_RD_COUNT_COUNT 255, 1), (BLD_RD_EXPECT 255, 1), (BLD_RD_CFG_STATE 255, st)] ++ l)
def offer0 : BOffer := .cvt 0 255 0 0 [7]
def emit0 (clear free : Bool) : BEmit := ⟨⟨4, 255, none, 0, 1, 0, clear, free, false⟩, 3, false⟩

theorem test_blend : (let s := rdS 2 (fun b => { b with offered := [offer0] }) []; ([
    s.dst 255 == 2 && s.offerOk offer0 && elems 8 [7] == [(7, 127)],
    gives (.initDone 255) (rdS 1 id []) (fun t => t.dst 255 == 2),
    gives (.initDone 256) (rdS 1 id []) (fun t => t.dst 255 == 1),
    gives (.blendTake []) (put s [(BLD_RD_EXPECT 255, 2)]) (fun t => t.dst 255 == 2),
    gives (.blendTwaitExpiry 0) (rdS 0 (fun b => { b with offered := [offer0] }) []) (fun t => t.rd BLD_EVT_BADTILE == 1 && t.blend.offered == [] && t.rd BLD_TILE_CNT == 1),
    gives (.blendTwaitExpiry 1) s (fun t => t == s),
    gives (.emissionDone 255) (rdS 4 (fun b => { b with emits := [emit0 false true] }) []) (fun t => t.dst 255 == 0 && t.blend.emits == []),
    gives (.emissionDone 255) (rdS 4 (fun b => { b with emits := [emit0 true false] }) []) (fun t => t.dst 255 == 1),
    gives (.emissionDone 255) (rdS 4 (fun b => { b with emits := [emit0 true false] }) [(BLD_STATUS_HOLD, 1)]) (fun t => t.dst 255 == 4 && t.blend.emits.length == 1),
    (let x := { emit0 true false with cmd := { (emit0 true false).cmd with op := 5 } }; gives (.emissionDone 255) (rdS 4 (fun b => { b with emits := [x], offered := [.cvt 255 0 0 0 [7]] }) []) (fun t => t.dst 255 == 4 && t.blend.emits == [x])),
    gives (.emissionDone 255) (rdS 4 (fun b => { b with emits := [emit0 false false] }) []) (fun t => t.dst 255 == 3),
    gives (.shadowMismatch 63 1 true) (put r0 [(BLD_CTL_SHEN, 1)]) (fun t => t.rd BLD_EVT_SHTRANS == 1),
    gives (.shadowMismatch 63 1 false) (put r0 [(BLD_CTL_SHEN, 1)]) (fun t => t.rd BLD_STATUS_HOLD == 1 && t.blend.held.isSome),
    gives (.katVerdict true false) (rdS 0 (fun b => { b with held := some (63, 31, false) }) [(BLD_STATUS_HOLD, 1)]) (fun t => t.rd BLD_STATUS_HOLD == 0 && t.rd (BLD_LSPR_SPOUT 63) == 1 && t.blend.held == none),
    gives (.katVerdict true true) (rdS 0 (fun b => { b with held := some (63, 31, false) }) [(BLD_STATUS_HOLD, 1)]) (fun t => bitAt (t.rd (BLD_LRET 63)) 31 && t.rd (BLD_LSPR_SPL 63) == 31 && t.rd BLD_EVT_LRETIRE == 1)] : List Bool).all id) = true := by decide +kernel

/-! ## Programs -/

/-- Program 1, of partition 2, runs at word 3 of the store, which holds the instruction. -/
def progS (w : Nat) (l : List (Fld × Nat)) : State :=
  put { r0 with prog := [(1, { ProgX.reset with live := true, ctx := some 0 })] } ([(PRG_LO 3, w % 2 ^ 32), (PRG_HI 3, w / 2 ^ 32), (BLD_PRG_A_START 1, 3), (BLD_PRG_A_PART 1, 2), (BLD_PRG_B_LEN 1, 1),
    (BLD_PRG_B_STATE 1, 2), (BLD_PINFO_PC 1, 3), (BLD_CTX_VALID 0, 1), (BLD_CTX_PROG 0, 1)] ++ l)

/-- An instruction word: opcode, D, A, B and the immediate (R329). -/
def iw (opc d a b imm : Nat) : Nat := opc * 2 ^ 56 + d * 2 ^ 52 + a * 2 ^ 48 + b * 2 ^ 44 + imm

/-- G[i] of program 1. -/
def g1 (i v : Nat) : List (Fld × Nat) := [(BLD_PG_LO 1 i, v % 2 ^ 32), (BLD_PG_HI 1 i, v / 2 ^ 32)]

theorem test_runs : Runs (progS (iw 0 0 0 0 0) []) 1 (iw 0 0 0 0 0) 0 := by unfold Runs; decide +kernel

theorem test_is_instruction : isInstr 1 (.sig 1) 0x42 ∧ isInstr 1 (.nop 1) 0 := by unfold isInstr; simp

theorem test_fetch : (([
    gives (.nop 1) (put (progS 0 []) [(BLD_PRG_B_STATE 1, 3)]) (fun t => t.rd (BLD_PINFO_PC 1) == 3),
    gives (.nop 1) (put (progS 0 []) [(BLD_PINFO_PC 1, 4)]) (fun t => t.pst 1 == 5 && t.rd (BLD_PINFO_FAULT 1) == 2 && t.rd BLD_PEVT_PFAULT == 1),
    gives (.nop 1) ((progS 0 []).setEcc 2 3 2) (fun t => t.pst 1 == 5 && t.rd (BLD_PINFO_FAULT 1) == 4),
    gives (.nop 1) (progS (iw 9 0 0 0 0) []) (fun t => t.pst 1 == 5 && t.rd (BLD_PINFO_FAULT 1) == 1),
    gives (.nop 1) (progS (iw 1 0 0 0 0) []) (fun t => t == progS (iw 1 0 0 0 0) [])] : List Bool).all id) = true := by decide +kernel

theorem test_control : (([
    gives (.nop 1) (progS 0 []) (fun t => t.rd (BLD_PINFO_PC 1) == 4 && t.pst 1 == 2),
    gives (.endProg 1) (progS (iw 1 0 0 0 0) []) (fun t => t.pst 1 == 4 && t.rd BLD_PEVT_PDONE == 1 && (t.px 1).ctx == none),
    gives (.jmp 1) (progS (iw 2 0 0 0 9) []) (fun t => t.rd (BLD_PINFO_PC 1) == 9),
    gives (.bnz 1) (progS (iw 3 0 5 0 9) (g1 5 1)) (fun t => t.rd (BLD_PINFO_PC 1) == 9),
    gives (.bnz 1) (progS (iw 3 0 5 0 9) []) (fun t => t.rd (BLD_PINFO_PC 1) == 4),
    gives (.loop 1) (progS (iw 4 0 5 0 9) (g1 5 1)) (fun t => t.rd (BLD_PINFO_PC 1) == 4 && t.gReg 1 5 == 0),
    gives (.loop 1) (progS (iw 4 0 5 0 9) []) (fun t => t.rd (BLD_PINFO_PC 1) == 9 && t.gReg 1 5 == 2 ^ 64 - 1),
    gives (.ldi 1) (progS (iw 5 15 0 0 (2 ^ 44 - 1)) []) (fun t => t.gReg 1 15 == 2 ^ 64 - 1),
    gives (.addi 1) (progS (iw 6 15 15 0 (2 ^ 44 - 1)) (g1 15 (2 ^ 40))) (fun t => t.gReg 1 15 == 2 ^ 40 - 1),
    gives (.alu 1) (progS (iw 7 1 2 3 1) (g1 2 1 ++ g1 3 2)) (fun t => t.gReg 1 1 == 2 ^ 64 - 1),
    gives (.alu 1) (progS (iw 7 1 2 3 5) (g1 2 3 ++ g1 3 63)) (fun t => t.gReg 1 1 == 2 ^ 63),
    gives (.alu 1) (progS (iw 7 1 2 3 7) []) (fun t => t.pst 1 == 5 && t.rd (BLD_PINFO_FAULT 1) == 1),
    gives (.gett 1) (progS (iw 8 1 0 0 0) [(TIM_CYC_LO, 3), (TIM_ANGLE_ANGLE, 7)]) (fun t => t.gReg 1 1 == 3 * 65536 + 7)] : List Bool).all id) = true := by decide +kernel

theorem test_waits : (([
    gives (.waita 1) (progS (iw 0x10 0 0 0 0) []) (fun t => t.pst 1 == 2 && t.rd (BLD_PINFO_PC 1) == 4),
    gives (.waita 1) (progS (iw 0x10 0 0 0 0x10000) []) (fun t => t.pst 1 == 3 && t.rd (BLD_PINFO_WAIT 1) == 1 && (t.px 1).inst == 0x10000),
    gives (.join 1) (progS (iw 0x11 4 0 0 255) []) (fun t => t.pst 1 == 3 && t.rd (BLD_PINFO_WAIT 1) == 2 && (t.px 1).obj == 255 && (t.px 1).d == 4 && (t.px 1).ctx == none),
    gives (.dln 1) (progS (iw 0x12 0 0 0 77) []) (fun t => t.deadline 1 == 77 && t.rd (BLD_PINFO_DLV 1) == 1),
    gives (.nodl 1) (progS (iw 0x13 0 0 0 0) [(BLD_PINFO_DLV 1, 1)]) (fun t => t.rd (BLD_PINFO_DLV 1) == 0 && t.rd (BLD_PINFO_PC 1) == 4),
    gives (.raln 1) (progS (iw 0x14 6 0 0 (9 * 256 + 5)) []) (fun t => t.rd (BLD_PINFO_RLV 1) == 1 && t.rd (BLD_PINFO_RBAR 1) == 5 && t.rd (BLD_PRLN_TARGET 1) == 9 && t.rd (BLD_PRLN_REG 1) == 6),
    gives (.raln 1) (progS (iw 0x14 6 0 0 (2 ^ 24)) [(BLD_PINFO_RLV 1, 1)]) (fun t => t.rd (BLD_PINFO_RLV 1) == 0),
    gives (.wtac 1) (progS (iw 0x31 6 0 0 0) []) (fun t => t.gReg 1 6 == 0 && t.pst 1 == 2),
    gives (.wtac 1) { (progS (iw 0x31 6 0 0 0) []) with dlv := { r0.dlv with waiting := [(.prog 1, ⟨0, 0, 0, 0, 0, 0, 0, [], 0, 0⟩)] } } (fun t => t.pst 1 == 3 && t.rd (BLD_PINFO_WAIT 1) == 7)] : List Bool).all id) = true := by decide +kernel

/-- Program 1 waits, or is ready. -/
def progW (st wait : Nat) (x : ProgX) (l : List (Fld × Nat)) : State := put { (progS 0 []) with prog := [(1, x)] } ([(BLD_PRG_B_STATE 1, st), (BLD_PINFO_WAIT 1, wait)] ++ l)

theorem test_contexts : (([
    gives (.contextLoad []) (put (progW 1 8 { ProgX.reset with live := true } []) [(BLD_CTX_VALID 0, 0)]) (fun t => (t.px 1).ctx == some 0 && t.rd (BLD_CTX_VALID 0) == 1 && t.rd (BLD_CTX_PROG 0) == 1 && t.pst 1 == 2),
    gives (.quantumExpiry 1) (progS 0 []) (fun t => t.pst 1 == 2),
    r0.dueKeys == [] && r0.pace.opp == none,
    gives (.contextLoad []) (progS 0 []) (fun t => t == progS 0 []),
    gives (.programWake 1) (progW 3 1 { ProgX.reset with live := true, ctx := some 0 } []) (fun t => t.pst 1 == 2),
    gives (.programWake 1) (progW 3 1 { ProgX.reset with live := true } []) (fun t => t.pst 1 == 1),
    gives (.deadlineMiss 1) (progW 3 3 { ProgX.reset with live := true } [(BLD_PINFO_DLV 1, 1), (BLD_PINFO_RLV 1, 1), (BLD_PINFO_RBAR 1, 9)]) (fun t => t.rd BLD_PEVT_DLMISS == 1 && t.rd (BLD_PINFO_WAIT 1) == 9 && (t.px 1).obj == 9),
    gives (.deadlineMiss 1) (progW 3 3 { ProgX.reset with live := true } [(BLD_PINFO_DLV 1, 1)]) (fun t => t.rd (BLD_PINFO_DLV 1) == 0 && t.rd (BLD_PINFO_WAIT 1) == 3)] : List Bool).all id) = true := by decide +kernel

/-- Every context is taken, program 1 has used up its quantum, and program 2 is ready. -/
def busyS : State :=
  let s := progS 0 ((BLD_PRG_A_VALID 2, 1) :: (BLD_PRG_B_STATE 2, 1) :: (List.range 255).map fun c => (BLD_CTX_VALID (c + 1), 1))
  { s with prog := [(1, { s.px 1 with issued := 16 * max 1 (s.rd BLD_PCTL_QNT) }), (2, { ProgX.reset with live := true })] }

theorem test_quantum : (([
    gives (.quantumExpiry 1) busyS (fun t => t.pst 1 == 1 && (t.px 1).ctx == none),
    gives (.contextLoad []) busyS (fun t => t == busyS)] : List Bool).all id) = true := by decide +kernel

/-- Descriptor 7 of the program's partition, in a state. -/
def d7 (st : Nat) : List (Fld × Nat) := [(BLD_RD_CFG_PART 7, 2), (BLD_RD_CFG_STATE 7, st)]

theorem test_units : (([
    gives (.rdcfg 1) (progS (iw 0x20 0 4 0 (7 + 256)) (d7 0 ++ g1 4 (2 ^ 18 + 5))) (fun t => t.rd (BLD_RD_BASE_BASE 7) == 5 && t.rd (BLD_PINFO_PC 1) == 4),
    gives (.rdcfg 1) (progS (iw 0x20 0 4 4 (2 ^ 23 + 3 + 256)) (d7 0 ++ g1 4 (2 ^ 8 + 4))) (fun t => t.rd (BLD_RD_BASE_BASE 7) == 2 ^ 8 + 4),
    gives (.rdcfg 1) (progS (iw 0x20 0 4 0 (7 + 256 * 6)) (d7 0)) (fun t => t.rd (BLD_PINFO_FAULT 1) == 1 && t.pst 1 == 5),
    gives (.rdcfg 1) (progS (iw 0x20 0 4 0 (8 + 256)) (d7 0)) (fun t => t.rd (BLD_PINFO_FAULT 1) == 3 && t.pst 1 == 5),
    (cfgKeys 7 1).all (fun k => !(progS (iw 0x20 0 4 0 (7 + 256)) (d7 0)).outranked k 1),
    gives (.rdcfg 1) (progS (iw 0x20 0 4 0 7) (d7 0 ++ g1 4 (2 + 3 * 4096 + 8 * 65536))) (fun t => t.rd (BLD_RD_CFG_PART 7) == 2 && t.rd (BLD_RD_CFG_OP 7) == 3 && t.rd (BLD_RD_CFG_IFMT 7) == 8 && t.dst 7 == 0),
    gives (.rdcfg 1) (progS (iw 0x20 0 4 0 (7 + 256 * 2)) (d7 0 ++ g1 4 (2 ^ 18 + 5))) (fun t => t.rd (BLD_RD_COUNT_COUNT 7) == 5),
    gives (.rdcfg 1) (progS (iw 0x20 0 4 0 (7 + 256 * 3)) (d7 0 ++ g1 4 (2 ^ 32 + 5))) (fun t => t.rd (BLD_RD_EXPECT 7) == 5),
    gives (.rdcfg 1) (progS (iw 0x20 0 4 0 (7 + 256 * 4)) (d7 0 ++ g1 4 (2 ^ 32 + 5))) (fun t => t.rd (BLD_RD_SEED 7) == 5),
    gives (.rdcfg 1) (progS (iw 0x20 0 4 0 (7 + 256)) (d7 2)) (fun t => t.rd BLD_EVT_DREJ == 1 && t.dst 7 == 2),
    gives (.rdcfg 1) (progS (iw 0x20 0 4 0 (7 + 256 * 5)) (d7 0 ++ g1 4 (2 ^ 40 + 5))) (fun t => t.rd (BLD_RD_SCYC_LO 7) == 5 && t.rd (BLD_RD_SCYC_HI_SCYC 7) == 256),
    gives (.rdcmd 1) (progS (iw 0x21 6 0 0 (7 + 256 * 2)) (d7 0)) (fun t => t.gReg 1 6 == 1 && t.rd BLD_EVT_DREJ == 1),
    gives (.rdcmd 1) (progS (iw 0x21 6 0 0 (7 + 256 * 2)) (d7 4)) (fun t => t.pst 1 == 3 && t.rd (BLD_PINFO_WAIT 1) == 4 && t.blend.cmds.length == 1),
    gives (.rdcmd 1) (progS (iw 0x21 6 0 0 (8 + 256)) (d7 0)) (fun t => t.rd (BLD_PINFO_FAULT 1) == 3),
    gives (.rdcmd 1) (progS (iw 0x21 6 0 0 (7 + 256)) (d7 0 ++ [(BLD_RD_CFG_IFMT 7, 8), (BLD_RD_CFG_OFMT 7, 8), (BLD_RD_CFG_ACC 7, 1), (BLD_RD_COUNT_COUNT 7, 1), (BLD_RD_EXPECT 7, 1)])) (fun t => t.gReg 1 6 == 0 && t.dst 7 == 1),
    gives (.rdcmd 1) (progS (iw 0x21 6 0 0 (7 + 256 * 2)) (d7 2)) (fun t => t.dst 7 == 1 && t.gReg 1 6 == 0 && t.pst 1 == 2),
    gives (.rdcmd 1) (progS (iw 0x21 6 0 0 (7 + 256 * 3)) (d7 5)) (fun t => t.dst 7 == 0 && t.gReg 1 6 == 0),
    gives (.rdcmd 1) (progS (iw 0x21 6 0 0 7) (d7 0)) (fun t => t.rd (BLD_PINFO_FAULT 1) == 1),
    gives (.rdcmd 1) (progS (iw 0x21 6 0 0 (7 + 256)) (d7 0)) (fun t => t.gReg 1 6 == 3),
    gives (.recv 1) (progS (iw 0x22 6 0 0 7) (d7 3)) (fun t => t.gReg 1 6 == 3 && t.pst 1 == 2),
    gives (.recv 1) (progS (iw 0x22 6 0 0 8) (d7 3)) (fun t => t.rd (BLD_PINFO_FAULT 1) == 3),
    gives (.recv 1) (progS (iw 0x22 6 0 0 7) (d7 2 ++ [(BLD_PINFO_DLV 1, 1)])) (fun t => t.rd BLD_PEVT_DLMISS == 1 && t.rd (BLD_PINFO_DLV 1) == 0 && t.pst 1 == 3 && t.rd (BLD_PINFO_WAIT 1) == 3),
    gives (.recv 1) (progS (iw 0x22 6 0 0 7) (d7 3 ++ [(BLD_PINFO_DLV 1, 1)])) (fun t => t.rd BLD_PEVT_DLMISS == 1 && t.pst 1 == 2 && t.gReg 1 6 == 3),
    gives (.recv 1) (progS (iw 0x22 6 0 0 7) (d7 3 ++ [(BLD_PINFO_DLV 1, 1), (BLD_PINFO_RLV 1, 1), (BLD_PINFO_RBAR 1, 9)])) (fun t => t.rd BLD_PEVT_DLMISS == 1 && t.pst 1 == 3 && t.rd (BLD_PINFO_WAIT 1) == 9 && (t.px 1).obj == 9),
    gives (.rdst 1) (progS (iw 0x23 6 0 0 8) (d7 3)) (fun t => t.rd (BLD_PINFO_FAULT 1) == 3),
    gives (.recv 1) (progS (iw 0x22 6 0 0 7) (d7 2)) (fun t => t.pst 1 == 3 && t.rd (BLD_PINFO_WAIT 1) == 3 && (t.px 1).obj == 7),
    gives (.rdst 1) (progS (iw 0x23 6 0 0 7) (d7 3)) (fun t => t.gReg 1 6 == 3 * 2 ^ 32 + t.rd (BLD_RD_RECV 7))] : List Bool).all id) = true := by decide +kernel

/-- Descriptor 7 full with one INT8 position, and template 1023 valid in the program's partition. -/
def full7 : List (Fld × Nat) := d7 3 ++ [(BLD_RD_CFG_IFMT 7, 8), (BLD_RD_CFG_OFMT 7, 8), (BLD_RD_CFG_ACC 7, 1), (BLD_RD_COUNT_COUNT 7, 1), (BLD_TPL_A_VALID 1023, 1), (BLD_TPL_B_PART 1023, 2), (BLD_TPL_B_PART 255, 2)]

theorem test_emissions : (([
    gives (.emit 1) (progS (iw 0x24 6 0 0 (7 + 1023 * 256 + 2 ^ 24)) full7) (fun t => t.dst 7 == 4 && t.pst 1 == 3 && t.rd BLD_EMIT_CNT == 1 && t.dlv.waiting.length == 1),
    gives (.emit 1) (progS (iw 0x24 6 0 0 (7 + 1023 * 256 + 2 * 2 ^ 24)) full7) (fun t => t.gReg 1 6 == 2 && t.dst 7 == 3),
    gives (.emit 1) (progS (iw 0x24 6 0 0 (7 + 1023 * 256 + 2 ^ 24)) (full7 ++ d7 0)) (fun t => t.gReg 1 6 == 1 && t.dst 7 == 0),
    gives (.emit 1) (progS (iw 0x24 6 0 0 (7 + 1023 * 256 + 2 ^ 24)) (full7 ++ d7 1)) (fun t => t.pst 1 == 3 && t.rd (BLD_PINFO_WAIT 1) == 4 && t.blend.cmds.length == 1),
    gives (.emit 1) (progS (iw 0x24 6 0 0 (7 + 1023 * 256 + 2 ^ 24)) (full7 ++ [(BLD_STATUS_HOLD, 1)])) (fun t => t.pst 1 == 3 && t.dst 7 == 3 && t.blend.cmds.length == 1),
    gives (.cvt 1) (progS (iw 0x25 6 0 0 (7 + 256 * 8 + 2 ^ 24)) (full7 ++ [(BLD_STATUS_HOLD, 1), (BLD_RD_CFG_PART 8, 2)])) (fun t => t.pst 1 == 3 && t.dst 7 == 3 && t.blend.cmds.length == 1),
    gives (.cvt 1) (progS (iw 0x25 6 0 0 (7 + 256 * 8 + 2 ^ 24)) (full7 ++ [(BLD_RD_CFG_PART 8, 2), (BLD_RD_CFG_IFMT 8, 8)])) (fun t => t.pst 1 == 3 && t.dst 7 == 4 && t.blend.offered.length == 1),
    gives (.emit 1) (progS (iw 0x24 6 0 0 (7 + 1022 * 256 + 2 ^ 24)) full7) (fun t => t.rd (BLD_PINFO_FAULT 1) == 3 && t.pst 1 == 5),
    gives (.cvt 1) (progS (iw 0x25 6 0 0 (7 + 256 * 7 + 2 ^ 24)) full7) (fun t => t.gReg 1 6 == 3 && t.dst 7 == 3),
    gives (.cvt 1) (progS (iw 0x25 6 0 0 (7 + 256 * 8 + 2 ^ 24)) full7) (fun t => t.rd (BLD_PINFO_FAULT 1) == 3)] : List Bool).all id) = true := by decide +kernel

theorem test_sends : (([
    gives (.send 1) (progS (iw 0x30 6 0 0 (1023 * 256 + 2 ^ 20)) full7) (fun t => t.pst 1 == 3 && t.rd (BLD_PINFO_WAIT 1) == 6 && t.dlv.ret.length == 1),
    gives (.send 1) (progS (iw 0x30 6 0 0 (1023 * 256)) full7) (fun t => t.dlv.waiting.length == 1 && t.dlv.ret == []),
    gives (.send 1) (progS (iw 0x30 6 0 0 (1023 * 256)) (full7 ++ [(BLD_TPL_A_VALID 1023, 0)])) (fun t => t.dlv.waiting == [] && t.rd DLV_EVT_REFUSE == 1 && t.gReg 1 6 == 3 && t.pst 1 == 1),
    gives (.send 1) (progS (iw 0x30 6 0 0 (1022 * 256 + 2 ^ 20)) full7) (fun t => t.rd (BLD_PINFO_FAULT 1) == 3),
    gives (.ptrg 1) (progS (iw 0x40 6 0 0 16383) [(POR_CTL_EN, 1)]) (fun t => t.rd POR_ASTAT_BUSY == 1 && t.pour.arming == some ⟨16383, some 1, none⟩ && t.dlv.ret.length == 1),
    gives (.ptrg 1) (progS (iw 0x40 6 0 0 16383) []) (fun t => t.gReg 1 6 == 8 && t.rd POR_EVT_ARMREJ == 1),
    gives (.ptrg 1) { (progS (iw 0x40 6 0 0 16383) []) with pour := { r0.pour with arming := some ⟨1, none, none⟩ } } (fun t => t.pst 1 == 3 && t.rd (BLD_PINFO_WAIT 1) == 5),
    gives (.hint 1) (progS (iw 0x41 0 5 0 (1 + 7 * 65536)) []) (fun t => t.rd BLD_PHINT_CNT == 1 && t.rd (BLD_PINFO_PC 1) == 4),
    gives (.sig 1) (progS (iw 0x42 0 0 0 0xABCD) []) (fun t => t.rd BLD_PSIGV_PROG == 1 && t.rd BLD_PSIGV_VALUE == 0xABCD && t.rd BLD_PEVT_PSIG == 1)] : List Bool).all id) = true := by decide +kernel

/-! ## The side-band -/

def mg (f : MgmtSt → MgmtSt) : State := { r0 with mgmt := f r0.mgmt }
def ic (f : I3cSt → I3cSt) : State := mg fun m => { m with i3c := f m.i3c }
def mo (e c k : Nat) (b : List Nat) : MctpOut := ⟨e, c, some k, b⟩
/-- The last message for the MCTP reader. -/
def said (t : State) (m : MctpOut) : Bool := t.mgmt.out == [m]

theorem test_i3c : (let a := ic (fun i => { i with dyn := some 9 }); let w := mg (fun m => { m with out := [mo 1 1 0 []] }); ([
    gives (.entdaa 127) r0 (fun t => t.mgmt.i3c.dyn == some 127 && t.mgmt.i3c.hotJoin == false),
    gives (.entdaa 8) a (fun t => t == a),
    gives (.setnewda 127) a (fun t => t.mgmt.i3c.dyn == some 127),
    gives (.setnewda 8) r0 (fun t => t == r0),
    gives .rstdaa a (fun t => t.mgmt.i3c.dyn == none),
    gives (.enec true false) w (fun t => t.mgmt.i3c.ibiEn && t.mgmt.i3c.ibi),
    gives (.disec false true) r0 (fun t => t.mgmt.i3c.hjEn == false),
    gives .getpid a (fun t => t.mgmt.i3c.rdata.length == 6),
    gives .getpid r0 (fun t => t == r0),
    gives .getbcr a (fun t => t.mgmt.i3c.rdata == [6]),
    gives .getdcr a (fun t => t.mgmt.i3c.rdata == [0]),
    gives .getmwl a (fun t => t.mgmt.i3c.rdata == [0, 69]),
    gives .getmrl a (fun t => t.mgmt.i3c.rdata == [0, 69]),
    gives .getstatus a (fun t => t.mgmt.i3c.rdata.length == 2),
    gives (.setmwl 68) r0 (fun t => t == r0),
    gives (.setmwl 70) r0 (fun t => t.mgmt.i3c.mwl == 70),
    gives (.setmrl 65535) r0 (fun t => t.mgmt.i3c.mrl == 65535),
    gives .hotJoinTimer r0 (fun t => t.mgmt.i3c.hotJoin),
    gives .hotJoinTimer a (fun t => t == a)] : List Bool).all id) = true := by decide +kernel

theorem test_control_messages : (let d := mg (fun m => { m with resetDue := true }); let b := { r0 with bReset := true }; ([
    gives (.setEndpointId 8 0 255) r0 (fun t => said t (mo 8 0x101 0 [0, 255, 0]) && t.mgmt.ctrlEid == some 8 && t.mgmt.eid == 255),
    gives (.getEndpointId 8) b (fun t => said t (mo 8 0x102 0 [0, 0, 0])),
    gives (.getEndpointUuid 8) r0 (fun t => t.mgmt.out.length == 1),
    gives (.getMctpVersionSupport 8) r0 (fun t => said t (mo 8 0x104 0 [1, 0xF1, 0xF3, 0xFF, 0])),
    gives (.getMessageTypeSupport 8) r0 (fun t => said t (mo 8 0x105 0 [2, 0, 0x7F])),
    gives (.sbFence 8 [3]) r0 (fun t => said t (mo 8 3 0 [3]) && t.fenceBits == 3),
    gives (.sbFence 8 [4]) r0 (fun t => said t (mo 8 3 4 []) && t.fenceBits == 0),
    gives (.sbUnfence 8 [1]) (put b [(GLB_FENCE_HOST, 1), (GLB_FENCE_TRAFFIC, 1)]) (fun t => said t (mo 8 4 0 [2]) && t.fenceBits == 2),
    gives (.reset 8 [0xA5, 0xC3]) r0 (fun t => said t (mo 8 5 0 []) && t.mgmt.resetDue),
    gives (.reset 8 [0xA5, 0xC4]) r0 (fun t => said t (mo 8 5 4 []) && !t.mgmt.resetDue),
    gives .sbResetDelay d (fun t => t.pins.rstReqN == false && t.boot.causes == 16),
    gives .sbResetDelay { d with bReset := true } (fun t => t.mgmt.resetDue == false && t.pins.rstReqN),
    gives .sbResetDelay r0 (fun t => t == r0),
    gives (.status 8 []) r0 (fun t => t.mgmt.out.all fun m => m.body.length == 13 && m.code == some 0)] : List Bool).all id) = true := by decide +kernel

/-- A record with the SEQ `q` waits for its write. -/
def logged (q : Nat) : State := put { r0 with mgmt := { r0.mgmt with logQ := [⟨q, 0, 1, 0, 0, 0, 0, 0, 0⟩] } } [(TEL_LSEQ, q + 1)]

theorem test_register_requests : (let w := mg (fun m => { m with wait := some ⟨1, 9⟩ }); let b := { r0 with bReset := true }; let x := put r0 [(IMG_BOOT_STEP, 5)]; ([
    gives (.regRead 8 (bytesOf 4 0x1100)) r0 (fun t => said t (mo 8 1 0 (bytesOf 4 1))),
    gives (.regRead 8 (bytesOf 4 0xFFFFC)) r0 (fun t => said t (mo 8 1 0 [0, 0, 0, 0])),
    gives (.regRead 8 []) r0 (fun t => said t (mo 8 1 4 [])),
    gives (.regRead 8 (bytesOf 4 (2 ^ 31 + 0x6000))) r0 (fun t => said t (mo 8 1 3 [])),
    gives (.regRead 8 (bytesOf 4 (2 ^ 31 + 0x6000))) x (fun t => t.mgmt.out == [] && t.mgmt.wait == some ⟨8, 1⟩ && t.xing.tunnel == [⟨true, 1, false, false, 0⟩] && t.bond.xBT.length == 1),
    gives (.regWrite 8 (bytesOf 4 0x1100)) r0 (fun t => said t (mo 8 2 4 [])),
    gives (.regWrite 8 (bytesOf 4 0xF1044 ++ bytesOf 4 5)) r0 (fun t => t.mgmt.out.length == 1),
    gives (.regRead 8 []) w (fun t => t.mgmt.queued == [(8, 1, [])] && t.mgmt.out == []),
    gives (.sbFence 8 [3]) w (fun t => t.mgmt.queued == [(8, 3, [3])] && t.fenceBits == 3 && t.mgmt.out == []),
    gives (.logRead 8 [1]) { w with mgmt := { w.mgmt with queued := [(1, 1, []), (1, 1, [])] } } (fun t => t.mgmt.queued.length == 3),
    gives (.logRead 8 [1]) { w with mgmt := { w.mgmt with queued := [(1, 1, []), (1, 1, []), (1, 1, [])] } } (fun t => t.mgmt.queued.length == 3 && said t (mo 8 9 5 [])),
    gives (.regWrite 8 []) b (fun t => said t (mo 8 2 3 [])),
    gives (.logRead 8 []) b (fun t => said t (mo 8 9 3 []))] : List Bool).all id) = true := by decide +kernel

theorem test_alarm_requests : (let a := put r0 [(TEL_APEND 9, 2 ^ 31), (TEL_AARG 319, 77)]; let n := { r0 with mgmt := { r0.mgmt with noteOwed := true, noteGap := true, ctrlEid := some 5 } }; ([
    gives (.alarmRead 8 (bytesOf 2 319)) a (fun t => t.mgmt.out.all fun m => m.body.drop 4 == bytesOf 4 77 ++ bytesOf 8 0 ++ [1]),
    gives (.alarmRead 8 (bytesOf 2 320)) a (fun t => said t (mo 8 7 4 [])),
    gives (.alarmRead 8 (bytesOf 2 65535)) a (fun t => said t (mo 8 7 4 [])),
    gives (.alarmAck 8 (bytesOf 2 319)) a (fun t => said t (mo 8 8 0 []) && t.alarmsPending == []),
    gives .alarmNoteTimer (put n [(TEL_ACTL_NOTIFY, 1)]) (fun t => t.mgmt.noteGap && !t.mgmt.noteOwed && t.mgmt.out.map (·.cmd) == [0x80]),
    gives .alarmNoteTimer { n with mgmt := { n.mgmt with noteOwed := false } } (fun t => !t.mgmt.noteGap && t.mgmt.out == []),
    gives .logBucketRefill (put r0 [(TEL_LCTL_LRATE, 7), (TEL_LCTL_LBURST, 0)]) (fun t => t.mgmt.bucket == 7),
    gives .logBucketRefill (put r0 [(TEL_LCTL_LRATE, 17), (TEL_LCTL_LBURST, 0)]) (fun t => t.mgmt.bucket == 16),
    gives (.logRead 8 (bytesOf 4 0)) r0 (fun t => said t (mo 8 9 6 [])),
    gives (.logRead 8 (bytesOf 4 5)) (logged 5) (fun t => said t (mo 8 9 6 [])),
    gives (.logRead 8 (bytesOf 4 4)) (logged 5) (fun t => t.mgmt.wait == some ⟨8, 9⟩ && t.dlv.ret.length == 1 && t.dlv.ret.all (fun q => q.addr == r0.logBase + 128)),
    gives (.logRead 8 (bytesOf 4 (2 ^ 32 - 131066))) (logged 5) (fun t => t.mgmt.wait == some ⟨8, 9⟩),
    gives (.logRead 8 (bytesOf 4 (2 ^ 32 - 131067))) (logged 5) (fun t => said t (mo 8 9 6 []))] : List Bool).all id) = true := by decide +kernel

/-! ## Registers -/

/-- HostMay from its checks, where no register has been written in this KCLK. -/
theorem host_may {s : State} {k v : Nat} (h : (!s.bReset && !s.on GLB_FENCE_HOST && s.mayWrite false k v && !s.pageLocked k && s.mgmt.written.isEmpty) = true) :
    HostMay s k v := by
  simp only [Bool.and_eq_true, Bool.not_eq_true', List.isEmpty_iff] at h
  exact ⟨h.1.1.1.1, h.1.1.1.2, h.1.1.2, h.1.2, fun _ => by simp [State.outranked, h.2]⟩

theorem test_host_may : HostMay r0 0xb3808 5 ∧ HostMay r0 0xa0008 5 ∧ HostMay r0 0xa0040 5 ∧ HostMay { r0 with links := 16 } (0x10000 + 0x400 * 16) 5 := by
  refine ⟨?_, ?_, ?_, ?_⟩ <;> exact host_may (by decide +kernel)

/-- The host may write any value to an offset that is no lock register. -/
theorem host_may_all {s : State} {k : Nat} (h : HostMay s k 0) (hl : isLockReg k = false) : ∀ u, HostMay s k u := by
  intro u; obtain ⟨a, b, c, d, e⟩ := h; exact ⟨a, b, by simpa [State.mayWrite, hl] using c, d, e⟩

theorem test_host_may_link : (∀ u, HostMay r0 (linkOff 63 0x4) u) ∧ ∀ u, HostMay r0 (linkOff 0 0x300) u :=
  ⟨host_may_all (host_may (by decide +kernel)) (by decide +kernel), host_may_all (host_may (by decide +kernel)) (by decide +kernel)⟩

theorem test_unassigned : regRow 0xFFFFC = none ∧ regRow 0x1FC = none := by decide +kernel

/-- An access that crosses: source, offset, data and status (R117). -/
def regM (src off data sts : Nat) : XMsg := mkMsg [(8, 2, src), (16, 20, off), (36, 32, data), (68, 2, sts)]
def tunnelS (l : List RegTunnel) : State := { r0 with xing := { r0.xing with tunnel := l } }

theorem test_ports : (let x := put r0 [(IMG_BOOT_STEP, 5)]; let f := put r0 [(GLB_FENCE_HOST, 1)]; ([
    gives (.registerRead .bPort 0x1100) r0 (fun t => t.pins.bAck && !t.pins.bErr && t.pins.bRdata == 1),
    gives (.registerWrite .bPort 0xb3808 7) r0 (fun t => t.pins.bAck && !t.pins.bErr && t.rd BLD_PARG_LO == 7),
    gives (.registerWrite .bPort 0x4000 7) r0 (fun t => t.pins.bErr && t.rd OWN_EVT_HREFUSE == 1 && t.word 0x4000 == r0.word 0x4000),
    gives (.registerWrite .bPort 0xb3808 7) f (fun t => t.pins.bErr && t.rd BLD_PARG_LO == 0 && t.rd OWN_EVT_HREFUSE == 1),
    gives (.registerRead .tPort 0x1100) r0 (fun t => t.pins.tAck && t.pins.tErr),
    gives (.registerRead .tPort 0x1100) x (fun t => t.pins == r0.pins && t.xing.tunnel == [⟨false, 0, false, false, 0⟩] && t.bond.xTB == [.msg 3 (mkMsg [(0, 8, 0x40), (16, 20, 0x1100)])]),
    gives (.registerRead .tPort 0x1100) (tunnelS [⟨false, 0, true, false, 0⟩]) (fun t => t == tunnelS [⟨false, 0, true, false, 0⟩]),
    gives (.registerRead .tPort (tBase + 0x10000)) r0 (fun t => t.pins.tErr),
    gives (.registerRead .tPort (tBase + 0xFFFC)) r0 (fun t => t.pins.tAck && !t.pins.tErr && t.pins.tRdata == 0),
    gives (.registerWrite .tPort (tBase + 0x4008) 1) r0 (fun t => t.pins.tAck && !t.pins.tErr && t.rd KT_XPR_CTL_RLC_EN == 1),
    setsShared (tBase + 0x4008) (x.word (tBase + 0x4008)) 0 && !setsShared (tBase + 0x4008) (x.word (tBase + 0x4008)) 1,
    gives (.registerWrite .tPort (tBase + 0x4008) 0) x (fun t => t.pins == r0.pins && t.rd KT_XPR_CTL_RLC_EN == 1 && t.xing.tunnel == [⟨false, 0, true, true, 0⟩] && t.bond.xTB == [.msg 3 (mkMsg [(0, 8, 0x41), (16, 20, 0x4008)])]),
    gives (.registerWrite .tPort (tBase + 0x4008) 0) r0 (fun t => t.pins.tErr && t.rd KT_XPR_CTL_RLC_EN == 1),
    gives (.registerWrite .tPort (tBase + 0x4008) 1) { x with xing := { r0.xing with copies := [(GLB_FENCE_HOST.key, 1)] } } (fun t => !t.pins.tAck && t.xing.tunnel == [⟨false, 0, true, true, 3⟩]),
    gives (.registerWrite .tPort 0xb3808 7) x (fun t => t.xing.tunnel == [⟨false, 0, true, false, 0⟩] && t.bond.xTB == [.msg 3 (mkMsg [(0, 8, 0x41), (16, 20, 0xb3808), (36, 32, 7)])])] : List Bool).all id) = true := by decide +kernel

theorem test_test_port : (let q := { r0 with test := { r0.test with tapB := { r0.test.tapB with regSts := 2 } } }; ([
    gives (.regacc true 0x1100 false 0) r0 (fun t => t.test.tapB.regSts == 0 && t.test.tapB.regData == 1),
    gives (.regacc true 0xb3808 true 7) r0 (fun t => t.test.tapB.regSts ≤ 1),
    gives (.regacc true 0x1100 false 0) { r0 with bReset := true } (fun t => t.test.tapB.regSts == 3),
    gives (.regacc true 0x1100 false 0) q (fun t => t == q)] : List Bool).all id) = true := by decide +kernel

theorem test_across : (let h := { r0 with hold := true }; let w := { (tunnelS [⟨true, 1, false, false, 0⟩]) with mgmt := { r0.mgmt with wait := some ⟨9, 1⟩ } }; ([
    gives (.regRd true (regM 0 0x1100 0 0)) r0 (fun t => t.bond.xBT == [.msg 3 (regRsp 0 0x1100 1 0)]),
    gives (.regRd true (regM 0 0x1100 0 0)) h (fun t => t.bond.xBT == [.msg 3 (regRsp 0 0x1100 0 2)]),
    gives (.regWr true (regM 0 0xb3808 7 0)) r0 (fun t => t.rd BLD_PARG_LO == 7 && t.bond.xBT == [.msg 3 (regRsp 0 0xb3808 0 0)]),
    gives (.regWr true (regM 0 0xb3808 7 0)) h (fun t => t.rd BLD_PARG_LO == 0),
    [1, 2, 3].all fun why => gives (.regWr true (regM 0 0x4008 1 0)) (tunnelS [⟨false, 0, true, true, why⟩]) (fun t => t.rd (if why = 2 then OWN_EVT_LOCKIGN else OWN_EVT_HREFUSE) == 1 && t.xing.tunnel.length == 1),
    gives (.regRd false (regM 1 0xFFFC 0 0)) r0 (fun t => t.bond.xTB == [.msg 3 (regRsp 1 0xFFFC 0 0)]),
    gives (.regWr false (regM 1 0x4008 1 0)) r0 (fun t => t.bond.xTB.length == 1),
    gives (.regRsp false (regM 0 0 77 0)) (tunnelS [⟨false, 0, false, false, 0⟩]) (fun t => t.xing.tunnel == [] && t.pins.tAck && !t.pins.tErr && t.pins.tRdata == 77),
    gives (.regRsp false (regM 0 0 77 1)) (tunnelS [⟨false, 0, false, false, 0⟩]) (fun t => t.pins.tAck && t.pins.tErr),
    gives (.regRsp false (regM 0 0 77 0)) r0 (fun t => t.pins == r0.pins),
    gives (.regRsp true (regM 1 0 77 0)) w (fun t => t.mgmt.wait == none && t.mgmt.out == [⟨9, 1, some 0, [77, 0, 0, 0]⟩])] : List Bool).all id) = true := by decide +kernel

theorem test_access_codes : (let s := put r0 [(POR_EVT_MISSED, 1), (POR_EVT_ARMREJ, 1)]; let v := (s.word 0xa0040).toNat; let k := { r0 with links := 16 }; ([
    gives (.registerWrite .bPort 0xb3808 0xFFFFFFFF) r0 (fun t => t.readNow .bPort 0xb3808 == 0xFFFFFFFF),
    gives (.registerWrite .bPort 0xa0008 0xFFFFFFFF) r0 (fun t => t.word 0xa0008 == r0.word 0xa0008 && !t.pins.bErr),
    gives (.registerWrite .bPort 0xa0040 v) s (fun t => t.word 0xa0040 == 0),
    (let f := { s with mgmt := { s.mgmt with fresh := [(0xa0040, POR_EVT_MISSED.lo)] } }; gives (.registerWrite .bPort 0xa0040 v) f (fun t => t.rd POR_EVT_MISSED == 1 && t.rd POR_EVT_ARMREJ == 0)),
    gives (.registerWrite .bPort 0xa0040 (255 - v)) s (fun t => t.word 0xa0040 == s.word 0xa0040),
    gives (.registerWrite .bPort (0x10000 + 0x400 * 16 + 4) 1) k (fun t => !t.pins.bErr && t.rd (LNK_CTL_EN 16) == 0),
    gives (.registerWrite .bPort (0x10000 + 0x400 * 15 + 4) 1) k (fun t => t.rd (LNK_CTL_EN 15) == 1),
    k.readNow .bPort (0x10000 + 0x400 * 16) == 0 && r0.readNow .bPort 0xFFFFC == 0 && r0.readNow .bPort 0xb0010 == 0,
    gives (.registerWrite .bPort 0xFFFFC 1) r0 (fun t => !t.pins.bErr || t.rd OWN_EVT_HREFUSE == 1)] : List Bool).all id) = true := by decide +kernel

/-- Link 63 in a state. -/
def lk63 (st : Nat) (l : List (Fld × Nat)) : State := put r0 ([(LNK_STATUS_STATE 63, st)] ++ l)

theorem test_link_registers : (let up := lk63 0 [(IMG_BOOT_STEP, 7), (LNK_EXP_USED 63, 1)]; let act := lk63 5 [(LNK_MAP_TXMAP 63, packMap [0, 1, 2, 3]), (LNK_CTL_EN 63, 1), (LNK_STATUS_TXW 63, 0)]; let tim := lk63 5 [(TIM_INC_LO, 2 ^ 31), (TIM_STATUS_STATE, 2), (TIM_PCUR_P, 78125)]; ([
    gives (.linkEn .bPort 63 0) up (fun t => !t.pins.bErr && t.rd (LNK_CTL_EN 63) == 1 && t.lst 63 == 1),
    gives (.linkEn .bPort 63 0) (put up [(IMG_BOOT_STEP, 6)]) (fun t => t.rd (LNK_CTL_EN 63) == 1 && t.lst 63 == 0),
    gives (.linkDisable .bPort 63 0) act (fun t => t.rd (LNK_CTL_EN 63) == 0 && t.lst 63 == 0),
    gives (.retrainWrite .bPort 63 1) act (fun t => t.lst 63 == 5 && (t.lk 63).retrainTx == 3),
    gives (.retrainWrite .bPort 63 0) act (fun t => t.lst 63 == 0),
    gives (.wmaxWrite .bPort 63 3) act (fun t => (t.lk 63).txSw == some ⟨1, packMap [0, 1], 24⟩),
    gives (.nbrAccept .bPort 63) (put r0 [(LNK_NBR_QID 63, 1), (LNK_OBS_FNA 63, 3), (LNK_OBS_LINK 63, 5)]) (fun t => t.rd (LNK_EXP_FNA 63) == 3 && t.rd (LNK_EXP_LINK 63) == 5 && t.rd (LNK_NBR_QID 63) == 0),
    gives (.nbrAccept .bPort 63) (put r0 [(LNK_OBS_FNA 63, 3)]) (fun t => t.rd (LNK_EXP_FNA 63) == r0.rd (LNK_EXP_FNA 63)),
    gives (.laneLoopbackGo .bPort 63 0x3E) r0 (fun t => t.rd (LNK_TST_BUSY 63) == 1 && t.rd (LNK_TST_LANES 63) == 31 && (t.lk 63).lpbk == 31),
    gives (.laneLoopbackGo .bPort 63 0x3E) act (fun t => t.rd (LNK_TST_REJ 63) == 1),
    gives (.keyLoad (.side 9) 63 true) r0 (fun t => t.mgmt.out == [⟨9, 2, some 0, []⟩] && t.rd (LNK_REVT_KREJ 63) == 1),
    gives (.keyLoad (.side 9) 63 true) (put tim [(LNK_KCYC_HI_CYCLE 63, 1)]) (fun t => t.rd (LNK_KSTAT_RXPEND 63) == 1 && (t.lk 63).txPend == none && (t.lk 63).rxPend.isSome),
    gives (.keyLoad (.side 9) 63 false) (put tim [(LNK_KCYC_HI_CYCLE 63, 1)]) (fun t => t.rd (LNK_KSTAT_TXPEND 63) == 1 && (t.lk 63).rxPend == none && (t.lk 63).txPend.isSome)] : List Bool).all id) = true := by decide +kernel

/-! ## Register commands -/

/-- HostMay as a check. -/
def mayB (s : State) (k v : Nat) : Bool := !s.bReset && !s.on GLB_FENCE_HOST && s.mayWrite false k v && !s.pageLocked k && s.mgmt.written.isEmpty

theorem test_host_may_commands : (([
    [(0x8820, 2), (0x8820, 1), (0x90054, 2 ^ 31 + 5), (0x40000, 1), (0x7FFFC, 1), (0x20010, 1), (0x2002C, 1), (0x20034, 1), (0x20068, 1), (0x20068, 3), (0x80114, 1), (0x8012c, 1)].all fun e => mayB r0 e.1 e.2,
    [(0xa0010, 0x13FFF), (0xa0010, 0x33FFF), (0xa0004, 1), (0xe0010, 2 ^ 31 + 15), (0xb1000, 1), (0xb2FF4, 1), (0xb0010, 1), (0xb3810, 0x10FFF), (0xb8000, 1), (0xBFFFC, 1), (0xDFFF8, 1)].all fun e => mayB r0 e.1 e.2,
    [(0xf3010, 31), (0xf400c, 256), (0xf4004, 256), (0xf4020, 256)].all fun e => mayB r0 e.1 e.2,
    mayB r0 0x4060 2 && mayB r0 0x407C (2 ^ 8)] : List Bool).all id) = true := by decide +kernel

def dirS (l : Sparse DirEntry) (b : List BSnoop) : State := { r0 with xing := { r0.xing with dir := l, acrossB := b } }

theorem test_crossing_commands : (([
    gives (.rlcFlush .tPort 3) r0 (fun t => t.pins.tAck && !t.pins.tErr && t.rd KT_XPR_CTL_RLC_EN == 1 && t.xing == r0.xing),
    (let u := r0.viewOf (tBase + 0x4008); u.mayWrite false (tBase + 0x4008) 3 && !u.on GLB_FENCE_HOST && !u.pageLocked (tBase + 0x4008)) && !r0.crossing 0 && !r0.outranked (tBase + 0x4008) 4098 && !setsShared (tBase + 0x4008) (r0.word (tBase + 0x4008)) 3,
    gives (.rlcFlush .tPort 0) (put r0 [(IMG_BOOT_STEP, 5)]) (fun t => t.rd KT_XPR_CTL_RLC_EN == 1 && t.bond.xTB == [.msg 3 (mkMsg [(0, 8, 0x41), (16, 20, 0x4008), (36, 32, 2)])]),
    gives (.dirFlush .bPort) r0 (fun t => !t.pins.bErr && t.xing == r0.xing),
    gives (.rflush .bPort) r0 (fun t => t.rd BND_DIR_CTL_RFLUSH == 0),
    gives (.rflush .bPort) (put (dirS [] [⟨33, 5, 7, true, none, none⟩]) [(BND_HMAP_TGT_VALID 0, 1), (BND_HMAP_TGT_REMOTE 0, 1)]) (fun t => t.rd BND_DIR_CTL_RFLUSH == 1)] : List Bool).all id) = true := by decide +kernel

theorem test_flushes : (let c := { r0 with xing := { r0.xing with cache := [(19, ⟨5, 1, true, false, 0⟩)] } }; ([
    gives (.rlcFlush .tPort 3) c (fun t => t.xing.reqs.any fun r => r.way == 19 && r.req.op == 16),
    gives (.dirFlush .bPort) (dirS [(19, ⟨5, 1⟩)] []) (fun t => t.xing.acrossB.map (fun b => (b.laddr, b.entry, b.inv)) == [(5 * 2048 + 1, 19, true)])] : List Bool).all id) = true := by decide +kernel

theorem test_period_change : (let s := put r0 [(TIM_CTL_ROLE, 2), (TIM_PNEW_P, 78125), (TIM_PCUR_P, 78125), (TIM_EPOCH_EPER, 50)]; ([
    s.tRole == 2 && decide (s.epochK % 78125 = 0) && s.ahead (instant 65536000000 0) 1562500000,
    gives (.periodChangeGo .bPort 1) s (fun t => t.rd TIM_EVT_PREJ == 1 || t.time.pchg == some (78125, 2 ^ 32)),
    gives (.periodChangeGo .bPort 16) (put s [(TIM_PCYC_LO, 0)]) (fun t => t.time.pchg == some (78125, 16 * 2 ^ 32) && t.rd TIM_PCYC_HI_CEFF == 16),
    gives (.periodChangeGo .bPort 16) r0 (fun t => t.rd TIM_EVT_PREJ == 1 && t.time == r0.time)] : List Bool).all id) = true := by decide +kernel

theorem test_routing_registers : (let f := put r0 [(RTE_FCMD_FNA_FNA, 7), (RTE_FCMD_ARG_INC, 3), (RTE_FCMD_ARG_GEN, 4)]; let g := fun (n : Nat) => put f [(RTE_FENCE_A_VALID 511, 1), (RTE_FENCE_A_FNA 511, 7), (RTE_FENCE_B_GEN 511, n)]; ([
    gives (.tableWrite .bPort 65535 0xB0000003) r0 (fun t => t.rd (RTE_TBL_VALID 65535) == 1 && t.rd (RTE_TBL_CNT 65535) == 3 && t.rd (RTE_TBL_LINKS 65535) == 3),
    gives (.meshWrite .bPort 3 true 9) r0 (fun t => t.rd (RTE_MESH_HI 3) == 9),
    gives (.meshWrite .bPort 0 false 9) r0 (fun t => t.rd (RTE_MESH_LO 0) == 9),
    gives (.drainWrite .bPort true 9) r0 (fun t => t.rd RTE_DRAIN_HI == 9),
    gives (.drainWrite .bPort false 9) r0 (fun t => t.rd RTE_DRAIN_LO == 9),
    f.rd RTE_FCMD_FNA_FNA == 7 && f.rd (RTE_FENCE_A_VALID 0) == 0,
    (g 3).rd (RTE_FENCE_B_GEN 511) == 3] : List Bool).all id) = true := by decide +kernel

/-- Flow 4095, which the host has selected, in a state. -/
def selS (st : Nat) : State := put r0 [(DLV_SSEL_FLOW 1, 4095), (DLV_SFLOW_STATE 4095, st), (DLV_SACKED 4095, 2 ^ 32 - 1)]

theorem test_flow_commands : (([
    gives (.scmdClose .bPort) (selS 1) (fun t => t.fst 4095 == 2),
    gives (.scmdClose .bPort) (selS 3) (fun t => t.fst 4095 == 3),
    gives (.scmdBreak .bPort) (selS 0) (fun t => t.fst 4095 == 0),
    gives (.scmdFree .bPort) (selS 2) (fun t => t.fst 4095 == 0),
    gives (.scmdFree .bPort) (selS 1) (fun t => t.fst 4095 == 1),
    gives (.dcmdFree .bPort) (put r0 [(DLV_DSEL_ENTRY 1, 4095), (DLV_DLOG_A_SRC 4095, 9)]) (fun t => t.rd (DLV_DLOG_A_SRC 4095) == 0)] : List Bool).all id) = true := by decide +kernel

theorem test_pour_commands : (let e := put r0 [(POR_CTL_EN, 1)]; let a := { e with pour := { e.pour with armed := [armed0] } }; ([
    gives (.pourArm .bPort 16383) r0 (fun t => t.rd POR_EVT_ARMREJ == 1 && t.rd POR_ASTAT_REASON == 8 && t.rd POR_ASTAT_BUSY == 0),
    gives (.pourArm .bPort 16383) e (fun t => t.pour.arming == some ⟨16383, none, none⟩ && t.rd POR_ASTAT_ENTRY == 16383 && t.dlv.ret.length == 1),
    gives (.pourDisarm .bPort 16383) a (fun t => t.armedAt 16383 == none),
    gives (.pourDisarm .bPort 16382) a (fun t => (t.armedAt 16383).isSome),
    gives (.pourDisarm .bPort 16383) { a with pour := { a.pour with arming := some ⟨1, none, none⟩ } } (fun t => (t.armedAt 16383).isSome),
    gives (.pourDisable .bPort (2 ^ 32 - 1)) a (fun t => t.rd POR_CTL_EN == 0 && t.pour.armed == [])] : List Bool).all id) = true := by decide +kernel

theorem test_opp_command : (let s := put r0 [(TIM_INC_LO, 2 ^ 31), (TIM_STATUS_STATE, 2), (TIM_PCUR_P, 78125), (PAC_OPP_CYC_HI_CYCLE, 1)]; ([
    gives (.oppChangeRequest .bPort 15) s (fun t => t.pace.opp == some (instant (2 ^ 32) 0, 15, false) && t.rd PAC_STATUS_OPPNEXT == 15 && t.rd PAC_STATUS_OPPPEND == 1),
    gives (.oppChangeRequest .bPort 15) r0 (fun t => t.rd PAC_EVT_OPPREJ == 1 && t.pace == r0.pace),
    gives (.oppChangeRequest .bPort 15) { s with pace := { s.pace with opp := some (0, 3, false) } } (fun t => t.rd PAC_EVT_OPPREJ == 1)] : List Bool).all id) = true := by decide +kernel

theorem test_descriptor_commands : (let v := 255 + 3 * 4096 + 8 * 65536 + 8 * 2 ^ 20; ([
    gives (.descriptorConfigWrite .bPort 255 0 v) r0 (fun t => t.rd (BLD_RD_CFG_PART 255) == 255 && t.rd (BLD_RD_CFG_OP 255) == 3 && t.rd (BLD_RD_CFG_IFMT 255) == 8 && t.rd (BLD_RD_CFG_OFMT 255) == 8 && t.dst 255 == 0),
    gives (.descriptorConfigWrite .bPort 255 1 (2 ^ 18 + 1)) r0 (fun t => t.rd (BLD_RD_BASE_BASE 255) == 1),
    gives (.descriptorConfigWrite .bPort 0 2 (2 ^ 18 - 1)) r0 (fun t => t.rd (BLD_RD_COUNT_COUNT 0) == 2 ^ 18 - 1),
    gives (.descriptorConfigWrite .bPort 0 3 9) r0 (fun t => t.rd (BLD_RD_EXPECT 0) == 9),
    gives (.descriptorConfigWrite .bPort 0 5 9) r0 (fun t => t.rd (BLD_RD_SEED 0) == 9),
    gives (.descriptorConfigWrite .bPort 255 3 9) (rdS 3 id []) (fun t => t.rd BLD_EVT_DREJ == 1 && t.rd (BLD_RD_EXPECT 255) == 1),
    gives (.bldArm .bPort 255) (rdS 1 id []) (fun t => t.dst 255 == 1 && t.rd BLD_DSTAT_BUSY == 1 && t.blend.cmds.map (fun c => (c.op, c.rd)) == [(1, 255)]),
    gives (.bldFree .bPort 255) (rdS 4 id []) (fun t => t.dst 255 == 4 && t.blend.cmds.map (·.op) == [3]),
    gives (.bldArm .bPort 255) (rdS 3 id []) (fun t => t.dst 255 == 3 && t.rd BLD_EVT_DREJ == 1 && t.rd BLD_DSTAT_REASON == 1),
    gives (.bldClear .bPort 255) (rdS 5 id []) (fun t => t.dst 255 == 5 && t.rd BLD_EVT_DREJ == 1),
    gives (.bldFree .bPort 255) (rdS 3 id []) (fun t => t.dst 255 == 0)] : List Bool).all id) = true := by decide +kernel

theorem test_arm_descriptor : (([
    gives (.bldArm .bPort 255) (rdS 0 id []) (fun t => t.dst 255 == 1 && t.rd BLD_DSTAT_RD == 255)] : List Bool).all id) = true := by decide +kernel

/-- Program 4095 in a state, of the whole store. -/
def p4095 (st : Nat) (l : List (Fld × Nat)) : State := put r0 ([(BLD_PRG_A_VALID 4095, 1), (BLD_PRG_A_START 4095, 16383), (BLD_PRG_B_STATE 4095, st), (BLD_PARG_LO, 6), (BLD_PARG_HI, 1)] ++ l)

theorem test_program_commands : (([
    gives (.progStart .bPort 4095) (p4095 0 []) (fun t => t.pst 4095 == 1 && t.rd (BLD_PINFO_PC 4095) == 16383 && t.gReg 4095 0 == 2 ^ 32 + 6 && t.programs == [4095]),
    gives (.progStart .bPort 4095) (p4095 2 []) (fun t => t.rd BLD_PEVT_PREJ == 1 && t.rd BLD_PCSTAT_REASON == 1 && t.pst 4095 == 2),
    gives (.progStart .bPort 4095) (p4095 0 [(BLD_PRG_A_VALID 4095, 0)]) (fun t => t.rd BLD_PCSTAT_REASON == 2 && t.pst 4095 == 0),
    gives (.progStop .bPort 4095) (p4095 2 []) (fun t => t.pst 4095 == 6),
    gives (.progStop .bPort 4095) (p4095 0 []) (fun t => t.rd BLD_PCSTAT_REASON == 1),
    gives (.progTableWrite .bPort 4095 false (2 ^ 31 + 9 * 2 ^ 14 + 5)) (p4095 4 []) (fun t => t.rd (BLD_PRG_A_PART 4095) == 9 && t.rd (BLD_PRG_A_START 4095) == 5),
    gives (.progTableWrite .bPort 4095 false 5) (p4095 3 []) (fun t => t.rd BLD_PEVT_PREJ == 1 && t.rd (BLD_PRG_A_START 4095) == 16383),
    gives (.progTableWrite .bPort 4095 true 5) (p4095 4 []) (fun t => t.rd (BLD_PRG_B_LEN 4095) == 5 && t.pst 4095 == 4),
    gives (.progTableWrite .bPort 4095 true 5) (p4095 1 []) (fun t => t.rd (BLD_PRG_B_LEN 4095) == 0),
    (match exec (.registerWrite .bPort (0xc0000 + 8 * 16383) 6) r0 with | .next u => u.word 0xDFFF8 == r0.word 0xDFFF8 && gives (.prgCommit .bPort 16383 9) u (fun t => t.prgWord 16383 == 6 + 9 * 2 ^ 32) | _ => false)] : List Bool).all id) = true := by decide +kernel

/-- Every sensor valid. -/
def tempS (x : Nat) : State := put r0 ((List.range 12).flatMap (fun i => [(PAC_TEMP_VALID i, 1), (PAC_TEMP_TEMP i, if i = 11 then x else 0)]) ++ [(PAC_STATUS_TRIP, 1)])

theorem test_side_commands : (([
    gives (.tripClear (.side 9)) (tempS 799) (fun t => t.rd PAC_STATUS_TRIP == 0 && t.pins.tripN),
    gives (.tripClear (.side 9)) (tempS 800) (fun t => t.rd PAC_EVT_TCLRREJ == 1 && t.rd PAC_STATUS_TRIP == 1),
    gives (.seqfloorWrite (.side 9) 7) (put r0 [(IMG_SEQFLOOR, 8)]) (fun t => t.rd IMG_SEQFLOOR == 8 && t.mgmt.out == [⟨9, 2, some 0, []⟩]),
    gives (.seqfloorWrite (.side 9) 9) (put r0 [(IMG_SEQFLOOR, 8)]) (fun t => t.rd IMG_SEQFLOOR == 9),
    gives (.flashReadWord (.side 9)) r0 (fun t => t.rd IMG_FSTAT_BUSY == 1 && t.boot.windowOp == 1),
    gives (.flashErase (.side 9)) (put r0 [(IMG_FADDR_ADDR, 0x93FFFC)]) (fun t => t.rd IMG_FSTAT_RES == 1 && t.rd IMG_EVT_FREFUSE == 1 && t.boot.windowOp == 0),
    gives (.flashErase (.side 9)) (put r0 [(IMG_FADDR_ADDR, 0x93FFFC), (IMG_BOOT_STEP, 3)]) (fun t => t.rd IMG_FSTAT_BUSY == 1 && t.boot.windowOp == 3 && t.boot.windowAddr == 0x93FFFC),
    gives (.flashProgramWord (.side 9)) (put r0 [(IMG_FADDR_ADDR, 0x940000)]) (fun t => t.boot.windowOp == 2),
    gives (.flashProgramWord (.side 9)) (put r0 [(IMG_FSTAT_BUSY, 1)]) (fun t => t.boot.windowOp == 0 && t.rd IMG_FSTAT_BUSY == 1),
    gives (.cdySnap (.side 9)) (put r0 [(CDY_STATUS_SRC, 3)]) (fun t => t.boot.snapWanted && t.rd CDY_JSTAT_BUSY == 0),
    gives (.cdySnap (.side 9)) (put r0 [(CDY_STATUS_SRC, 0)]) (fun t => !t.boot.snapWanted && t.rd CDY_JSTAT_BUSY == 1),
    gives (.cdyDefault (.side 9)) r0 (fun t => t.rd CDY_STATUS_DEFREQ == 1 && t.hdr.defReq),
    gives (.cdyDefault (.side 9)) { r0 with caddyShut := true } (fun t => t.rd CDY_STATUS_DEFREQ == 1 && !t.hdr.defReq)] : List Bool).all id) = true := by decide +kernel

theorem test_lock_and_test_commands : (let m := put r0 [(TST_STATUS_TMODE, 1)]; ([
    gives (.ownLock .bPort 0 2) r0 (fun t => t.word 0x4060 == r0.word 0x4060 ||| 2),
    gives (.ownLock .bPort 7 (2 ^ 8)) r0 (fun t => t.word 0x407C == r0.word 0x407C ||| 2 ^ 8),
    gives (.marginalClear .bPort 31) (put r0 [(TEL_MARG_VALID 31, 1), (TEL_MARG_RID 31, 5)]) (fun t => t.rd (TEL_MARG_VALID 31) == 0 && t.rd (TEL_MARG_RID 31) == 0),
    gives (.bondLoopback .bPort true 0) m (fun t => t.test.runB == .loopback && t.rd TST_STATUS_BUSY == 1),
    gives (.bondLoopback .bPort true 0) r0 (fun t => t.test == r0.test && t.rd TST_STATUS_REJ == 1),
    gives (.calibrationGo .bPort (2 ^ 31 + 5)) m (fun t => t.test.runB == .calibration && t.rd TST_STATUS_CSTATE == 1 && t.rd TST_CCTL_HMIN == 128 && t.rd TST_CCTL_DWELL == 5),
    gives (.calibrationGo .bPort 0) (put m [(TST_STATUS_BUSY, 1)]) (fun t => t.rd TST_STATUS_REJ == 1),
    gives (.mbistGo .bPort true 1) m (fun t => t.test.runB == .mbist && t.rd TST_MBCTL_CADDY == 1),
    gives (.mbistGo .bPort true 0) r0 (fun t => t.test == r0.test)] : List Bool).all id) = true := by decide +kernel

/-- A half runs a test. -/
def testS (f : TestSt → TestSt) (l : List (Fld × Nat)) : State := put { r0 with test := f r0.test } ([(TST_STATUS_TMODE, 1), (TST_STATUS_BUSY, 1)] ++ l)

theorem test_test_events : (let lb := testS (fun x => { x with runB := .loopback }) []; let mb := testS (fun x => { x with runB := .mbist }) []; let ec := put { r0 with ecc := { r0.ecc with copying := [(2, 16)] } } [(TEL_BSPR_PRG_COPY, 1)]; ([
    gives (.bankCopyDone 2 15) ec (fun t => t.rd TEL_BSPR_PRG_RET == 15 && t.rd TEL_BSPR_PRG_COPY == 0 && t.rd TEL_FEVT_BANKRET == 1),
    gives (.bankCopyDone 2 14) ec (fun t => t == ec),
    gives (.bondLoopbackDone true []) lb (fun t => t.test.runB == .none_ && t.rd TST_LPRES_FIRST == 0xFFF && t.rd TST_STATUS_BUSY == 0),
    gives (.bondLoopbackDone true [(0, 5, [])]) lb (fun t => t.rd TST_LPRES_FAILG == 1 && t.rd TST_LPRES_FIRST == 0),
    decide (0 < r0.groups) && !gBT 0 && !lb.loopPass 5 [],
    gives (.mbistDone true [(6, [3])]) mb (fun t => t.rd (TST_MBRES_FAIL 6) == 1 && t.rd (TST_MBRES_FAIL 0) == 0 && t.rd (TST_MBRES_DONE 0) == 1),
    gives (.laneLoopbackDone 63 [(4, true, 0, true), (0, true, 0, false)]) (put r0 [(LNK_TST_BUSY 63, 1), (LNK_TST_LANES 63, 31)]) (fun t => t.rd (LNK_TST_PASS 63) == 16 && t.rd (LNK_TST_BUSY 63) == 0),
    gives (.laneLoopbackDone 63 []) r0 (fun t => t == r0)] : List Bool).all id) = true := by decide +kernel

theorem test_calibration_events : (let c1 := fun (n : Nat) (a : Bool) => testS (fun x => { x with runB := .calibration, calTries := n, calAcked := a, calS := 16 }) [(TST_STATUS_CSTATE, 1)]; ([
    gives .calRetryTimeout (c1 7 false) (fun t => t.test.calTries == 8 && t.bond.xBT.length == 1 && t.test.calS % 16 == 0 && decide (51200 ≤ t.test.calS)),
    gives .calRetryTimeout (c1 8 false) (fun t => t.rd TST_STATUS_CSTATE == 6 && t.test.runB == .none_),
    gives .calRetryTimeout (c1 8 true) (fun t => t == c1 8 true),
    gives (.calAck 16 (r0.rd TST_CCTL_DWELL) (r0.rd TST_CCTL_HMIN)) (c1 1 false) (fun t => t.test.calAcked),
    gives (.calAck 17 0 0) (c1 1 false) (fun t => !t.test.calAcked),
    calTarget [0, 3, 3] 5 == some 34 || calTarget [0, 3, 3] 5 == some 33,
    calTarget [0, 2] 3 == none,
    gives (.cal 5 6 7) (put r0 [(KT_BND_STATUS_STATE, 6)]) (fun t => t.test.calT == some (5, 6, 7) && t.bond.xTB.length == 1),
    gives (.cal 5 6 7) (put r0 [(KT_BND_STATUS_STATE, 0)]) (fun t => t.test.calT == none && t.rd KT_XPR_EVT_PROTO == 1)] : List Bool).all id) = true := by decide +kernel

theorem test_calibration_sweeps : (let c1 := put { r0 with tiles := 4, test := { r0.test with runB := .calibration, calTries := 1, calAcked := true } } [(TST_STATUS_CSTATE, 1)]; ([
    c1.rd TST_STATUS_CSTATE == 1 && c1.test.calAcked && c1.bReset == false && decide (c1.tiles ≤ 16),
    gives (.calVerifyDone []) (put c1 [(TST_STATUS_CSTATE, 4)]) (fun t => t.rd TST_STATUS_CSTATE == 6 && t.rd BND_STATUS_RATE == 1 && t.test.runB == .none_)] : List Bool).all id) = true := by decide +kernel

theorem test_taps : (let m := put r0 [(TST_STATUS_TMODE, 1), (KT_TST_STATUS_TMODE, 1)]; ([
    r0.tapReached true && m.tapReached false && !r0.tapReached false,
    gives (.tapReset true true) m (fun t => (t.tap true).ir == 1),
    gives (.sconfig true 3) m (fun t => (t.tap true).sconfig == 1 && (t.tap true).ir == 0x10),
    gives (.extest false 9) m (fun t => (t.tap false).extest && (t.tap false).dwr == 9),
    gives (.extest true 9) r0 (fun t => !(t.tap true).extest && (t.tap true).dwr == 0),
    gives (.samplePreload true 7 9) m (fun t => (t.tap true).captured == 7 && (t.tap true).dwr == 9),
    gives (.mbist true 1) m (fun t => t.running true == .mbist),
    gives (.mbist true 0) m (fun t => t.running true == .none_)] : List Bool).all id) = true := by decide +kernel

/-! ## Rules stated whole -/

theorem test_descriptors_named : (let g := g1 7 257 ++ [(BLD_RD_CFG_PART 255, 2), (BLD_RD_CFG_PART 0, 2)]; ([
    gives (.rdcfg 1) (progS (iw 0x20 0 2 7 (2 ^ 23 + 256 + 254)) (g ++ g1 2 5)) (fun t => t.rd (BLD_RD_BASE_BASE 255) == 5 && t.rd (BLD_RD_BASE_BASE 254) == 0 && t.pst 1 != 5),
    gives (.rdcfg 1) (progS (iw 0x20 0 2 7 (2 ^ 23 + 256 + 255)) (g ++ g1 2 5)) (fun t => t.rd (BLD_RD_BASE_BASE 0) == 5),
    gives (.rdcfg 1) (progS (iw 0x20 0 2 7 (256 + 255)) (g ++ g1 2 5)) (fun t => t.rd (BLD_RD_BASE_BASE 255) == 5),
    gives (.rdcfg 1) (progS (iw 0x20 0 2 7 (256 + 1)) g) (fun t => t.pst 1 == 5 && t.rd (BLD_PINFO_FAULT 1) == 3),
    gives (.rdcmd 1) (progS (iw 0x21 0 0 7 (2 ^ 23 + 3 * 256 + 254)) (g ++ [(BLD_RD_CFG_STATE 255, 3)])) (fun t => t.dst 255 == 0),
    gives (.recv 1) (progS (iw 0x22 4 0 7 (2 ^ 23 + 254)) (g ++ [(BLD_RD_CFG_STATE 255, 5)])) (fun t => t.gReg 1 4 == 5),
    gives (.rdst 1) (progS (iw 0x23 4 0 7 (2 ^ 23 + 254)) (g ++ [(BLD_RD_CFG_STATE 255, 3), (BLD_RD_RECV 255, 9)])) (fun t => t.gReg 1 4 == 3 * 2 ^ 32 + 9),
    gives (.emit 1) (progS (iw 0x24 4 0 7 (2 ^ 18 + 1023 * 256 + 255)) (g ++ [(BLD_TPL_B_PART 0, 2)])) (fun t => t.gReg 1 4 == 1 && t.pst 1 != 5),
    gives (.emit 1) (progS (iw 0x24 4 0 7 (1023 * 256 + 255)) (g ++ [(BLD_TPL_B_PART 0, 2)])) (fun t => t.pst 1 == 5 && t.rd (BLD_PINFO_FAULT 1) == 3),
    gives (.cvt 1) (progS (iw 0x25 4 0 7 (2 ^ 23 + 255 * 256 + 254)) g) (fun t => t.gReg 1 4 == 1),
    gives (.cvt 1) (progS (iw 0x25 4 0 7 (255 * 256 + 1)) g) (fun t => t.pst 1 == 5)] : List Bool).all id) = true := by decide +kernel

/-- One resource of link 0 in the tracker, whose sensor reads a value in eighths of a degree. -/
def bandS (x : Nat) : State := put { r0 with track := [0] } ((List.range 12).flatMap fun i => [(PAC_TEMP_VALID i, 1), (PAC_TEMP_TEMP i, x)])

theorem test_sensor_bands : (([
    ([(0, 0), (399, 0), (400, 1), (799, 5), (800, 6), (879, 6), (880, 7), (1016, 7), (4095, 0)].all fun e => (bandS e.1).band 0 == e.2) && r0.rd TEL_TBAND_TB0 == 40 && r0.rd TEL_TBAND_TBW == 10,
    [(399, 0), (400, 1), (879, 6), (880, 7)].all fun e => gives .trackerResidenceTick (bandS e.1) (fun t => t.rd (TEL_TBIN_RES 0 e.2) == 1)] : List Bool).all id) = true := by decide +kernel

/-- A build of 4 bond tiles and 16 links, with the selectors of the ports beyond its groups. -/
def small (l : List (Fld × Nat)) : State := put { r0 with tiles := 4, links := 16 } ([(BND_SEL_GROUP 1, 2047), (KT_BND_SEL_GROUP 3, 2047)] ++ l)

theorem test_beyond : beyondB (small []) 1 0x1FFFC ∧ beyondB (small []) 1 0x14000 ∧ beyondB (small []) 1 0x8410 ∧ beyondB (small []) 1 0x8100 ∧ beyondT (small []) 3 0x2413 := by
  refine ⟨.inl ⟨63, 0x3FC, ?_, ?_, ?_, ?_⟩, .inl ⟨16, 0, ?_, ?_, ?_, ?_⟩, .inr (.inl ⟨4, ?_, ?_, ?_⟩), .inr (.inr ?_), ?_⟩ <;> first | (unfold beyondT; decide +kernel) | decide +kernel

theorem test_beyond_registers : (let s := small [(BND_ROLE_BT 4, 1), (LNK_CTL_EN 16, 1)]; ([
    gives (.registerRead .bPort 0x14004) s (fun t => t.pins.bAck && !t.pins.bErr && t.pins.bRdata == 0),
    gives (.registerRead .bPort 0x8410) s (fun t => t.pins.bAck && t.pins.bRdata == 0),
    gives (.registerRead .bPort 0x8100) s (fun t => t.pins.bAck && t.pins.bRdata == 0),
    mayB s 0x14004 1 && mayB s 0x8410 1 && mayB s 0x8100 1 && s.mayWrite false (tBase + 0x2100) 1,
    gives (.registerWrite .bPort 0x14004 0) s (fun t => { t with pins := s.pins } == s),
    gives (.registerWrite .bPort 0x8100 1) s (fun t => { t with pins := s.pins } == s),
    gives (.registerRead .tPort (tBase + 0x2100)) s (fun t => t.pins.tAck && !t.pins.tErr && t.pins.tRdata == 0),
    gives (.registerWrite .tPort (tBase + 0x2100) 1) s (fun t => { t with pins := s.pins } == s && !t.pins.tErr)] : List Bool).all id) = true := by decide +kernel

theorem test_stores : (([
    r0.canon && (r0.setWord 5 0).canon,
    (r0.setWord 0xb3808 7).canon && ((r0.setWord 0xb3808 7).setWord 0xb3808 0) == r0] : List Bool).all id) = true := by decide +kernel

end Sys2Proof.Tests
end

section
/-!
SUPPORT. What a collective program's instructions do to the state in steps that all of them share: the issue of an
instruction, the register file, the state and the waits of a program, and the commands of Blend (R307, R308, R326 to R331, R343).
-/
namespace Sys2Proof.Machine

/-! ## Which registers an update may change -/

/-- An update keeps the queue, the build, the reset inputs and Blend's queues, and every register word whose key is not in `A`. -/
def State.Touches (A : Nat → Prop) (s t : State) : Prop :=
  State.Kept s t ∧ t.blend = s.blend ∧ ∀ k, ¬ A k → t.word k = s.word k

/-- The registers of contexts, of the program commands and of their events (R324, R327, R340). -/
def ctxKey (k : Nat) : Prop := 0xb3000 ≤ k ∧ k < 0xb4000

/-- The registers that hold the state and the waits of program p, with those of contexts, the program table and the log. -/
def waitKey (p k : Nat) : Prop := k = progKey p + 4 ∨ ctxKey k ∨ (0xb8000 ≤ k ∧ k < 0xc0000) ∨ telKey k

/-- The registers that commands of Blend and wakes of programs may change besides the configuration of a descriptor. -/
def unitKey (k : Nat) : Prop := (0xb0000 ≤ k ∧ k < 0xb0400) ∨ ctxKey k ∨ (0xb8000 ≤ k ∧ k < 0xc0000) ∨ 0x40000000 ≤ k ∨ telKey k

theorem unitKey_of_waitKey (p k : Nat) (h : waitKey p k) : unitKey k := by
  unfold waitKey progKey at h
  rcases h with h | h | h | h
  · exact Or.inr (Or.inr (Or.inr (Or.inl (by omega))))
  · exact Or.inr (Or.inl h)
  · exact Or.inr (Or.inr (Or.inl h))
  · exact Or.inr (Or.inr (Or.inr (Or.inr h)))

theorem State.Kept.trans {s t u : State} (a : State.Kept s t) (b : State.Kept t u) : State.Kept s u := by
  obtain ⟨a1, a2, a3, a4, a5⟩ := a
  obtain ⟨b1, b2, b3, b4, b5⟩ := b
  exact ⟨b1.trans a1, b2.trans a2, b3.trans a3, b4.trans a4, b5.trans a5⟩

section
variable {A B : Nat → Prop} {s t u : State}

theorem State.Touches.kept (h : s.Touches A t) : State.Kept s t := h.1

theorem State.Touches.blend (h : s.Touches A t) : t.blend = s.blend := h.2.1

theorem State.Touches.word (h : s.Touches A t) {k : Nat} (hk : ¬ A k) : t.word k = s.word k := h.2.2 k hk

theorem State.Touches.rd (h : s.Touches A t) {f : Fld} (hk : ¬ A f.key) : t.rd f = s.rd f := by
  unfold State.rd; rw [h.word hk]

theorem State.Touches.refl (s : State) : s.Touches A s := ⟨⟨rfl, rfl, rfl, rfl, rfl⟩, rfl, fun _ _ => rfl⟩

theorem State.Touches.trans (a : s.Touches A t) (b : t.Touches A u) : s.Touches A u :=
  ⟨a.kept.trans b.kept, b.blend.trans a.blend, fun _ hk => (b.word hk).trans (a.word hk)⟩

theorem State.Touches.mono (h : s.Touches A t) (hAB : ∀ k, A k → B k) : s.Touches B t :=
  ⟨h.kept, h.blend, fun k hk => h.word fun ha => hk (hAB k ha)⟩

theorem State.Quiet.touches (h : s.Quiet t) (hw : ∀ k, ¬ A k → t.word k = s.word k) : s.Touches A t :=
  ⟨h.kept, h.field (·.blend) (fun _ _ _ _ _ _ _ _ => rfl), hw⟩

theorem State.foldl_touches {α : Type} (f : State → α → State) (l : List α) (hf : ∀ (s : State), ∀ a ∈ l, s.Touches A (f s a)) (s : State) :
    s.Touches A (l.foldl f s) := by
  induction l generalizing s with
  | nil => exact .refl s
  | cons a l ih => exact (hf s a (by simp)).trans (ih (fun s b hb => hf s b (by simp [hb])) _)

end

theorem State.wr_touches {A : Nat → Prop} (s : State) (f : Fld) (v : Nat) (h : A f.key) : s.Touches A (s.wr f v) :=
  (State.wr_quiet s f v).touches fun k hk => State.wr_word_ne s f v k fun e => hk (e ▸ h)

theorem State.raise_touches {A : Nat → Prop} (s : State) (e : Ev) (h : A e.key) (hc : A e.cnt.key) (ht : ∀ k, telKey k → A k) :
    s.Touches A (s.raise e) :=
  (State.raise_quiet s e none).touches fun k hk =>
    State.raise_word s e none k (fun h' => hk (ht k h')) (fun h' => hk (h' ▸ h)) (fun h' => hk (h' ▸ hc))

theorem State.trace_word (s : State) (a b k : Nat) (h : ¬ telKey k) : (s.trace a b).word k = s.word k := by
  unfold telKey at h
  unfold State.trace
  split
  · split
    · unfold State.enqueue
      rw [State.count_word _ _ _ _ (by simp [TEL_LSEQ]; omega)]
      rfl
    · exact State.count_word _ _ _ _ (by simp [TEL_TDROP]; omega)
  · rfl

theorem State.trace_touches {A : Nat → Prop} (s : State) (a b : Nat) (ht : ∀ k, telKey k → A k) : s.Touches A (s.trace a b) :=
  (State.trace_quiet s a b).touches fun k hk => State.trace_word s a b k fun h => hk (ht k h)

theorem State.setPx_touches {A : Nat → Prop} (s : State) (p : Nat) (x : ProgX) : s.Touches A (s.setPx p x) :=
  ⟨⟨rfl, rfl, rfl, rfl, rfl⟩, rfl, fun _ _ => rfl⟩

/-! ## The hidden state of a program -/

@[simp] theorem State.px_setPx_same (s : State) (p : Nat) (x : ProgX) : (s.setPx p x).px p = x := by simp [State.px]

theorem State.Quiet.px {s t : State} (h : s.Quiet t) (p : Nat) : t.px p = s.px p :=
  h.field (fun u => u.px p) (fun _ _ _ _ _ _ _ _ => rfl)

/-! ## The register file of a program (R328) -/

theorem State.setG_touches (s : State) (p i v : Nat) (hi : i < 16) :
    s.Touches (fun k => k = (BLD_PG_LO p i).key ∨ k = (BLD_PG_HI p i).key) (s.setG p i v) := by
  unfold State.setG State.wr2
  rw [Nat.mod_eq_of_lt hi]
  exact (State.wr_touches _ _ _ (Or.inl rfl)).trans (State.wr_touches _ _ _ (Or.inr rfl))

theorem State.setG_touches_unit (s : State) (p i v : Nat) : s.Touches unitKey (s.setG p i v) := by
  have hw : ∀ (f : Fld) (s : State) (x : Nat), 0x40000000 ≤ f.key → s.Touches unitKey (s.wr f x) :=
    fun f s x hf => State.wr_touches s f x (Or.inr (Or.inr (Or.inr (Or.inl hf))))
  unfold State.setG State.wr2
  exact (hw _ _ _ (by simp [BLD_PG_LO, progKey]; omega)).trans (hw _ _ _ (by simp [BLD_PG_HI, progKey]; omega))

/-- A register of a program reads back what was written to it, modulo 2^64. -/
theorem State.gReg_setG_same (s : State) (p i v : Nat) (hi : i < 16) : (s.setG p i v).gReg p i = v % 2 ^ 64 := by
  have hne : (BLD_PG_LO p i).key ≠ (BLD_PG_HI p i).key := by simp [BLD_PG_LO, BLD_PG_HI]
  unfold State.gReg State.setG State.rd2 State.wr2
  rw [Nat.mod_eq_of_lt hi, State.rd_wr_ne _ _ _ _ hne, State.rd_wr_same _ _ _ (by simp [BLD_PG_LO]), State.rd_wr_same _ _ _ (by simp [BLD_PG_HI])]
  simp only [BLD_PG_LO, BLD_PG_HI, Nat.shiftRight_eq_div_pow, Nat.shiftLeft_eq]
  omega

/-- An update that leaves the state and the waits of a program at most changed leaves its register file as it is. -/
theorem State.Touches.gReg {s t : State} {p i : Nat} (h : s.Touches (waitKey p) t) (hi : i < 16) : t.gReg p i = s.gReg p i := by
  unfold State.gReg State.rd2
  rw [h.rd (by simp [BLD_PG_LO, waitKey, ctxKey, telKey, progKey]; omega), h.rd (by simp [BLD_PG_HI, waitKey, ctxKey, telKey, progKey]; omega)]

theorem fD_lt (w : Nat) : fD w < 16 := bits_lt w 52 4

/-! ## The state, the faults and the waits of a program (R326, R327, R339, R340) -/

section
variable {p : Nat} (hp : p < 4096)
include hp

theorem State.setPst_touches (s : State) (st wait : Nat) : s.Touches (waitKey p) (s.setPst p st wait) := by
  have hst : waitKey p (BLD_PRG_B_STATE p).key := by simp [waitKey, BLD_PRG_B_STATE]; omega
  have hwait : waitKey p (BLD_PINFO_WAIT p).key := Or.inl rfl
  have hact : waitKey p BLD_PSTAT_ACTIVE.key := by simp [waitKey, ctxKey, BLD_PSTAT_ACTIVE]
  have h := (State.wr_touches s (BLD_PRG_B_STATE p) st hst).trans (State.wr_touches _ (BLD_PINFO_WAIT p) wait hwait)
  unfold State.setPst
  simp only []
  split
  · exact h.trans (State.wr_touches _ _ _ hact)
  · split
    · exact h.trans (State.wr_touches _ _ _ hact)
    · exact h

theorem State.pst_setPst (s : State) (st wait : Nat) : (s.setPst p st wait).pst p = st % 16 := by
  have hwait : (BLD_PRG_B_STATE p).key ≠ (BLD_PINFO_WAIT p).key := by simp [BLD_PRG_B_STATE, BLD_PINFO_WAIT, progKey]; omega
  have hact : (BLD_PRG_B_STATE p).key ≠ BLD_PSTAT_ACTIVE.key := by simp [BLD_PRG_B_STATE, BLD_PSTAT_ACTIVE]; omega
  have h : ((s.wr (BLD_PRG_B_STATE p) st).wr (BLD_PINFO_WAIT p) wait).rd (BLD_PRG_B_STATE p) = st % 16 := by
    rw [State.rd_wr_ne _ _ _ _ hwait, State.rd_wr_same _ _ _ (by simp [BLD_PRG_B_STATE])]
    simp [BLD_PRG_B_STATE]
  unfold State.pst State.setPst
  simp only []
  split
  · rw [State.rd_wr_ne _ _ _ _ hact, h]
  · split
    · rw [State.rd_wr_ne _ _ _ _ hact, h]
    · exact h

/-- A new state with its WAIT code leaves the fault cause of the program as it is. -/
theorem State.fault_setPst (s : State) (st wait : Nat) : (s.setPst p st wait).rd (BLD_PINFO_FAULT p) = s.rd (BLD_PINFO_FAULT p) := by
  have hst : (BLD_PINFO_FAULT p).key ≠ (BLD_PRG_B_STATE p).key := by simp [BLD_PRG_B_STATE, BLD_PINFO_FAULT, progKey]; omega
  have hact : (BLD_PINFO_FAULT p).key ≠ BLD_PSTAT_ACTIVE.key := by simp [BLD_PINFO_FAULT, BLD_PSTAT_ACTIVE, progKey]; omega
  have h : ((s.wr (BLD_PRG_B_STATE p) st).wr (BLD_PINFO_WAIT p) wait).rd (BLD_PINFO_FAULT p) = s.rd (BLD_PINFO_FAULT p) := by
    rw [State.rd_wr_apart _ _ _ _ (by simp [BLD_PINFO_WAIT]) (by simp [BLD_PINFO_WAIT, BLD_PINFO_FAULT]), State.rd_wr_ne _ _ _ _ hst]
  unfold State.setPst
  simp only []
  split
  · rw [State.rd_wr_ne _ _ _ _ hact, h]
  · split
    · rw [State.rd_wr_ne _ _ _ _ hact, h]
    · exact h

theorem State.Touches.pst_of_ctxKey {s t : State} (h : s.Touches ctxKey t) : t.pst p = s.pst p :=
  h.rd (by simp [ctxKey, BLD_PRG_B_STATE]; omega)

end

theorem waitKey_of_ctxKey (p k : Nat) (h : ctxKey k) : waitKey p k := Or.inr (Or.inl h)

theorem waitKey_of_telKey (p k : Nat) (h : telKey k) : waitKey p k := Or.inr (Or.inr (Or.inr h))

theorem unitKey_of_telKey (k : Nat) (h : telKey k) : unitKey k := Or.inr (Or.inr (Or.inr (Or.inr h)))

theorem State.releaseCtx_touches (s : State) (p : Nat) : s.Touches ctxKey (s.releaseCtx p) := by
  unfold State.releaseCtx
  split
  · next c _ =>
    have hv : ctxKey (BLD_CTX_VALID (c % 256)).key := by simp [ctxKey, BLD_CTX_VALID]; omega
    have hn : ctxKey BLD_PSTAT_CTX.key := by simp [ctxKey, BLD_PSTAT_CTX]
    exact ((State.wr_touches _ _ _ hv).trans (State.wr_touches _ (BLD_CTX_PROG (c % 256)) _ hv)).trans
      ((State.wr_touches _ _ _ hn).trans (State.setPx_touches _ _ _))
  · exact .refl s

theorem State.raise_pfault_touches (s : State) : s.Touches (fun k => ctxKey k ∨ telKey k) (s.raise EV_PRG_PFAULT) :=
  State.raise_touches s _ (by simp [ctxKey, EV_PRG_PFAULT]) (by simp [ctxKey, EV_PRG_PFAULT, BLD_PFAULT_CNT]) (fun _ h => Or.inr h)

section
variable {p : Nat} (hp : p < 4096)
include hp

theorem State.endProg_touches (s : State) (st : Nat) : s.Touches (waitKey p) (s.endProg p st) :=
  ((State.setPst_touches hp s st 0).trans ((State.releaseCtx_touches _ p).mono (waitKey_of_ctxKey p))).trans (State.setPx_touches _ _ _)

theorem State.pst_endProg (s : State) (st : Nat) : (s.endProg p st).pst p = st % 16 :=
  ((State.releaseCtx_touches _ p).pst_of_ctxKey hp).trans (State.pst_setPst hp s st 0)

/-- A fault ends the program in FAULT and shows its cause (R327). -/
theorem State.progFault_faulted (s : State) (cause : Nat) (hc : cause < 16) :
    State.Kept s (s.progFault p cause) ∧ (s.progFault p cause).pst p = 5 ∧ (s.progFault p cause).rd (BLD_PINFO_FAULT p) = cause := by
  have hraise := State.raise_pfault_touches ((s.wr (BLD_PINFO_FAULT p) cause).endProg p 5)
  refine ⟨?_, ?_, ?_⟩
  · exact ((State.wr_quiet s _ _).kept.trans (State.endProg_touches hp _ 5).kept).trans hraise.kept
  · exact (hraise.rd (by simp [ctxKey, telKey, BLD_PRG_B_STATE]; omega)).trans (State.pst_endProg hp _ 5)
  · have hfault : ¬ ctxKey (BLD_PINFO_FAULT p).key ∧ ¬ telKey (BLD_PINFO_FAULT p).key := by
      simp [ctxKey, telKey, BLD_PINFO_FAULT, progKey]; omega
    calc (s.progFault p cause).rd (BLD_PINFO_FAULT p)
      _ = (((s.wr (BLD_PINFO_FAULT p) cause).setPst p 5 0).releaseCtx p).rd (BLD_PINFO_FAULT p) := hraise.rd (by simp [hfault])
      _ = ((s.wr (BLD_PINFO_FAULT p) cause).setPst p 5 0).rd (BLD_PINFO_FAULT p) := (State.releaseCtx_touches _ p).rd hfault.1
      _ = (s.wr (BLD_PINFO_FAULT p) cause).rd (BLD_PINFO_FAULT p) := State.fault_setPst hp _ 5 0
      _ = cause := (State.rd_wr_same _ _ _ (by simp [BLD_PINFO_FAULT])).trans (Nat.mod_eq_of_lt hc)

/-- A wait that ends leaves the program in RUN or READY, or in STOPPED where STOP waited for it. -/
theorem State.progReady_pst (s : State) (due : Option Nat) : (s.progReady p due).pst p ≠ 5 := by
  unfold State.progReady
  simp only []
  split
  · rw [State.pst_endProg hp]; decide
  · split
    · rw [State.pst_setPst hp]; decide
    · rw [State.pst_setPst hp]; decide

theorem State.progReady_touches (s : State) (due : Option Nat) : s.Touches (waitKey p) (s.progReady p due) := by
  unfold State.progReady
  simp only []
  split
  · exact State.endProg_touches hp s 6
  · have h : ∀ y : ProgX, s.Touches (waitKey p) ((s.setPx p y).trace 7 2) := fun y =>
      (State.setPx_touches s p y).trans (State.trace_touches _ 7 2 (waitKey_of_telKey p))
    split
    · exact (h _).trans (State.setPst_touches hp _ 2 0)
    · exact (h _).trans (State.setPst_touches hp _ 1 8)

theorem State.progDone_touches (s : State) (v : Nat) : s.Touches unitKey (s.progDone p v) :=
  (State.setG_touches_unit s p _ v).trans ((State.progReady_touches hp _ none).mono (unitKey_of_waitKey p))

theorem State.progDone_pst (s : State) (v : Nat) : (s.progDone p v).pst p ≠ 5 := State.progReady_pst hp _ none

/-- The result of a command arrives in the register that its instruction named. -/
theorem State.progDone_gReg (s : State) (v : Nat) (hd : (s.px p).d < 16) : (s.progDone p v).gReg p (s.px p).d = v % 2 ^ 64 :=
  ((State.progReady_touches hp _ none).gReg hd).trans (State.gReg_setG_same s p _ v hd)

/-- A wait in which the program keeps its context. -/
theorem State.progWait_touches (s : State) (wait : Nat) (x : ProgX → ProgX) : s.Touches (waitKey p) (s.progWait p wait true x) :=
  (State.setPst_touches hp s 3 wait).trans (State.setPx_touches _ _ _)

end

@[simp] theorem State.px_progWait (s : State) (p wait : Nat) (x : ProgX → ProgX) : (s.progWait p wait true x).px p = x (s.px p) :=
  State.px_setPx_same _ _ _

/-! ## Commands of Blend (R306 to R308) -/

theorem State.wakeRecv_touches (s : State) (d st : Nat) : s.Touches unitKey (s.wakeRecv d st) := by
  refine State.foldl_touches _ _ (fun s q hq => ?_) s
  have hq' : q < 4096 := by
    simp only [State.programs, List.mem_filter, decide_eq_true_eq] at hq
    exact hq.1.2
  exact State.progDone_touches hq' s st

theorem State.setDst_touches (s : State) (d st : Nat) : s.Touches (fun k => k = (BLD_RD_CFG_STATE d).key ∨ unitKey k) (s.setDst d st) := by
  have harm : unitKey BLD_STATUS_ARMED.key := by simp [unitKey, BLD_STATUS_ARMED]
  have h := (State.wr_touches (A := fun k => k = (BLD_RD_CFG_STATE d).key ∨ unitKey k) s (BLD_RD_CFG_STATE d) st (Or.inl rfl)).trans
    (State.wr_touches _ BLD_STATUS_ARMED ((List.range 256).filter fun i => (s.wr (BLD_RD_CFG_STATE d) st).dst i != 0).length (Or.inr harm))
  unfold State.setDst
  simp only []
  split
  · exact h.trans ((State.wakeRecv_touches _ d st).mono fun _ hk => Or.inr hk)
  · exact h

/-- The state of a descriptor does not sit among the registers that commands and wakes change. -/
theorem State.Touches.dst {s t : State} (h : s.Touches unitKey t) {c : Nat} (hc : c < 256) : t.dst c = s.dst c :=
  h.rd (by simp [unitKey, ctxKey, telKey, BLD_RD_CFG_STATE]; omega)

theorem State.dst_setDst_same (s : State) {d : Nat} (hd : d < 256) (st : Nat) : (s.setDst d st).dst d = st % 8 := by
  have harm : (BLD_RD_CFG_STATE d).key ≠ BLD_STATUS_ARMED.key := by simp [BLD_RD_CFG_STATE, BLD_STATUS_ARMED]; omega
  have h : ∀ n, ((s.wr (BLD_RD_CFG_STATE d) st).wr BLD_STATUS_ARMED n).dst d = st % 8 := fun n => by
    unfold State.dst
    rw [State.rd_wr_ne _ _ _ _ harm, State.rd_wr_same _ _ _ (by simp [BLD_RD_CFG_STATE])]
    simp [BLD_RD_CFG_STATE]
  unfold State.setDst
  simp only []
  split
  · exact ((State.wakeRecv_touches _ d st).dst hd).trans (h _)
  · exact h _

theorem State.dst_setDst_ne (s : State) {c d : Nat} (hc : c < 256) (hcd : c ≠ d) (st : Nat) : (s.setDst d st).dst c = s.dst c :=
  (State.setDst_touches s d st).rd (by simp [unitKey, ctxKey, telKey, BLD_RD_CFG_STATE]; omega)

theorem State.drainCmds_of_none (s : State) (h : s.blend.cmds = []) : s.drainCmds = s := by
  unfold State.drainCmds; rw [h]; rfl

/-- A command that need not wait, given to Blend while none waits, is carried out, and nothing more if it leaves none waiting. -/
theorem State.blendCmd_of_idle (s : State) (c : BCmd) (hw : s.cmdWaits c = false) (h : (s.runCmd c).blend.cmds = []) : s.blendCmd c = s.runCmd c := by
  unfold State.blendCmd
  rw [hw]
  exact State.drainCmds_of_none _ h

section
variable {p : Nat} (hp : p < 4096)
include hp

/-- FREE of a program (R308) brings its descriptor to FREE and changes the state of no other, and its program goes on. -/
theorem State.blendCmd_free (s : State) (c : BCmd) (hop : c.op = 3) (hprog : c.prog = some p) (hrd : c.rd < 256) (hw : s.cmdWaits c = false)
    (hcmds : s.blend.cmds = []) :
    State.Kept s (s.blendCmd c) ∧ (s.blendCmd c).pst p ≠ 5 ∧ (s.blendCmd c).dst c.rd = 0 ∧
      ∀ d, d < 256 → d ≠ c.rd → (s.blendCmd c).dst d = s.dst d := by
  have hshow : s.Touches unitKey ((s.wr BLD_DSTAT_RD c.rd).trace 6 3) :=
    (State.wr_touches s _ _ (by simp [unitKey, BLD_DSTAT_RD])).trans (State.trace_touches _ 6 3 unitKey_of_telKey)
  have hrun : s.runCmd c = (((s.wr BLD_DSTAT_RD c.rd).trace 6 3).setDst c.rd 0).progDone p 0 := by
    unfold State.runCmd State.cmdOk
    simp [hop, hprog]
  have hset := State.setDst_touches ((s.wr BLD_DSTAT_RD c.rd).trace 6 3) c.rd 0
  have hdone := State.progDone_touches hp (((s.wr BLD_DSTAT_RD c.rd).trace 6 3).setDst c.rd 0) 0
  have hblend : (s.runCmd c).blend.cmds = [] := by
    rw [hrun, hdone.blend, hset.blend, hshow.blend, hcmds]
  rw [State.blendCmd_of_idle s c hw hblend, hrun]
  refine ⟨(hshow.kept.trans hset.kept).trans hdone.kept, State.progDone_pst hp _ 0, ?_, fun d hd hne => ?_⟩
  · exact (hdone.dst hrd).trans (State.dst_setDst_same _ hrd 0)
  · exact ((hdone.dst hd).trans (State.dst_setDst_ne _ hd hne 0)).trans (hshow.dst hd)

/-- An emission of a program is refused with result 1 while its descriptor is FREE (R312). -/
theorem State.blendCmd_emit_of_free (s : State) (c : BCmd) (hop : 4 ≤ c.op) (hprog : c.prog = some p) (hrd : c.rd < 256)
    (hhold : s.on BLD_STATUS_HOLD = false) (hfree : s.dst c.rd = 0) (hcmds : s.blend.cmds = []) (hd : (s.px p).d < 16) :
    State.Kept s (s.blendCmd c) ∧ (s.blendCmd c).pst p ≠ 5 ∧ (s.blendCmd c).gReg p (s.px p).d = 1 := by
  have htrace : s.Touches unitKey (s.trace 6 3) := State.trace_touches s 6 3 unitKey_of_telKey
  have hreason : (s.trace 6 3).emitReason c = 1 := by
    unfold State.emitReason
    simp [htrace.dst hrd, hfree]
  have hrun : s.runCmd c = (s.trace 6 3).progDone p 1 := by
    unfold State.runCmd State.cmdRefuse
    simp only [hprog]
    simp [hreason, show ¬ c.op ≤ 3 by omega, show c.op ≠ 1 by omega, show c.op ≠ 2 by omega, show c.op ≠ 3 by omega]
  have hdone := State.progDone_touches hp (s.trace 6 3) 1
  have hblend : (s.runCmd c).blend.cmds = [] := by rw [hrun, hdone.blend, htrace.blend, hcmds]
  have hw : s.cmdWaits c = false := by simp [State.cmdWaits, hfree, hhold]
  have hpx : (s.trace 6 3).px p = s.px p := (State.trace_quiet s 6 3).px p
  rw [State.blendCmd_of_idle s c hw hblend, hrun]
  refine ⟨htrace.kept.trans hdone.kept, State.progDone_pst hp _ 1, ?_⟩
  rw [← hpx] at hd ⊢
  exact State.progDone_gReg hp _ 1 hd

end

end Sys2Proof.Machine
end

section
/-!
SUPPORT. The descriptor and the template that an instruction names (R330), instruction by instruction.
-/
namespace Sys2Proof.Machine

/-! ## The issue of an instruction (R329) -/

/-- Program p with its PC moved on past the instruction that it issues. -/
def State.advanced (s : State) (p : Nat) : State :=
  (s.wr (BLD_PINFO_PC p) (s.rd (BLD_PINFO_PC p) + 1)).setPx p { s.px p with issued := (s.px p).issued + 1 }

theorem State.eccRead_of_good (s : State) (mem addr : Nat) (h : s.wordErr mem addr = 0) : s.eccRead mem addr = (s, false) := by
  unfold State.eccRead; simp only [h, if_true]

/-- A running program whose word spells the instruction carries it out. -/
theorem State.issue_of_runs {s : State} {p w c : Nat} (h : Runs s p w c) (hc : opcKnown c = true) (f : State → Nat → State) :
    s.issue p c f = f (s.advanced p) w := by
  obtain ⟨-, hp, hrun, hlo, hhi, hgood, hw, hopc⟩ := h
  have hidle : ¬ (4096 ≤ p ∨ s.pst p ≠ 2) := by omega
  have hpc : ¬ (s.rd (BLD_PINFO_PC p) < s.rd (BLD_PRG_A_START p) ∨
      s.rd (BLD_PRG_A_START p) + max 1 (s.rd (BLD_PRG_B_LEN p)) ≤ s.rd (BLD_PINFO_PC p)) := by omega
  unfold State.issue
  rw [if_neg hidle]
  simp only [if_neg hpc, State.eccRead_of_good s 2 _ hgood, hw, hopc, hc]
  simp [State.advanced]

theorem State.rd_advanced_of_ne (s : State) (p : Nat) (f : Fld) (h : f.key ≠ progKey p + 4) : (s.advanced p).rd f = s.rd f :=
  State.rd_wr_ne s (BLD_PINFO_PC p) f _ h

theorem State.rd_advanced_of_above (s : State) (p : Nat) (f : Fld) (h : 14 ≤ f.lo) : (s.advanced p).rd f = s.rd f :=
  State.rd_wr_apart s (BLD_PINFO_PC p) f _ (by simp [BLD_PINFO_PC]) (Or.inr (by simpa [BLD_PINFO_PC] using h))

theorem State.advanced_touches (s : State) (p : Nat) : s.Touches (waitKey p) (s.advanced p) :=
  State.Touches.trans (State.wr_touches s (BLD_PINFO_PC p) _ (Or.inl rfl)) (State.setPx_touches _ _ _)

@[simp] theorem State.time_advanced (s : State) (p : Nat) : (s.advanced p).time = s.time := by simp [State.advanced]

@[simp] theorem State.outranked_advanced (s : State) (p k r : Nat) : (s.advanced p).outranked k r = s.outranked k r := by
  simp [State.outranked, State.advanced]

theorem State.pst_advanced (s : State) {p : Nat} (hp : p < 4096) : (s.advanced p).pst p = s.pst p :=
  State.rd_advanced_of_ne s p _ (by simp [BLD_PRG_B_STATE, progKey]; omega)

@[simp] theorem State.gReg_advanced (s : State) (p i : Nat) : (s.advanced p).gReg p i = s.gReg p i := by
  unfold State.gReg State.rd2
  rw [State.rd_advanced_of_ne s p _ (by simp [BLD_PG_LO]; omega), State.rd_advanced_of_ne s p _ (by simp [BLD_PG_HI]; omega)]

@[simp] theorem State.gA_advanced (s : State) (p w : Nat) : (s.advanced p).gA p w = s.gA p w := State.gReg_advanced s p _

@[simp] theorem State.gB_advanced (s : State) (p w : Nat) : (s.advanced p).gB p w = s.gB p w := State.gReg_advanced s p _

/-! ## What an instruction names (R330) -/

@[simp] theorem State.descOf_advanced (s : State) (p w lo : Nat) : (s.advanced p).descOf p w lo = s.descOf p w lo := by
  simp [State.descOf]

theorem State.descOf_lt (s : State) (p w lo : Nat) : s.descOf p w lo < 256 := Nat.mod_lt _ (by decide)

/-- IMM[7:0], or with IDX that plus G[B][7:0] modulo 256. -/
theorem State.descOf_eq (s : State) (p w lo : Nat) :
    s.descOf p w lo = if bitAt w 23 then (bits w lo 8 + s.gReg p (bits w 44 4) % 256) % 256 else bits w lo 8 := by
  have h8 : bits w lo 8 < 256 := bits_lt w lo 8
  unfold State.descOf State.gB fB
  split
  · rfl
  · exact Nat.mod_eq_of_lt h8

/-- The template that an EMIT names. -/
def State.tplOf (s : State) (p w : Nat) : Nat := (bits w 8 10 + (if bitAt w 18 then s.gB p w % 256 else 0)) % 1024

@[simp] theorem State.tplOf_advanced (s : State) (p w : Nat) : (s.advanced p).tplOf p w = s.tplOf p w := by
  simp [State.tplOf]

theorem State.tplOf_def (s : State) (p w : Nat) : (bits w 8 10 + (if bitAt w 18 then s.gB p w % 256 else 0)) % 1024 = s.tplOf p w := rfl

/-- IMM[17:8], or with TIDX that plus G[B][7:0] modulo 1,024. -/
theorem State.tplOf_eq (s : State) (p w : Nat) :
    s.tplOf p w = if bitAt w 18 then (bits w 8 10 + s.gReg p (bits w 44 4) % 256) % 1024 else bits w 8 10 := by
  have h10 : bits w 8 10 < 1024 := bits_lt w 8 10
  unfold State.tplOf State.gB fB
  split
  · rfl
  · exact Nat.mod_eq_of_lt h10

/-- The descriptor has another partition than the program (R325). -/
def State.OtherD (s : State) (p d : Nat) : Prop := s.rd (BLD_RD_CFG_PART d) ≠ s.rd (BLD_PRG_A_PART p)

/-- The template has another partition than the program. -/
def State.OtherT (s : State) (p t : Nat) : Prop := s.rd (BLD_TPL_B_PART t) ≠ s.rd (BLD_PRG_A_PART p)

theorem State.part_advanced (s : State) (p : Nat) : (s.advanced p).rd (BLD_PRG_A_PART p) = s.rd (BLD_PRG_A_PART p) :=
  State.rd_advanced_of_above s p _ (by simp [BLD_PRG_A_PART])

@[simp] theorem State.foreignD_advanced (s : State) (p d : Nat) : (s.advanced p).foreignD p d = true ↔ s.OtherD p d := by
  unfold State.foreignD State.OtherD
  rw [State.part_advanced, State.rd_advanced_of_ne s p _ (by simp [BLD_RD_CFG_PART, progKey]; omega), bne_iff_ne]

@[simp] theorem State.foreignT_advanced (s : State) (p t : Nat) : (s.advanced p).foreignT p t = true ↔ s.OtherT p t := by
  unfold State.foreignT State.OtherT
  rw [State.part_advanced, State.rd_advanced_of_above s p _ (by simp [BLD_TPL_B_PART]), bne_iff_ne]

@[simp] theorem State.dst_advanced (s : State) (p d : Nat) : (s.advanced p).dst d = s.dst d :=
  State.rd_advanced_of_above s p _ (by simp [BLD_RD_CFG_STATE])

/-! ## An instruction that names a descriptor -/

theorem State.Answers.mono {s : State} {i : Instr} {P Q : State → Prop} (h : s.Answers i P) (hPQ : ∀ t, P t → Q t) : s.Answers i Q := by
  obtain ⟨t, he, hP⟩ := h
  exact ⟨t, he, hPQ t hP⟩

/-- An instruction that faults with 3 where what it names is foreign, and else goes on to `u` without a fault. -/
theorem State.answers_named {s u : State} {p w c : Nat} {i : Instr} {g : State → Nat → State} {other : Prop} {Q : State → Prop}
    (h : Runs s p w c) (hc : opcKnown c = true) (e : exec i s = instr s p c g)
    (hfault : other → g (s.advanced p) w = (s.advanced p).progFault p 3) (hown : ¬ other → g (s.advanced p) w = u)
    (hkept : State.Kept (s.advanced p) u) (hpst : u.pst p ≠ 5) (hQ : Q u) :
    s.Answers i (fun t => faultsIff t p 3 other ∧ (¬ other → Q t)) := by
  have ⟨hb, hp, _⟩ := h
  have hadv := (State.advanced_touches s p).kept
  have hissue := State.issue_of_runs h hc g
  by_cases ho : other
  · obtain ⟨hkeptF, hpstF, hcause⟩ := State.progFault_faulted hp (s.advanced p) 3 (by decide)
    rw [hfault ho] at hissue
    refine State.answers_onB e hb (hissue ▸ hadv.trans hkeptF) fun t ht => ?_
    rw [ht, hissue]
    exact ⟨⟨fun _ => ⟨hpstF, hcause⟩, fun hn => absurd ho hn⟩, fun hn => absurd ho hn⟩
  · rw [hown ho] at hissue
    refine State.answers_onB e hb (hissue ▸ hadv.trans hkept) fun t ht => ?_
    rw [ht, hissue]
    exact ⟨⟨fun hy => absurd hy ho, fun _ => hpst⟩, fun _ => hQ⟩

/-! ## What the instructions do with the descriptor -/

/-- A write of a descriptor's base by program p, if no later source has written it in this KCLK: only the base of that
descriptor changes, and only where the descriptor is FREE; the program goes on (R306). -/
theorem State.configWrite_base (s : State) {p d v : Nat} {f : State → State} (hf : f s = s.writeCfg p d 1 v) (hp : p < 4096) (hd : d < 256) (hrun : s.pst p ≠ 5)
    (hrank : ∀ k ∈ cfgKeys d 1, s.outranked k p = false) :
    State.Kept s (s.configWrite d f) ∧ (s.configWrite d f).pst p ≠ 5 ∧
      (s.dst d = 0 → (s.configWrite d f).rd (BLD_RD_BASE_BASE d) = v % 2 ^ 18 ∧
        ∀ c, c ≠ d → (s.configWrite d f).rd (BLD_RD_BASE_BASE c) = s.rd (BLD_RD_BASE_BASE c)) := by
  have hr : s.outranked (BLD_RD_BASE_BASE d).key p = false := hrank _ (by simp [cfgKeys])
  have hcfg : f s = (s.noteWrite (BLD_RD_BASE_BASE d).key p).wr (BLD_RD_BASE_BASE d) v := by
    simp [hf, State.writeCfg, cfgKeys, hr]
  unfold State.configWrite
  by_cases hfree : s.dst d = 0
  · rw [if_pos hfree, hcfg]
    have hpst : ((s.noteWrite (BLD_RD_BASE_BASE d).key p).wr (BLD_RD_BASE_BASE d) v).pst p = s.pst p :=
      State.rd_wr_ne _ _ _ _ (by simp [BLD_RD_BASE_BASE, BLD_PRG_B_STATE]; omega)
    refine ⟨(State.wr_quiet (s.noteWrite _ _) _ _).kept, fun e => hrun (hpst.symm.trans e), fun _ => ⟨?_, fun c hc => ?_⟩⟩
    · exact State.rd_wr_same _ _ _ (by simp [BLD_RD_BASE_BASE])
    · exact State.rd_wr_ne _ _ _ _ (by simp [BLD_RD_BASE_BASE]; omega)
  · rw [if_neg hfree]
    have hpst : (s.raise EV_BLD_DREJ).pst p = s.pst p := by
      unfold State.pst
      refine State.raise_rd s EV_BLD_DREJ none (BLD_PRG_B_STATE p) ?_ ?_ ?_
      · simp [telKey, BLD_PRG_B_STATE]; omega
      · simp [EV_BLD_DREJ, BLD_PRG_B_STATE]; omega
      · simp [EV_BLD_DREJ, BLD_DREJ_CNT, BLD_PRG_B_STATE]; omega
    refine ⟨(State.raise_quiet s _ none).kept, ?_, fun h => absurd h hfree⟩
    rwa [hpst]

section
variable (s : State) (p : Nat)

theorem State.fnow_advanced : (s.advanced p).fnow = s.fnow := by
  have htim : ∀ f : Fld, f.key < 0x40000000 → (s.advanced p).rd f = s.rd f := fun f hf =>
    State.rd_advanced_of_ne s p f (by unfold progKey; omega)
  unfold State.fnow State.cycle State.angle
  rw [htim TIM_CYC_LO (by simp [TIM_CYC_LO]), htim TIM_CYC_HI_CYCLE (by simp [TIM_CYC_HI_CYCLE]), htim TIM_ANGLE_ANGLE (by simp [TIM_ANGLE_ANGLE]),
    htim TIM_ANGLE_FRAC (by simp [TIM_ANGLE_FRAC]), State.time_advanced]

theorem State.incr_advanced : (s.advanced p).incr = s.incr := by
  unfold State.incr
  rw [State.rd_advanced_of_ne s p TIM_INC_LO (by simp [TIM_INC_LO, progKey]; omega),
    State.rd_advanced_of_ne s p TIM_INC_HI_INC (by simp [TIM_INC_HI_INC, progKey]; omega)]

theorem State.deadline_advanced : (s.advanced p).deadline p = s.deadline p := by
  unfold State.deadline State.rd2
  rw [State.rd_advanced_of_ne s p (BLD_PDL_LO p) (by simp [BLD_PDL_LO]), State.rd_advanced_of_ne s p (BLD_PDL_HI p) (by simp [BLD_PDL_HI])]

theorem State.recvLate_advanced (st : Nat) : (s.advanced p).recvLate p st = s.recvLate p st := by
  unfold State.recvLate State.on State.reached
  rw [State.rd_advanced_of_above s p (BLD_PINFO_DLV p) (by simp [BLD_PINFO_DLV]), State.fnow_advanced, State.incr_advanced, State.deadline_advanced]

end

/-- The word that RDST gives: RECV in bits [31:0], the state above it. -/
theorem rdst_fields (a b c d : Nat) (ha : a < 2 ^ 32) (hb : b < 2 ^ 3) :
    pack [(0, 32, a), (32, 3, b), (35, 2, c), (37, 1, d)] % 2 ^ 64 % 2 ^ 32 = a ∧
      pack [(0, 32, a), (32, 3, b), (35, 2, c), (37, 1, d)] % 2 ^ 64 / 2 ^ 32 % 2 ^ 3 = b := by
  have ha' : a % 2 ^ 32 = a := Nat.mod_eq_of_lt ha
  have hb' : b % 2 ^ 3 = b := Nat.mod_eq_of_lt hb
  constructor
  · rw [← ha']
    refine Nat.eq_of_testBit_eq fun i => ?_
    simp only [pack, Nat.testBit_mod_two_pow, Nat.testBit_or, Nat.testBit_shiftLeft]
    by_cases hi : i < 32
    · simp [hi, show i < 64 by omega, show ¬ 32 ≤ i by omega, show ¬ 35 ≤ i by omega, show ¬ 37 ≤ i by omega]
    · simp [hi]
  · rw [← hb']
    refine Nat.eq_of_testBit_eq fun i => ?_
    simp only [pack, Nat.testBit_mod_two_pow, Nat.testBit_or, Nat.testBit_shiftLeft, Nat.testBit_div_two_pow]
    by_cases hi : i < 3
    · simp [hi, show i + 32 < 64 by omega, show ¬ i + 32 < 32 by omega, show ¬ 35 ≤ i + 32 by omega, show ¬ 37 ≤ i + 32 by omega]
    · simp [hi]

/-- An instruction that writes its result into G[D] at once. -/
theorem State.setG_named {s : State} {p w c : Nat} (h : Runs s p w c) (v : Nat) :
    State.Kept (s.advanced p) ((s.advanced p).setG p (fD w) v) ∧ ((s.advanced p).setG p (fD w) v).pst p ≠ 5 ∧
      ((s.advanced p).setG p (fD w) v).gReg p (fD w) = v % 2 ^ 64 := by
  obtain ⟨-, hp, hrun, -⟩ := h
  have hset := State.setG_touches (s.advanced p) p (fD w) v (fD_lt w)
  have hpst : ((s.advanced p).setG p (fD w) v).pst p = 2 :=
    ((hset.rd (by simp [BLD_PRG_B_STATE, BLD_PG_LO, BLD_PG_HI, progKey]; omega)).trans (State.pst_advanced s hp)).trans hrun
  exact ⟨hset.kept, by rw [hpst]; decide, State.gReg_setG_same _ p _ v (fD_lt w)⟩

/-- An EMIT or a CVT of a FREE descriptor ends with the result 1 (R312, R333, R334). -/
theorem State.emitCmd_named {s : State} {p w c op d to_ : Nat} (h : Runs s p w c) (hop : 4 ≤ op) (hd : d < 256) (hfree : s.dst d = 0)
    (hhold : s.on BLD_STATUS_HOLD = false) (hcmds : s.blend.cmds = []) :
    State.Kept (s.advanced p) ((s.advanced p).emitCmd p w op d to_) ∧ ((s.advanced p).emitCmd p w op d to_).pst p ≠ 5 ∧
      ((s.advanced p).emitCmd p w op d to_).gReg p (fD w) = 1 := by
  have ⟨_, hp, _⟩ := h
  have hwait := State.progWait_touches hp (s.advanced p) 4 fun x => { x with d := fD w }
  have hsame := (State.advanced_touches s p).trans hwait
  have hon : ((s.advanced p).progWait p 4 true fun x => { x with d := fD w }).on BLD_STATUS_HOLD = false := by
    unfold State.on at hhold ⊢
    rwa [hsame.rd (by simp [waitKey, ctxKey, telKey, BLD_STATUS_HOLD, progKey]; omega)]
  have hreg : (((s.advanced p).progWait p 4 true fun x => { x with d := fD w }).px p).d = fD w := by rw [State.px_progWait]
  obtain ⟨hkept, hpst, hres⟩ := State.blendCmd_emit_of_free hp ((s.advanced p).progWait p 4 true fun x => { x with d := fD w })
    { op := op, rd := d, prog := some p, k0 := (s.advanced p).gA p w % 2 ^ 18, n := bits w 24 18, to_ := to_, clear := bitAt w 20,
      free := bitAt w 21, force := bitAt w 22 } hop rfl hd hon (((hsame.mono (unitKey_of_waitKey p)).dst hd).trans hfree) (hsame.blend ▸ hcmds)
    (by rw [hreg]; exact fD_lt w)
  rw [hreg] at hres
  exact ⟨hwait.kept.trans hkept, hpst, hres⟩

/-! ## One instruction after the other -/

section
variable {s : State} {p w : Nat}

/-- RDCFG writes the base of the descriptor that it names. -/
theorem rdcfg_named (h : Runs s p w 0x20) (hsel : bits w 8 4 = 1) (hrank : ∀ k ∈ cfgKeys (s.descOf p w 0) 1, s.outranked k p = false) :
    s.Answers (.rdcfg p) (fun t => faultsIff t p 3 (s.OtherD p (s.descOf p w 0)) ∧ (¬ s.OtherD p (s.descOf p w 0) → s.dst (s.descOf p w 0) = 0 →
      t.rd (BLD_RD_BASE_BASE (s.descOf p w 0)) = s.gA p w % 2 ^ 18 ∧
        ∀ c, c < 256 → c ≠ s.descOf p w 0 → t.rd (BLD_RD_BASE_BASE c) = s.rd (BLD_RD_BASE_BASE c))) := by
  have ⟨_, hp, hst, _⟩ := h
  have hrun : (s.advanced p).pst p ≠ 5 := by rw [State.pst_advanced s hp, hst]; decide
  obtain ⟨hkept, hpst, hbase⟩ := State.configWrite_base (s.advanced p) (f := fun u => u.writeCfg p (s.descOf p w 0) 1 (u.gA p w)) rfl hp
    (State.descOf_lt s p w 0) hrun (by simpa using hrank)
  refine State.answers_named h rfl rfl (fun ho => ?_) (fun ho => ?_) hkept hpst fun hfree => ?_
  · simp [hsel, ho]
  · simp [hsel, ho]
  · obtain ⟨hnamed, hothers⟩ := hbase ((State.dst_advanced s p _).trans hfree)
    rw [State.gA_advanced] at hnamed
    exact ⟨hnamed, fun c _ hc => (hothers c hc).trans (State.rd_advanced_of_ne s p _ (by simp [BLD_RD_BASE_BASE, progKey]; omega))⟩

/-- RDCMD gives its command to the descriptor that it names. -/
theorem rdcmd_named (h : Runs s p w 0x21) (hcmd : bits w 8 4 = 3) (hinit : s.dst (s.descOf p w 0) ≠ 1) (hemit : s.dst (s.descOf p w 0) ≠ 4)
    (hcmds : s.blend.cmds = []) :
    s.Answers (.rdcmd p) (fun t => faultsIff t p 3 (s.OtherD p (s.descOf p w 0)) ∧ (¬ s.OtherD p (s.descOf p w 0) →
      t.dst (s.descOf p w 0) = 0 ∧ ∀ c, c < 256 → c ≠ s.descOf p w 0 → t.dst c = s.dst c)) := by
  have ⟨_, hp, _⟩ := h
  have hd := State.descOf_lt s p w 0
  have hwait := State.progWait_touches hp (s.advanced p) 4 fun x => { x with d := fD w }
  have hsame := ((State.advanced_touches s p).trans hwait).mono (unitKey_of_waitKey p)
  obtain ⟨hkept, hpst, hnamed, hothers⟩ := State.blendCmd_free hp ((s.advanced p).progWait p 4 true fun x => { x with d := fD w })
    { op := 3, rd := s.descOf p w 0, prog := some p, k0 := 0, n := 0, to_ := 0, clear := false, free := false, force := false } rfl rfl hd
    (by simp [State.cmdWaits, hsame.dst hd, hinit, hemit]) (hsame.blend ▸ hcmds)
  refine State.answers_named h rfl rfl (fun ho => ?_) (fun ho => ?_) (hwait.kept.trans hkept) hpst ⟨hnamed, fun c hc hne => ?_⟩
  · simp [hcmd, ho]
  · simp [hcmd, ho]
  · exact (hothers c hc hne).trans (hsame.dst hc)

/-- RECV gives the state of the descriptor that it names. -/
theorem recv_named (h : Runs s p w 0x22) (hlate : s.recvLate p (s.dst (s.descOf p w 0)) = false)
    (hst : s.dst (s.descOf p w 0) = 3 ∨ s.dst (s.descOf p w 0) = 5 ∨ s.dst (s.descOf p w 0) = 0) :
    s.Answers (.recv p) (fun t => faultsIff t p 3 (s.OtherD p (s.descOf p w 0)) ∧ (¬ s.OtherD p (s.descOf p w 0) →
      t.gReg p (fD w) = s.dst (s.descOf p w 0))) := by
  obtain ⟨hkept, hpst, hres⟩ := State.setG_named h (s.dst (s.descOf p w 0))
  refine State.answers_named h rfl rfl (fun ho => ?_) (fun ho => ?_) hkept hpst (hres.trans (Nat.mod_eq_of_lt (by omega)))
  · simp [ho]
  · simp [ho, State.recvLate_advanced, hlate, hst]

/-- RDST reads the descriptor that it names. -/
theorem rdst_named (h : Runs s p w 0x23) :
    s.Answers (.rdst p) (fun t => faultsIff t p 3 (s.OtherD p (s.descOf p w 0)) ∧ (¬ s.OtherD p (s.descOf p w 0) →
      t.gReg p (fD w) % 2 ^ 32 = s.rd (BLD_RD_RECV (s.descOf p w 0)) ∧ t.gReg p (fD w) / 2 ^ 32 % 8 = s.dst (s.descOf p w 0))) := by
  have hrecv : (s.advanced p).rd (BLD_RD_RECV (s.descOf p w 0)) = s.rd (BLD_RD_RECV (s.descOf p w 0)) :=
    State.rd_advanced_of_ne s p _ (by simp [BLD_RD_RECV, progKey]; omega)
  obtain ⟨hkept, hpst, hres⟩ := State.setG_named h (pack [(0, 32, s.rd (BLD_RD_RECV (s.descOf p w 0))), (32, 3, s.dst (s.descOf p w 0)),
    (35, 2, (s.advanced p).rd (BLD_RD_SCYC_HI_ERRC (s.descOf p w 0))), (37, 1, (s.advanced p).rd (BLD_RD_SCYC_HI_PARTIAL (s.descOf p w 0)))])
  refine State.answers_named h rfl rfl (fun ho => ?_) (fun ho => ?_) hkept hpst ?_
  · simp [ho]
  · simp [ho, hrecv]
  · rw [hres]
    exact rdst_fields _ _ _ _ (bits_lt _ 0 32) (bits_lt _ 28 3)

/-- EMIT moves from the descriptor and with the template that it names. -/
theorem emit_named (h : Runs s p w 0x24) (hfree : s.dst (s.descOf p w 0) = 0) (hhold : s.on BLD_STATUS_HOLD = false) (hcmds : s.blend.cmds = []) :
    s.Answers (.emit p) (fun t => faultsIff t p 3 (s.OtherD p (s.descOf p w 0) ∨ s.OtherT p (s.tplOf p w)) ∧
      (¬ (s.OtherD p (s.descOf p w 0) ∨ s.OtherT p (s.tplOf p w)) → t.gReg p (fD w) = 1)) := by
  obtain ⟨hkept, hpst, hres⟩ := State.emitCmd_named (op := 4) (to_ := s.tplOf p w) h (by decide) (State.descOf_lt s p w 0) hfree hhold hcmds
  refine State.answers_named h rfl rfl (fun ho => ?_) (fun ho => ?_) hkept hpst hres
  · simp [State.tplOf_def, ho]
  · simp [State.tplOf_def, ho]

/-- CVT moves between the two descriptors that it names. -/
theorem cvt_named (h : Runs s p w 0x25) (hfree : s.dst (s.descOf p w 0) = 0) (hhold : s.on BLD_STATUS_HOLD = false) (hcmds : s.blend.cmds = []) :
    s.Answers (.cvt p) (fun t => faultsIff t p 3 (s.OtherD p (s.descOf p w 0) ∨ s.OtherD p (s.descOf p w 8)) ∧
      (¬ (s.OtherD p (s.descOf p w 0) ∨ s.OtherD p (s.descOf p w 8)) → t.gReg p (fD w) = 1)) := by
  obtain ⟨hkept, hpst, hres⟩ := State.emitCmd_named (op := 5) (to_ := s.descOf p w 8) h (by decide) (State.descOf_lt s p w 0) hfree hhold hcmds
  refine State.answers_named h rfl rfl (fun ho => ?_) (fun ho => ?_) hkept hpst hres
  · simp [ho]
  · simp [ho]

end

/-- Settles O56: instruction by instruction, each having the descriptor of R330 as `State.descOf` and the template as `State.tplOf`. -/
theorem descriptorsNamed : Obligations.DescriptorsNamed := by
  unfold Obligations.DescriptorsNamed
  intro s p w
  simp only [← State.descOf_eq, ← State.tplOf_eq]
  refine ⟨rdcfg_named, fun h hcmd hinit hemit _ hcmds _ => rdcmd_named h hcmd hinit hemit hcmds, recv_named, rdst_named,
    fun h hfree hhold _ hcmds _ => ?_, fun h hfree hhold _ hcmds _ => ?_⟩
  · exact (emit_named h hfree hhold hcmds).mono fun t ⟨hf, hres⟩ => ⟨hf, fun hd ht => hres (not_or.2 ⟨hd, fun hne => hne ht⟩)⟩
  · exact (cvt_named h hfree hhold hcmds).mono fun t ⟨hf, hres⟩ => ⟨hf, fun hd he => hres (not_or.2 ⟨hd, fun hne => hne he⟩)⟩

end Sys2Proof.Machine
end

section
/-!
SUPPORT. The temperature band of a sensor (R433), and the bin in which a residence tick counts (R435).
-/
namespace Sys2Proof.Machine

/-! ## Clamping -/

theorem le_clampTop_iff (k top x : Nat) : k ≤ clampTop top x ↔ k ≤ top ∧ k ≤ x := by
  unfold clampTop
  split <;> omega

theorem clampTop_eq_min (top x : Nat) : clampTop top x = min top x := by
  unfold clampTop
  split <;> omega

/-- A field counted up reads one more, held at its greatest value. -/
theorem State.rd_countSat_same (s : State) (f : Fld) (h : f.lo + f.w ≤ 32) : (s.countSat f).rd f = min (2 ^ f.w - 1) (s.rd f + 1) := by
  have hlt : min (2 ^ f.w - 1) (s.rd f + 1) < 2 ^ f.w := Nat.lt_of_le_of_lt (Nat.min_le_left _ _) (Nat.sub_lt (Nat.two_pow_pos _) Nat.one_pos)
  unfold State.countSat
  rw [State.rd_wr_same _ _ _ h, clampTop_eq_min, Nat.mod_eq_of_lt hlt]

/-! ## The band of a sensor (R433) -/

theorem State.band_le (s : State) (i : Nat) : s.band i ≤ 7 := by
  unfold State.band
  simp only []
  split
  · exact Nat.zero_le 7
  · exact ((le_clampTop_iff _ _ _).1 (Nat.le_refl _)).1

/-- A sensor is in band k or above when its reading, in eighths of a degree, is k bands or more above the lower end. -/
theorem State.le_band_iff (s : State) (i : Nat) {k : Nat} (hk : k ≤ 7) (h0 : 0 < k) :
    k ≤ s.band i ↔ (8 * (max 1 (s.rd TEL_TBAND_TBW) * k : Nat) : Int) ≤ s.temp i - 8 * sgn 8 (s.rd TEL_TBAND_TB0) := by
  unfold State.band
  simp only []
  have hpos : (0 : Int) < 8 * (max 1 (s.rd TEL_TBAND_TBW) : Nat) := by omega
  have hquot := Int.le_ediv_iff_mul_le (a := k) (b := s.temp i - 8 * sgn 8 (s.rd TEL_TBAND_TB0)) hpos
  have hmul : (k : Int) * (8 * (max 1 (s.rd TEL_TBAND_TBW) : Nat)) = 8 * (max 1 (s.rd TEL_TBAND_TBW) * k : Nat) := by
    rw [Int.natCast_mul, Int.mul_left_comm, Int.mul_comm (k : Int)]
  rw [← hmul, ← hquot]
  split
  · next hneg => omega
  · next hnn => rw [le_clampTop_iff]; omega

/-! ## A residence tick (R435) -/

theorem TEL_TBIN_RES_key_inj {e b c : Nat} (h : (TEL_TBIN_RES e c).key = (TEL_TBIN_RES e b).key) : c = b := by
  simp only [TEL_TBIN_RES] at h
  omega

/-- The age of an entry is kept apart from its bins. -/
theorem TEL_TBIN_RES_key_ne_age (e b : Nat) : (TEL_TBIN_RES e b).key ≠ (TEL_TCNT_AGE e).key := by
  simp only [TEL_TBIN_RES, TEL_TCNT_AGE]
  omega

/-- The band of the home sensor of an entry's resource. -/
def State.entryBand (s : State) (e : Nat) : Nat := s.band (s.homeSensor (s.rd (TEL_TRID_RID e)))

theorem State.ageEntry_quiet (s : State) (e : Nat) : s.Quiet (s.ageEntry e) := by
  unfold State.ageEntry State.countSat
  exact (State.wr_quiet s _ _).trans (State.wr_quiet _ _ _)

/-- The bins after an entry has aged: those of the residence counted in the entry's band. -/
theorem State.rd_ageEntry_bin (s : State) (e c : Nat) :
    (s.ageEntry e).rd (TEL_TBIN_RES e c) = (s.countSat (TEL_TBIN_RES e (s.entryBand e))).rd (TEL_TBIN_RES e c) :=
  State.rd_wr_ne _ _ _ _ (TEL_TBIN_RES_key_ne_age e c)

theorem State.rd_ageEntry_bin_same (s : State) (e : Nat) :
    (s.ageEntry e).rd (TEL_TBIN_RES e (s.entryBand e)) = min 0xFFFF (s.rd (TEL_TBIN_RES e (s.entryBand e)) + 1) := by
  rw [State.rd_ageEntry_bin]
  exact State.rd_countSat_same s (TEL_TBIN_RES e (s.entryBand e)) (Nat.le_refl 32)

theorem State.rd_ageEntry_bin_ne (s : State) (e : Nat) {c : Nat} (h : c ≠ s.entryBand e) :
    (s.ageEntry e).rd (TEL_TBIN_RES e c) = s.rd (TEL_TBIN_RES e c) := by
  rw [State.rd_ageEntry_bin]
  exact State.rd_wr_ne s _ _ _ fun hkey => h (TEL_TBIN_RES_key_inj hkey)

/-- A residence tick with one entry in use ages that entry. -/
theorem State.answers_residenceTick {s : State} {e : Nat} {P : State → Prop} (hb : s.bReset = false) (ht : s.track = [e]) (h : P (s.ageEntry e)) :
    s.Answers .trackerResidenceTick P := by
  have hfold : s.track.foldl (fun (s : State) e => s.ageEntry e) s = s.ageEntry e := by rw [ht]; rfl
  refine State.answers_onB (f := fun s => s.track.foldl (fun (s : State) e => s.ageEntry e) s) rfl hb ?_ fun t eq => ?_
  · rw [hfold]
    exact (State.ageEntry_quiet s e).kept
  · rw [eq, hfold]
    exact h

/-! ## The statement -/

/-- The bands with 40 °C and 10 °C. -/
theorem State.band_at_reset_values {s : State} (i : Nat) (h0 : s.rd TEL_TBAND_TB0 = 40) (hw : s.rd TEL_TBAND_TBW = 10) :
    (s.band i = 0 ↔ s.temp i < 8 * 50) ∧ (s.band i = 6 ↔ 8 * 100 ≤ s.temp i ∧ s.temp i < 8 * 110) ∧ (s.band i = 7 ↔ 8 * 110 ≤ s.temp i) := by
  have htb0 : sgn 8 40 = 40 := rfl
  have hmax : max 1 10 = 10 := rfl
  have hle := State.band_le s i
  have h1 := State.le_band_iff s i (k := 1) (by decide) (by decide)
  have h6 := State.le_band_iff s i (k := 6) (by decide) (by decide)
  have h7 := State.le_band_iff s i (k := 7) (by decide) (by decide)
  rw [h0, hw, htb0, hmax] at h1 h6 h7
  omega

/-- Settles O57: a tick counts in the entry's band, which lies where R433 puts it. -/
theorem sensorBands : Obligations.SensorBands := by
  unfold Obligations.SensorBands
  refine ⟨fun s e hb ht _ hw => ?_, by decide, by decide, fun s i h0 hw => State.band_at_reset_values i h0 hw⟩
  have hlower {k : Nat} (hk : k ≤ 7) (hk0 : 0 < k) := State.le_band_iff s (s.homeSensor (s.rd (TEL_TRID_RID e))) hk hk0
  rw [Nat.max_eq_right hw] at hlower
  have hle : s.entryBand e ≤ 7 := State.band_le s _
  refine State.answers_residenceTick hb ht ⟨s.entryBand e, hle, fun hlt => ?_, fun hpos => (hlower hle hpos).1 (Nat.le_refl _),
    State.rd_ageEntry_bin_same s e, fun c _ hc => State.rd_ageEntry_bin_ne s e hc⟩
  exact Int.not_le.1 fun hge => Nat.not_succ_le_self _ ((hlower hlt (Nat.succ_pos _)).2 hge)

end Sys2Proof.Machine
end

section
/-!
SUPPORT. Accesses that reach no register: those beyond the build, and those for which the selector selects nothing (R465).
-/
namespace Sys2Proof.Machine

/-! ## What lies beyond the build reaches no register -/

theorem groupWindow_iff (k : Nat) :
    groupWindow k = true ↔ (0x8044 ≤ k ∧ k ≤ 0x804c ∨ 0x8100 ≤ k ∧ k ≤ 0x8213 ∨ 0x8300 ≤ k ∧ k ≤ 0x83ff ∨ 0x8480 ≤ k ∧ k ≤ 0x8493) ∨
      0xf4100 ≤ k ∧ k ≤ 0xf41fb := by
  simp [groupWindow, or_assoc]

/-- No selector lies in a window of the registers that a group's selector addresses. -/
theorem selectors_outside_windows {k : Nat} (h : selectors.contains k = true) :
    groupWindow k = false ∧ ∀ o, k = tBase + o → o < 0x2100 ∨ 0x2413 < o ∧ o < 0x8100 := by
  have hall : ∀ j ∈ selectors, groupWindow j = false ∧ (j - tBase < 0x2100 ∨ 0x2413 < j - tBase ∧ j - tBase < 0x8100) := by decide
  obtain ⟨hB, hT⟩ := hall k (List.contains_iff_mem.1 h)
  exact ⟨hB, fun o ho => by rwa [ho, Nat.add_sub_cancel_left] at hT⟩

theorem State.homeOf_groupWindow (s : State) (m : Master) {k : Nat} (hg : s.groups ≤ s.rd (BND_SEL_GROUP (copyOf m))) (hk : groupWindow k = true) :
    s.homeOf m k = none := by
  have hsel : ¬ selectors.contains k = true := fun h => by simp [(selectors_outside_windows h).1] at hk
  have hnot : ¬ s.rd (BND_SEL_GROUP (copyOf m)) < s.groups := Nat.not_lt.2 hg
  unfold State.homeOf
  simp only [if_neg hsel, hnot, false_and, if_false, Bool.or_eq_true, decide_eq_true_eq, or_assoc]
  rcases (groupWindow_iff k).1 hk with hlow | hhist
  · rw [if_pos hlow]
  · repeat rw [if_neg (by omega)]
    rw [if_pos hhist]

theorem State.homeOf_groupWindowT (s : State) (m : Master) {o : Nat} (h : beyondT s (copyOf m) o) : s.homeOf m (tBase + o) = none := by
  obtain ⟨hg, hwin⟩ := h
  have hsel : ¬ selectors.contains (tBase + o) = true := fun h => by
    have hout := (selectors_outside_windows h).2 o rfl
    omega
  have hnot : ¬ s.rd (KT_BND_SEL_GROUP (copyOf m)) < s.groups := Nat.not_lt.2 hg
  have hbase : tBase = 0x100000 := rfl
  generalize hkey : tBase + o = k at hsel ⊢
  unfold State.homeOf
  simp only [if_neg hsel, hnot, false_and, if_false, Bool.or_eq_true, decide_eq_true_eq, or_assoc]
  rcases or_assoc.2 hwin with htap | hhist
  · repeat rw [if_neg (by omega)]
    rw [if_pos (by omega)]
  · repeat rw [if_neg (by omega)]
    rw [if_pos (by omega)]

theorem State.beyondBuild_link (s : State) {n o : Nat} (hn : s.links ≤ n) (h64 : n < 64) (ho : o < 0x400) :
    s.beyondBuild (0x10000 + 0x400 * n + o) = true := by
  have hpage : (0x10000 + 0x400 * n + o - 0x10000) / 0x400 = n := by omega
  simp only [State.beyondBuild, hpage, Bool.or_eq_true, Bool.and_eq_true, decide_eq_true_eq]
  omega

theorem State.beyondBuild_role (s : State) {i : Nat} (hi : s.tiles ≤ i) (h16 : i < 16) : s.beyondBuild (0x8400 + 4 * i) = true := by
  have htile : (0x8400 + 4 * i - 0x8400) / 4 = i := by omega
  simp only [State.beyondBuild, htile, Bool.or_eq_true, Bool.and_eq_true, decide_eq_true_eq]
  omega

theorem State.reachesNone_of_beyondB {s : State} {m : Master} {k : Nat} (h : beyondB s (copyOf m) k) : s.reachesNone m k = true := by
  unfold State.reachesNone
  rcases h with ⟨n, o, hn, h64, ho, rfl⟩ | ⟨i, hi, h16, rfl⟩ | ⟨hg, hk⟩
  · rw [State.beyondBuild_link s hn h64 ho, Bool.true_or]
  · rw [State.beyondBuild_role s hi h16, Bool.true_or]
  · rw [State.homeOf_groupWindow s m hg hk, Option.isNone_none, Bool.or_true]

theorem State.reachesNone_of_beyondT {s : State} {m : Master} {o : Nat} (h : beyondT s (copyOf m) o) : s.reachesNone m (tBase + o) = true := by
  rw [State.reachesNone, State.homeOf_groupWindowT s m h, Option.isNone_none, Bool.or_true]

/-- Kalvon-B's registers beyond the build lie outside the routing table. -/
theorem beyondB_place {s : State} {c k : Nat} (h : beyondB s c k) : k < tBase ∧ ¬ (0x40000 ≤ k ∧ k < 0x80000) := by
  unfold tBase
  rcases h with ⟨n, o, -, h64, ho, rfl⟩ | ⟨i, -, h16, rfl⟩ | ⟨-, hk⟩
  · omega
  · omega
  · have hwin := (groupWindow_iff k).1 hk
    omega

/-! ## Accesses that reach no register -/

theorem State.readNow_of_reachesNone {s : State} {m : Master} {k : Nat} (h : s.reachesNone m k = true) : s.readNow m k = 0 := by
  unfold State.readNow
  rcases (Bool.or_eq_true _ _).mp h with hbeyond | hnone
  · cases regRow k with
    | none => rfl
    | some r => simp only [hbeyond, if_true]
  · rw [Option.isNone_iff_eq_none.1 hnone]
    cases regRow k with
    | none => rfl
    | some r => simp only [ite_self]

theorem State.regRead_of_reachesNone {s : State} {m : Master} {k : Nat} (h : s.reachesNone m k = true) : (s.regRead m k).1 = 0 := by
  have hnow := State.readNow_of_reachesNone h
  unfold State.regRead
  simp only [hnow, h, if_true]
  split
  · rfl
  · split
    · rfl
    · split <;> rfl

/-- A read outside the routing table changes the latches alone (R468). -/
theorem State.regRead_latches (s : State) (m : Master) {k : Nat} (hk : ¬ (0x40000 ≤ k ∧ k < 0x80000)) :
    (s.regRead m k).2 = { s with latches := (s.regRead m k).2.latches } := by
  have hroute : (decide (0x40000 ≤ k) && decide (k < 0x80000)) = false := by simpa using hk
  unfold State.regRead
  simp only [hroute, Bool.false_eq_true, if_false]
  split
  · split <;> rfl
  · split <;> rfl

/-- A write that a master may make of no register is done, and nothing comes of it. -/
theorem State.regWrite_of_reachesNone {s : State} {m : Master} {k v : Nat} (h : s.reachesNone m k = true)
    (hmay : (s.viewOf k).mayWrite (decide (m = .side)) k v = true) (hfence : (s.viewOf k).on GLB_FENCE_HOST = false) : s.regWrite m k v = (s, 0) := by
  unfold State.regWrite
  simp only [hmay, hfence, Bool.not_true, Bool.and_false, Bool.false_eq_true, if_false]
  rcases (Bool.or_eq_true _ _).mp h with hbeyond | hnone
  · cases regRow k <;> cases s.homeOf m k <;> simp only [hbeyond, if_true]
  · rw [Option.isNone_iff_eq_none.1 hnone]
    cases regRow k <;> rfl

/-! ## At the ports (R54) -/

/-- An access at Kalvon-B's port to an aligned offset of Kalvon-B, out of reset. -/
theorem State.access_bPort {s : State} {k : Nat} (write : Bool) (v : Nat) (h4 : k % 4 = 0) (hk : k < tBase) (hb : s.bReset = false) :
    s.access .bPort write k v = s.bPort write k (v % 2 ^ 32) := by
  have hbase : tBase = 0x100000 := rfl
  have hkey : k % 0x200000 / 4 * 4 = k := by omega
  simp only [State.access, hkey, hk, State.onB, hb, if_true, Bool.false_eq_true, if_false]

/-- An access at Kalvon-T's port to an aligned offset of Kalvon-T, out of reset. -/
theorem State.access_tPort {s : State} {o : Nat} (write : Bool) (v : Nat) (h4 : o % 4 = 0) (ho : o < 0x10000) (ht : s.tReset = false) :
    s.access .tPort write (tBase + o) v = s.tPort write (tBase + o) (v % 2 ^ 32) := by
  have hbase : tBase = 0x100000 := rfl
  have hkey : (tBase + o) % 0x200000 / 4 * 4 = tBase + o := by omega
  simp only [State.access, hkey, State.onT, ht, Bool.false_eq_true, if_false]

theorem State.bPort_read_of_reachesNone {s : State} {k : Nat} (d : Nat) (h : s.reachesNone .bPort k = true) (hk : ¬ (0x40000 ≤ k ∧ k < 0x80000)) :
    s.bPort false k d =
      { s with latches := (s.regRead .bPort k).2.latches, pins := { s.pins with bAck := true, bRdata := 0, bErr := false } } := by
  simp only [State.bPort, Bool.false_eq_true, if_false, State.regRead_of_reachesNone h]
  rw [State.regRead_latches s .bPort hk]

theorem State.bPort_write_of_reachesNone {s : State} {k v : Nat} (h : s.reachesNone .bPort k = true) (hk : k < tBase)
    (hmay : s.mayWrite false k v = true) (hfence : s.on GLB_FENCE_HOST = false) :
    s.bPort true k v = { s with pins := { s.pins with bAck := true, bRdata := 0, bErr := false } } := by
  have hview : s.viewOf k = s := if_neg (Nat.not_le.2 hk)
  have hwrite : s.regWrite .bPort k v = (s, 0) := State.regWrite_of_reachesNone h (hview.symm ▸ hmay) (hview.symm ▸ hfence)
  simp only [State.bPort, if_true, hwrite, ne_eq, not_true, decide_false]

/-- An access at Kalvon-T's port to a register of Kalvon-T, with none outstanding, is local. -/
theorem State.tPort_read_of_reachesNone {s : State} {o : Nat} (d : Nat) (h : s.reachesNone .tPort (tBase + o) = true) (ho : o < 0x10000)
    (hc : s.crossing 0 = false) :
    s.tPort false (tBase + o) d = ({ s with latches := (s.regRead .tPort (tBase + o)).2.latches } : State).tDone 0 false := by
  have hspace : ¬ tBase + 0x10000 ≤ tBase + o := by omega
  have hroute : ¬ (0x40000 ≤ tBase + o ∧ tBase + o < 0x80000) := by
    have hbase : tBase = 0x100000 := rfl
    omega
  simp only [State.tPort, hc, Bool.false_eq_true, if_false, hspace, Nat.le_add_right, if_true, State.regRead_of_reachesNone h]
  rw [State.regRead_latches s .tPort hroute]

/-- A write that changes no shared setting does not cross either (R25 rule 1). -/
theorem State.tPort_write_of_reachesNone {s : State} {o v : Nat} (h : s.reachesNone .tPort (tBase + o) = true) (ho : o < 0x10000)
    (hc : s.crossing 0 = false) (hcls : clsMask (tBase + o) .i = 0) (hmay : (s.viewOf (tBase + o)).mayWrite false (tBase + o) v = true)
    (hfence : (s.viewOf (tBase + o)).on GLB_FENCE_HOST = false) : s.tPort true (tBase + o) v = s.tDone 0 false := by
  have hspace : ¬ tBase + 0x10000 ≤ tBase + o := by omega
  have hshared : setsShared (tBase + o) (s.word (tBase + o)) v = false := by simp [setsShared, hcls]
  have hwrite : s.regWrite .tPort (tBase + o) v = (s, 0) := State.regWrite_of_reachesNone h hmay hfence
  simp only [State.tPort, hc, Bool.false_eq_true, if_false, hspace, Nat.le_add_right, if_true, hshared, Bool.false_and, hwrite, decide_true, Bool.true_or, ne_eq,
    not_true, decide_false]

/-- Kalvon-T's registers of a selected group hold no setting that the halves share (R25, R112). -/
theorem clsMask_groupWindowT {o : Nat} (h4 : o % 4 = 0) (h : 0x2100 ≤ o ∧ o ≤ 0x2213 ∨ 0x2300 ≤ o ∧ o ≤ 0x2413 ∨ 0x8100 ≤ o ∧ o ≤ 0x81fb) :
    clsMask (tBase + o) .i = 0 := by
  have htap : ∀ i < 69, clsMask (tBase + (0x2100 + 4 * i)) .i = 0 := by decide +kernel
  have herr : ∀ i < 69, clsMask (tBase + (0x2300 + 4 * i)) .i = 0 := by decide +kernel
  have hhist : ∀ i < 63, clsMask (tBase + (0x8100 + 4 * i)) .i = 0 := by decide +kernel
  rcases h with h | h | h
  · rw [show o = 0x2100 + 4 * ((o - 0x2100) / 4) by omega]
    exact htap _ (by omega)
  · rw [show o = 0x2300 + 4 * ((o - 0x2300) / 4) by omega]
    exact herr _ (by omega)
  · rw [show o = 0x8100 + 4 * ((o - 0x8100) / 4) by omega]
    exact hhist _ (by omega)

/-! ## The statement -/

theorem bPort_beyondBuild {s : State} {k : Nat} (h4 : k % 4 = 0) (hb : s.bReset = false) (h : beyondB s (copyOf .bPort) k) :
    s.Answers (.registerRead .bPort k) (fun t => hostDone t ∧ t.pins.bRdata = 0 ∧ t.word = s.word) ∧
      ∀ v, v < 2 ^ 32 → HostMay s k v → s.Answers (.registerWrite .bPort k v) (fun t => hostDone t ∧ t = { s with pins := t.pins }) := by
  have hnone := State.reachesNone_of_beyondB h
  obtain ⟨hk, hroute⟩ := beyondB_place h
  refine ⟨?_, fun v hv ⟨_, hfence, hmay, _⟩ => ?_⟩
  · have hread := (State.access_bPort false 0 h4 hk hb).trans (State.bPort_read_of_reachesNone _ hnone hroute)
    exact State.answers_done (congrArg s.done hread) ⟨rfl, rfl, rfl, rfl, rfl⟩ ⟨⟨rfl, rfl⟩, rfl, rfl⟩
  · have hwrite := State.access_bPort true v h4 hk hb
    rw [Nat.mod_eq_of_lt hv, State.bPort_write_of_reachesNone hnone hk hmay hfence] at hwrite
    exact State.answers_done (congrArg s.done hwrite) ⟨rfl, rfl, rfl, rfl, rfl⟩ ⟨⟨rfl, rfl⟩, rfl⟩

theorem tPort_beyondBuild {s : State} {o : Nat} (h4 : o % 4 = 0) (ht : s.tReset = false) (hc : s.crossing 0 = false) (h : beyondT s (copyOf .tPort) o) :
    s.Answers (.registerRead .tPort (tBase + o)) (fun t => t.pins.tAck = true ∧ t.pins.tErr = false ∧ t.pins.tRdata = 0 ∧ t.word = s.word) ∧
      ∀ v, v < 2 ^ 32 → (s.viewOf (tBase + o)).mayWrite false (tBase + o) v = true → (s.viewOf (tBase + o)).on GLB_FENCE_HOST = false →
        s.Answers (.registerWrite .tPort (tBase + o) v) (fun t => t.pins.tAck = true ∧ t.pins.tErr = false ∧ t = { s with pins := t.pins }) := by
  have hnone := State.reachesNone_of_beyondT h
  obtain ⟨-, hwin⟩ := h
  have ho : o < 0x10000 := by omega
  refine ⟨?_, fun v hv hmay hfence => ?_⟩
  · have hread := (State.access_tPort false 0 h4 ho ht).trans (State.tPort_read_of_reachesNone _ hnone ho hc)
    exact State.answers_done (congrArg s.done hread) ⟨rfl, rfl, rfl, rfl, rfl⟩ ⟨rfl, rfl, rfl, rfl⟩
  · have hwrite := State.access_tPort true v h4 ho ht
    rw [Nat.mod_eq_of_lt hv, State.tPort_write_of_reachesNone hnone ho hc (clsMask_groupWindowT h4 hwin) hmay hfence] at hwrite
    exact State.answers_done (congrArg s.done hwrite) ⟨rfl, rfl, rfl, rfl, rfl⟩ ⟨rfl, rfl, rfl⟩

/-- Settles O58: what lies beyond the build reaches no register, and an access that reaches none reads 0 and writes nothing. -/
theorem registersBeyondTheBuild : Obligations.RegistersBeyondTheBuild := by
  unfold Obligations.RegistersBeyondTheBuild
  refine fun s => ⟨fun k => bPort_beyondBuild, fun o => tPort_beyondBuild, fun m k h => ?_⟩
  have hnone : s.reachesNone m k = true := by
    rcases h with hB | ⟨o, rfl, hT⟩
    · exact State.reachesNone_of_beyondB hB
    · exact State.reachesNone_of_beyondT hT
  exact ⟨State.regRead_of_reachesNone hnone, fun v => State.regWrite_of_reachesNone hnone⟩

end Sys2Proof.Machine
end
